-- ==== Sys2Proof/Word.lean ====
section
/-! DEFINITION. The word types of the PB8: bytes of the budget link, halfwords of the local bus, slot numbers. -/

namespace Sys2Proof

/-- A byte of the budget link (R47). -/
abbrev Byte := BitVec 8

/-- A halfword of the local bus (R159, 12.2). -/
abbrev Half := BitVec 16

/-- A slot number, 0 to 7 (00_scope.md, Conventions). -/
abbrev SlotId := Fin 8

end Sys2Proof
end

