-- ==== Sys2Proof/Config.lean ====
section
/-! DEFINITION. The figures the manual fixes for every PB8. The manual leaves no value open, so there is no free value here. -/

namespace Sys2Proof.Config

/-- Ticks for which SRC must hold (R11). -/
def srcDebounce : Nat := 20

/-- Ticks for which PRES must hold (R21). -/
def presDebounce : Nat := 50

/-- Length of a pacing frame in ticks (R138). -/
def frameLength : Nat := 31

/-- Phase offset between the frames of neighbouring slots (R138). -/
def frameOffset : Nat := 4

/-- Tick on which the gap timer of a receive assembler expires, counted from its start (R49). -/
def gapTicks : Nat := 2

/-- Largest LEN of a frame (R47). -/
def maxLen : Nat := 20

/-- SYNC (R47). -/
def sync : Byte := 0xC3

/-- Messages a transmit queue holds (R63). -/
def txQueueSize : Nat := 4

/-- Retransmissions of a chip-originated message (R60). -/
def maxRetries : Nat := 3

/-- Entries of the command queue (R163). -/
def cmdQueueSize : Nat := 4

/-- The Command Unit takes a command while fewer reports than this are held (R164). -/
def throttle : Nat := 24

/-- Reports stored before a GAP is needed (R176). -/
def reportLimit : Nat := 31

/-- Largest count of a GAP record (R177). -/
def maxGap : Nat := 65535

/-- Largest overtaken count (R110). -/
def maxOvertaken : Nat := 7

/-- Largest capacity or reserve (R12, R15). -/
def maxBudget : Nat := 4095

/-- Ticks in a second, the unit of the lease field (R97). -/
def ticksPerSecond : Nat := 1000

/-- Ticks in the unit of the settle, hello timeout and reclaim window fields (R28, R125). -/
def ticksPerUnit : Nat := 10

/-- The slot number that stands for no slot (00_scope.md, Conventions). -/
def noSlot : Nat := 15

/-- The byte that stands for no value in a snapshot (R183). -/
def noByte : Nat := 0xFF

/-- ID part number (R159). -/
def idPart : Half := 0xB8A1

/-- ID revision (R159). -/
def idRevision : Half := 0x0001

end Sys2Proof.Config
end

