-- ==== Sys2Proof/Syntax.lean ====
section
/-! DEFINITION. The commands of the PB8: one constructor of Instr for each row of spec/opcode_table.json.
The table gives no operand fields; each constructor's operands are those its owning rule reads (DESIGN CHOICE, log entry 4). -/

namespace Sys2Proof

/-- The card-originated message kinds (R51). -/
inductive LinkKind where
  | hello | ask | yield | withdraw | renew | confirm | ack
  deriving DecidableEq, Repr

/-- A completed frame as the assembler stored it, the operand of the rows of frames (DESIGN CHOICE, log entry 5). LEN is the length of the payload (R47, R48). -/
structure RxFrame where
  kind : Byte
  ctl : Byte
  payload : List Byte
  crc : Byte
  deriving DecidableEq, Repr

/-- What abandons a frame under R48. -/
inductive AbandonCause where
  /-- The byte received in LENGTH. It abandons the frame when it is above 20. -/
  | badLength (len : Byte)
  /-- A byte whose stop bit is sampled at the space level. -/
  | framingError
  deriving DecidableEq, Repr

/-- What a write strobe selects: the register index on A5 to A0, and whether RESET# is asserted while it is strobed (R159; an operand like
every pin level, DESIGN CHOICE, log entries 4 and 13). -/
structure BusAccess where
  addr : BitVec 6
  resetAsserted : Bool
  deriving DecidableEq, Repr

/-- The bytes of frames on the eight links as a tick finds them (R49): bit n of `ended` says that such a byte has ended on LRXn since the
tick before, bit n of `underWay` that one is under way on LRXn at the tick (DESIGN CHOICE, log entry 4). -/
structure LineActivity where
  ended : BitVec 8
  underWay : BitVec 8
  deriving DecidableEq, Repr

/-- A command of the PB8. -/
inductive Instr where
  /-- Assertion of RESET# (R19, R20, R59, R172, R182). The block stays as it leaves it until RESET# is released (log entry 13). -/
  | pinReset
  /-- The pending SRC value has held for 20 ticks (R11). -/
  | srcDebounceTaken
  /-- The debounced presence of the slot becomes present (R22). -/
  | arrivalOfPresence (slot : SlotId)
  /-- The debounced presence of the slot becomes absent (R23). -/
  | lossOfPresence (slot : SlotId)
  /-- SWFLT of the slot is sampled asserted (R30). -/
  | switchFault (slot : SlotId)
  | settleTimerExpiry (slot : SlotId)
  | helloTimerExpiry (slot : SlotId)
  | cutCompletion (slot : SlotId)
  | leaseExpiry (slot : SlotId)
  | reclaimWindowExpiry (slot : SlotId)
  | frameStart (slot : SlotId)
  | replyWindowExpiry (slot : SlotId)
  | gapTimerExpiry (slot : SlotId)
  | frameAbandoned (slot : SlotId) (cause : AbandonCause)
  | linkFrameDiscarded (slot : SlotId) (frame : RxFrame)
  /-- A frame of a known kind whose payload length does not suit that kind (R54). -/
  | malformed (slot : SlotId) (kind : LinkKind) (tag : BitVec 3) (payload : List Byte)
  /-- HELLO: card id (byte 0 in bits 7:0), declared floor, draws from step 0 up (R51). The step count is the number of draws. -/
  | hello (slot : SlotId) (tag : BitVec 3) (cardId : BitVec 32) (floor : Byte) (draws : List Half)
  /-- ASK: asked step, floor, flags with DEFERRABLE in bit 0 (R51, 12.1). -/
  | ask (slot : SlotId) (tag : BitVec 3) (asked floor flags : Byte)
  | yield (slot : SlotId) (tag : BitVec 3) (target : Byte)
  | withdraw (slot : SlotId) (tag : BitVec 3)
  | renew (slot : SlotId) (tag : BitVec 3)
  | confirm (slot : SlotId) (tag : BitVec 3) (target : Byte)
  | ack (slot : SlotId) (seq : Bool)
  | frameTransmitted (slot : SlotId)
  /-- The SLOT_CONFIG rows: P0 and P2 of the command; P1 is the field the row names (R41, 12.2). -/
  | slotConfigEnabled (p0 value : Half)
  | slotConfigClass (p0 value : Half)
  | slotConfigCap (p0 value : Half)
  | slotConfigAdmissionCharge (p0 value : Half)
  | slotConfigLease (p0 value : Half)
  | slotConfigSettle (p0 value : Half)
  | slotConfigDischarge (p0 value : Half)
  | slotConfigHelloTimeout (p0 value : Half)
  | slotConfigReplyWindow (p0 value : Half)
  | slotConfigReclaimWindow (p0 value : Half)
  | slotConfigFloorOverride (p0 value : Half)
  /-- The other command rows: the parameters the command uses (12.2). -/
  | enable (p0 : Half)
  | disable (p0 : Half)
  | restore (p0 : Half)
  | reclaim (p0 step : Half)
  | dropWait (p0 : Half)
  | setProfile (index capacity : Half)
  | setReserve (amount force : Half)
  | setPolicy (mode limit preempt : Half)
  | restart
  /-- The snapshot rows: the value written to TABLE_INDEX (R170, R171). -/
  | slotRecordSnapshot (index : Half)
  | stepTableSnapshot (index : Half)
  | waitEntrySnapshot (index : Half)
  | episodeRecordSnapshot (index : Half)
  | profileSnapshot (index : Half)
  | recencyListSnapshot (index : Half)
  /-- A write of any value to REPORT_POP (R179). -/
  | reportPop
  | eventsWrite (value : Half)
  | irqEnableWrite (value : Half)
  /-- A write of `value` to the register that `access` selects (R159). -/
  | registerWrite (access : BusAccess) (value : Half)
  /-- A tick with the pin levels it samples, SRC1, SRC0 and the eight PRES pins (bit n for slot n, R21), and with the bytes of frames on
  the links (R49; DESIGN CHOICE, log entry 4). -/
  | tick (src1 src0 : Bool) (pres : BitVec 8) (line : LineActivity)
  /-- 0xC3 received on LRX of the slot, with the bytes received after it and before the next command (R48). -/
  | syncReceived (slot : SlotId) (following : List Byte)
  | cmdCodeWrite (code : Half)
  /-- The Command Unit takes a command whose code names none (R165). -/
  | unknownCommandCode (code p0 : Half)
  /-- The Command Unit takes a SLOT_CONFIG whose field code names no field (R41). -/
  | slotConfigUnknownField (p0 field value : Half)
  /-- The value written to TABLE_INDEX while TABLE_SEL names no table (R170). -/
  | tableIndexWriteNoTable (index : Half)
  deriving DecidableEq, Repr

end Sys2Proof
end

