-- ==== Sys2Proof/Machine/State.lean ====
section
/-! DEFINITION. The state of the PB8, as plain data, and its value after pin reset. -/

namespace Sys2Proof.Machine

/-- The reasons for which a command would stop the block. There is none: every rule of the manual lets the block go on, so no
meaning raises a fault (safe). -/
inductive Fault where
  deriving DecidableEq, Repr

/-- The reasons for which the model would have no meaning for a command. -/
inductive Refusal where
  /-- Raised by an arm of exec whose command has no meaning yet. Safe: the model stops. No arm raises it. -/
  | notModelled (mnemonic : String)
  deriving DecidableEq, Repr

/-- A timer that counts ticks (R1): the ticks still to come, or none while it is stopped. `some 0` is a timer that
has reached its length and whose expiry has not been taken yet. -/
abbrev Timer := Option Nat

/-- A debounced input (R11, R21): the debounced value, and the pending value with its count of ticks. -/
structure Debounce (α : Type) where
  value : α
  pending : Option (α × Nat)
  deriving DecidableEq, Repr

/-- The states of a slot (R20). -/
inductive SlotState where
  | empty | disabled | locked | admitting | settling | listening | active | cutting
  deriving DecidableEq, Repr

/-- Cut reasons (R34). -/
inductive CutReason where
  | removed | fault | silent | helloTimeout | host | shed | restart
  deriving DecidableEq, Repr

/-- Destinations of a completing cut (R36). -/
inductive Destination where
  | empty | disabled | locked | admission
  deriving DecidableEq, Repr

/-- Reclaim causes (R123). -/
inductive ReclaimCause where
  | shed | lapse | host | cap
  deriving DecidableEq, Repr

/-- Reclaim phases (R123). -/
inductive ReclaimPhase where
  | reclaiming | pacePending | paced
  deriving DecidableEq, Repr

/-- Reasons of a WAIT_DROPPED report (R118). -/
inductive DropReason where
  | withdraw | host | cut | reclaim | restart | grantedNot
  deriving DecidableEq, Repr

/-- Reasons of a REFUSE reply (R52). -/
inductive RefuseReason where
  | notDeclared | alreadyDeclared | badDeclaration | badStep | overCap | malformed | noBudget | inReclaim | noReclaim
  | lapsed | nothingWaiting
  deriving DecidableEq, Repr

/-- Notice kinds (R52). -/
inductive NoticeKind where
  | paced | lapsed | dropped
  deriving DecidableEq, Repr

/-- Replies to requests (R52). -/
inductive Reply where
  | welcome (top lease cls : Nat)
  | grant (step lease : Nat)
  | defer (position : Nat)
  | refuse (reason : RefuseReason)
  | done (value : Nat)
  deriving DecidableEq, Repr

/-- Chip-originated messages (R52). -/
inductive Message where
  | reclaim (target window : Nat)
  | award (step lease : Nat)
  | notice (kind : NoticeKind) (value : Nat)
  deriving DecidableEq, Repr

/-- The phases of a receive assembler with what it holds in each (R48). In BODY it holds LEN and the bytes stored so far. -/
inductive Assembler where
  | off | hunt | length
  | body (len : Nat) (bytes : List Byte)
  deriving DecidableEq, Repr

/-- What a transmitter is sending on LTX (R67). -/
inductive Transmitter where
  | idle
  | reply (tag : BitVec 3) (reply : Reply)
  | message (msg : Message) (seq : Bool)
  deriving DecidableEq, Repr

/-- The record of the reply cache (R56). -/
structure CacheRecord where
  kind : LinkKind
  tag : BitVec 3
  reply : Reply
  deriving DecidableEq, Repr

/-- The outstanding-message record (R59): the message, its SEQ, its retransmission count, its reply-window timer, and whether
a retransmission is due (R60). -/
structure Outstanding where
  msg : Message
  seq : Bool
  retries : Nat
  window : Timer
  due : Bool
  deriving DecidableEq, Repr

/-- A Link Engine (The Budget Link). `undeclared` holds kind and tag of the requests whose repeats the Slot Controller refuses with NOT_DECLARED
again (R83; DESIGN CHOICE, log entry 15); the duplicate check of R56 does not read it. -/
structure Link where
  asm : Assembler
  gap : Timer
  replySlot : Option (BitVec 3 × Reply)
  cache : Option CacheRecord
  undeclared : List (LinkKind × BitVec 3)
  outstanding : Option Outstanding
  nextSeq : Bool
  queue : List Message
  tx : Transmitter
  deriving DecidableEq, Repr

/-- The configuration record of a slot, less the enabled flag (R20, section 2.9). -/
structure SlotConfig where
  cls : Nat
  cap : Nat
  admission : Nat
  lease : Nat
  settle : Nat
  discharge : Nat
  helloTimeout : Nat
  replyWindow : Nat
  reclaimWindow : Nat
  floorOverride : Option Nat
  deriving DecidableEq, Repr

/-- What a slot holds from the acceptance of a HELLO to the completion of the next cut (R77, R78, R82): the step table, the
held step, the effective floor and the usable top step, which stay as computed while the slot is CUTTING (DEDUCED, log entry 8), and the tag of
the accepted HELLO with the WELCOME first composed for it (R81; DESIGN CHOICE, log entry 17). -/
structure Card where
  cardId : BitVec 32
  draws : List Nat
  declaredFloor : Nat
  held : Nat
  effFloor : Nat
  usableTop : Nat
  helloTag : BitVec 3
  welcome : Reply
  deriving DecidableEq, Repr

/-- The reclaim record while it is filled (R123). -/
structure Reclaim where
  target : Nat
  cause : ReclaimCause
  phase : ReclaimPhase
  window : Timer
  basis : Option Nat
  liftPending : Bool
  deriving DecidableEq, Repr

/-- A slot: its Slot Controller's record (R20), its charge at the Arbiter (R2), its widths in the Pace Generator (R139), its
output pins (R39) and its Link Engine. `frameDue` says that the slot's frame has started and that the start is not taken yet. -/
structure Slot where
  state : SlotState
  enabled : Bool
  cfg : SlotConfig
  charge : Nat
  card : Option Card
  reclaim : Option Reclaim
  curWidth : Option Nat
  pendWidth : Option Nat
  cutReason : Option CutReason
  destEmpty : Bool
  pres : Debounce Bool
  settle : Timer
  hello : Timer
  lease : Timer
  discharge : Timer
  frameDue : Bool
  swen : Bool
  run : Bool
  link : Link
  deriving DecidableEq, Repr

/-- Kind of a wait entry, with what a STEP entry carries (R105). -/
inductive WaitKind where
  | admission
  | step (asked floor : Nat)
  deriving DecidableEq, Repr

/-- A wait entry (R105). -/
structure WaitEntry where
  slot : SlotId
  kind : WaitKind
  cls : Nat
  overtaken : Nat
  anchored : Bool
  beneficiary : Bool
  deriving DecidableEq, Repr

/-- Ordering modes of the policy (R109, R110). -/
inductive Mode where
  | fit | strict
  deriving DecidableEq, Repr

/-- The Arbiter's policy (R112). -/
structure Policy where
  mode : Mode
  limit : Nat
  preempt : Bool
  deriving DecidableEq, Repr

/-- Episode kinds (R144). -/
inductive EpisodeKind where
  | none | preempt | overdraft
  deriving DecidableEq, Repr

/-- Episode outcomes (R144). -/
inductive EpisodeOutcome where
  | granted | abandoned | covered | restart
  deriving DecidableEq, Repr

/-- An entry of the victim list (R144). -/
structure Victim where
  slot : SlotId
  target : Nat
  remaining : Nat
  deriving DecidableEq, Repr

/-- An entry of the cut list (R144). -/
structure CutEntry where
  slot : SlotId
  counted : Nat
  deriving DecidableEq, Repr

/-- The episode record (R144). -/
structure Episode where
  kind : EpisodeKind
  beneficiary : Option SlotId
  target : Nat
  victims : List Victim
  cuts : List CutEntry
  deriving DecidableEq, Repr

/-- Result codes of commands (12.2). -/
inductive ResultCode where
  | ok | badCode | badSlot | badValue | badState | overdraw
  deriving DecidableEq, Repr

/-- Report kinds (R175). -/
inductive ReportKind where
  | result | powered | declared | granted | deferred | refused | yielded | confirmed | reclaimStart | paced | lapsed
  | waitDropped | cutStart | cutDone | episodeOpen | episodeClose | capacity | gap
  deriving DecidableEq, Repr

/-- A report record (R175): kind and slot of the first halfword, and the three data halfwords. -/
structure Report where
  kind : ReportKind
  slot : BitVec 4
  a : Half
  b : Half
  c : Half
  deriving DecidableEq, Repr

/-- An entry of the command queue (R163). -/
structure CmdEntry where
  code : Half
  p0 : Half
  p1 : Half
  p2 : Half
  deriving DecidableEq, Repr

/-- The state of the PB8. -/
structure State where
  /-- Cycles of REFCLK that the Timebase's divider has counted since the last tick (R1). It moves below the tick, which no row does:
  the model holds it at the 0 at which RESET# and each tick leave it (log entry 7). -/
  tickDivider : Nat
  /-- Frame counter of the Pace Generator (R138). -/
  frameCounter : Nat
  /-- Capacity fields of the four profile records (R12). -/
  profiles : Vector Nat 4
  /-- The SRC debounce; its value is the active profile index (R11). -/
  src : Debounce (Fin 4)
  /-- C (R2). -/
  capacity : Nat
  /-- H (R2). -/
  reserve : Nat
  policy : Policy
  /-- The wait list, head first (R105, R106). -/
  waitList : List WaitEntry
  /-- The recency list, head first (R91). -/
  recency : List SlotId
  episode : Episode
  slots : Vector Slot 8
  /-- The report queue, head first (R174). -/
  reports : List Report
  /-- The command queue, head first (R163). -/
  cmdQueue : List CmdEntry
  cmdP0 : Half
  cmdP1 : Half
  cmdP2 : Half
  /-- The three flags of EVENTS (R161). -/
  gapSeen : Bool
  cmdOverrun : Bool
  capacityChanged : Bool
  irqEnable : BitVec 7
  tableSel : Half
  tableIndex : Half
  tableData : Vector Half 8
  /-- The commands that wait to be taken, first in, first out: the model's own field, not the manual's (DESIGN CHOICE, log entry 1). -/
  pending : List Instr
  deriving DecidableEq, Repr

/-- A stopped debounce that rests at `v`. -/
def Debounce.rest {α : Type} (v : α) : Debounce α := { value := v, pending := none }

/-- Reset values of the configuration record (section 2.9). -/
def SlotConfig.reset : SlotConfig :=
  { cls := 1, cap := 1023, admission := 20, lease := 0, settle := 10, discharge := 50, helloTimeout := 50,
    replyWindow := 20, reclaimWindow := 20, floorOverride := none }

/-- A Link Engine after pin reset (R48, R58, R59, R63). -/
def Link.reset : Link :=
  { asm := .off, gap := none, replySlot := none, cache := none, undeclared := [], outstanding := none, nextSeq := false, queue := []
    tx := .idle }

/-- A slot after pin reset (R20, R39, R139). -/
def Slot.reset : Slot :=
  { state := .empty, enabled := false, cfg := SlotConfig.reset, charge := 0, card := none, reclaim := none, curWidth := none,
    pendWidth := none, cutReason := none, destEmpty := false, pres := Debounce.rest false, settle := none, hello := none,
    lease := none, discharge := none, frameDue := false, swen := false, run := false, link := Link.reset }

/-- The policy after pin reset (R112). -/
def Policy.reset : Policy := { mode := .fit, limit := 3, preempt := false }

/-- The episode record while no episode is open (R144). -/
def Episode.closed : Episode := { kind := .none, beneficiary := none, target := 0, victims := [], cuts := [] }

/-- The PB8 after pin reset (R19, R20, R138, R172, R182). -/
def State.reset : State :=
  { tickDivider := 0, frameCounter := 0, profiles := Vector.replicate 4 0, src := Debounce.rest 0, capacity := 0, reserve := 0,
    policy := Policy.reset, waitList := [], recency := [], episode := Episode.closed, slots := Vector.replicate 8 Slot.reset,
    reports := [], cmdQueue := [], cmdP0 := 0, cmdP1 := 0, cmdP2 := 0, gapSeen := false, cmdOverrun := false,
    capacityChanged := false, irqEnable := 0, tableSel := 0, tableIndex := 0, tableData := Vector.replicate 8 0, pending := [] }

end Sys2Proof.Machine
end

