-- ==== Sys2Proof/Machine/Codes.lean ====
section
/-! DEFINITION. The codes of chapter 12: link kinds, refuse reasons, report kinds and the code fields of reports and snapshots. -/

namespace Sys2Proof.Machine

/-- Link kind codes of the card-originated kinds (12.1). -/
def linkKindCode : LinkKind → Byte
  | .hello => 0x01
  | .ask => 0x02
  | .yield => 0x03
  | .withdraw => 0x04
  | .renew => 0x05
  | .confirm => 0x06
  | .ack => 0x07

/-- The card-originated kind a KIND byte names, if any (R51, R53). -/
def linkKindOf (b : Byte) : Option LinkKind :=
  [LinkKind.hello, .ask, .yield, .withdraw, .renew, .confirm, .ack].find? (fun k => linkKindCode k == b)

/-- Link kind codes of the replies (12.1). -/
def replyKindCode : Reply → Byte
  | .welcome _ _ _ => 0x81
  | .grant _ _ => 0x82
  | .defer _ => 0x83
  | .refuse _ => 0x84
  | .done _ => 0x85

/-- Link kind codes of the chip-originated messages (12.1). -/
def messageKindCode : Message → Byte
  | .reclaim _ _ => 0x88
  | .award _ _ => 0x89
  | .notice _ _ => 0x8A

/-- Refuse reason codes (12.1). -/
def refuseCode : RefuseReason → Nat
  | .notDeclared => 1
  | .alreadyDeclared => 2
  | .badDeclaration => 3
  | .badStep => 4
  | .overCap => 5
  | .malformed => 6
  | .noBudget => 7
  | .inReclaim => 8
  | .noReclaim => 9
  | .lapsed => 10
  | .nothingWaiting => 11

/-- Notice kind codes (12.1). -/
def noticeCode : NoticeKind → Nat
  | .paced => 1
  | .lapsed => 2
  | .dropped => 3

/-- Report kind codes (12.3). -/
def reportKindCode : ReportKind → Nat
  | .result => 1
  | .powered => 2
  | .declared => 3
  | .granted => 4
  | .deferred => 5
  | .refused => 6
  | .yielded => 7
  | .confirmed => 8
  | .reclaimStart => 9
  | .paced => 10
  | .lapsed => 11
  | .waitDropped => 12
  | .cutStart => 13
  | .cutDone => 14
  | .episodeOpen => 15
  | .episodeClose => 16
  | .capacity => 17
  | .gap => 18

/-- Reclaim cause codes (12.3). -/
def causeCode : ReclaimCause → Nat
  | .shed => 1
  | .lapse => 2
  | .host => 3
  | .cap => 4

/-- Cut reason codes (12.3). -/
def cutReasonCode : CutReason → Nat
  | .removed => 1
  | .fault => 2
  | .silent => 3
  | .helloTimeout => 4
  | .host => 5
  | .shed => 6
  | .restart => 7

/-- CUT_DONE destination codes (12.3). -/
def destinationCode : Destination → Nat
  | .empty => 1
  | .disabled => 2
  | .locked => 3
  | .admission => 4

/-- WAIT_DROPPED reason codes (12.3). -/
def dropCode : DropReason → Nat
  | .withdraw => 1
  | .host => 2
  | .cut => 3
  | .reclaim => 4
  | .restart => 5
  | .grantedNot => 6

/-- Episode kind codes (12.3). -/
def episodeKindCode : EpisodeKind → Nat
  | .none => 0
  | .preempt => 1
  | .overdraft => 2

/-- Episode outcome codes (12.3). -/
def outcomeCode : EpisodeOutcome → Nat
  | .granted => 1
  | .abandoned => 2
  | .covered => 3
  | .restart => 4

/-- Slot state codes (12.3). -/
def slotStateCode : SlotState → Nat
  | .empty => 0
  | .disabled => 1
  | .locked => 2
  | .admitting => 3
  | .settling => 4
  | .listening => 5
  | .active => 6
  | .cutting => 7

/-- Reclaim phase codes (12.3). -/
def phaseCode : ReclaimPhase → Nat
  | .reclaiming => 1
  | .pacePending => 2
  | .paced => 3

/-- Result codes (12.2). -/
def resultCode : ResultCode → Nat
  | .ok => 0
  | .badCode => 1
  | .badSlot => 2
  | .badValue => 3
  | .badState => 4
  | .overdraw => 5

/-- Mode codes (12.2). -/
def modeCode : Mode → Nat
  | .fit => 0
  | .strict => 1

end Sys2Proof.Machine
end

