-- ==== Sys2Proof/Machine/Operands.lean ====
section
/-! DEFINITION. What operands mean: slot numbers, field ranges, steps and draws of a card, the paced width, the declaration's shape. -/

namespace Sys2Proof.Machine

/-- The slot a command parameter names; none above 7, which is refused with BAD_SLOT (R165). -/
def slotOf (p0 : Half) : Option SlotId :=
  if h : p0.toNat < 8 then some ⟨p0.toNat, h⟩ else none

/-- Step count of a card (R77). -/
def Card.count (c : Card) : Nat := c.draws.length

/-- draw(k) (00_scope.md, Conventions). -/
def Card.draw (c : Card) (k : Nat) : Nat := c.draws.getD k 0

/-- draw(held step). -/
def Card.heldDraw (c : Card) : Nat := c.draw c.held

/-- The highest number from `lo` to `hi` that passes the test, tested from the top down (R85, R116). -/
def highest (ok : Nat → Bool) (lo hi : Nat) : Option Nat :=
  ((List.range (hi + 1)).filter (fun g => decide (lo ≤ g) && ok g)).getLast?

/-- Usable top step: the highest step whose draw is within the cap (R77). -/
def usableTopOf (draws : List Nat) (cap : Nat) : Nat :=
  (highest (fun k => decide (draws.getD k 0 ≤ cap)) 0 (draws.length - 1)).getD 0

/-- Effective yield floor of a card with `n` steps (R78). -/
def effectiveFloorOf (override : Option Nat) (declared n : Nat) : Nat :=
  match override with
  | none => declared
  | some s => if s < n then s else n - 1

/-- The draws of a declaration strictly increase from step 0 up (R71). -/
def strictlyIncreasing : List Nat → Bool
  | [] => true
  | [_] => true
  | x :: y :: rest => decide (x < y) && strictlyIncreasing (y :: rest)

/-- The shape check of a declaration (R71). -/
def shapeOk (floor : Nat) (draws : List Nat) : Bool :=
  decide (1 ≤ draws.length) && decide (draws.length ≤ 6) && decide (draws.getD 0 0 ≠ 0) && strictlyIncreasing draws
    && decide (floor < draws.length)

/-- Paced width from draw(0), draw(basis) and draw(target) (R133). -/
def pacedWidth (d0 db dg : Nat) : Nat := (dg - d0) * Config.frameLength / (db - d0)

/-- Paced charge of width W: draw(0) + ceil((draw(basis) - draw(0)) * W / 31) (R133). -/
def pacedCharge (d0 db w : Nat) : Nat := d0 + ((db - d0) * w + (Config.frameLength - 1)) / Config.frameLength

/-- Paced width of a card for a basis step and a target step (R133). -/
def Card.width (c : Card) (basis target : Nat) : Nat := pacedWidth (c.draw 0) (c.draw basis) (c.draw target)

/-- Paced charge of a card for a basis step and a width (R133). -/
def Card.paced (c : Card) (basis w : Nat) : Nat := pacedCharge (c.draw 0) (c.draw basis) w

/-- DEFERRABLE of the flags byte of ASK (12.1). -/
def deferrable (flags : Byte) : Bool := flags.getLsbD 0

/-- A value lies in a field's range (R41, section 2.9). -/
def inRange (lo hi : Nat) (v : Half) : Bool := decide (lo ≤ v.toNat) && decide (v.toNat ≤ hi)

/-- The floor override values: 0 to 5, or 255 for none (R41). -/
def overrideOk (v : Half) : Bool := decide (v.toNat ≤ 5) || decide (v.toNat = 255)

/-- The override a value writes (R41). -/
def overrideOf (v : Half) : Option Nat := if v.toNat = 255 then none else some v.toNat

/-- The raw SRC value, SRC1 the more significant pin (R11). -/
def rawSrc (src1 src0 : Bool) : Fin 4 :=
  match src1, src0 with
  | false, false => 0
  | false, true => 1
  | true, false => 2
  | true, true => 3

/-- The command row that an entry of the command queue spells (12.2, R41, R165). -/
def entryCommand (e : CmdEntry) : Instr :=
  match e.code.toNat with
  | 1 =>
    match e.p1.toNat with
    | 0 => .slotConfigEnabled e.p0 e.p2
    | 1 => .slotConfigClass e.p0 e.p2
    | 2 => .slotConfigCap e.p0 e.p2
    | 3 => .slotConfigAdmissionCharge e.p0 e.p2
    | 4 => .slotConfigLease e.p0 e.p2
    | 5 => .slotConfigSettle e.p0 e.p2
    | 6 => .slotConfigDischarge e.p0 e.p2
    | 7 => .slotConfigHelloTimeout e.p0 e.p2
    | 8 => .slotConfigReplyWindow e.p0 e.p2
    | 9 => .slotConfigReclaimWindow e.p0 e.p2
    | 10 => .slotConfigFloorOverride e.p0 e.p2
    | _ => .slotConfigUnknownField e.p0 e.p1 e.p2
  | 2 => .enable e.p0
  | 3 => .disable e.p0
  | 4 => .restore e.p0
  | 5 => .reclaim e.p0 e.p1
  | 6 => .dropWait e.p0
  | 7 => .setProfile e.p0 e.p1
  | 8 => .setReserve e.p0 e.p1
  | 9 => .setPolicy e.p0 e.p1 e.p2
  | 10 => .restart
  | _ => .unknownCommandCode e.code e.p0

/-- The entry of the command queue that spells a command row (12.2); none for a row that is no command. The parameters a command does
not use are 0. -/
def commandEntry : Instr → Option CmdEntry
  | .slotConfigEnabled p0 v => some { code := 1, p0 := p0, p1 := 0, p2 := v }
  | .slotConfigClass p0 v => some { code := 1, p0 := p0, p1 := 1, p2 := v }
  | .slotConfigCap p0 v => some { code := 1, p0 := p0, p1 := 2, p2 := v }
  | .slotConfigAdmissionCharge p0 v => some { code := 1, p0 := p0, p1 := 3, p2 := v }
  | .slotConfigLease p0 v => some { code := 1, p0 := p0, p1 := 4, p2 := v }
  | .slotConfigSettle p0 v => some { code := 1, p0 := p0, p1 := 5, p2 := v }
  | .slotConfigDischarge p0 v => some { code := 1, p0 := p0, p1 := 6, p2 := v }
  | .slotConfigHelloTimeout p0 v => some { code := 1, p0 := p0, p1 := 7, p2 := v }
  | .slotConfigReplyWindow p0 v => some { code := 1, p0 := p0, p1 := 8, p2 := v }
  | .slotConfigReclaimWindow p0 v => some { code := 1, p0 := p0, p1 := 9, p2 := v }
  | .slotConfigFloorOverride p0 v => some { code := 1, p0 := p0, p1 := 10, p2 := v }
  | .slotConfigUnknownField p0 field v => some { code := 1, p0 := p0, p1 := field, p2 := v }
  | .enable p0 => some { code := 2, p0 := p0, p1 := 0, p2 := 0 }
  | .disable p0 => some { code := 3, p0 := p0, p1 := 0, p2 := 0 }
  | .restore p0 => some { code := 4, p0 := p0, p1 := 0, p2 := 0 }
  | .reclaim p0 step => some { code := 5, p0 := p0, p1 := step, p2 := 0 }
  | .dropWait p0 => some { code := 6, p0 := p0, p1 := 0, p2 := 0 }
  | .setProfile index capacity => some { code := 7, p0 := index, p1 := capacity, p2 := 0 }
  | .setReserve amount force => some { code := 8, p0 := amount, p1 := force, p2 := 0 }
  | .setPolicy mode limit preempt => some { code := 9, p0 := mode, p1 := limit, p2 := preempt }
  | .restart => some { code := 10, p0 := 0, p1 := 0, p2 := 0 }
  | .unknownCommandCode code p0 => some { code := code, p0 := p0, p1 := 0, p2 := 0 }
  | _ => none

end Sys2Proof.Machine
end

