-- ==== Sys2Proof/Machine/Frames.lean ====
section
/-! DEFINITION. Frames of the budget link: CRC-8, the frames the PB8 sends, the judgement of a completed frame, the assembler. -/

namespace Sys2Proof.Machine

/-- One bit of the CRC register (R50): the bit shifted out differs from the data bit, so 0x07 is exclusive-ored in. -/
def crcBit (reg : Byte) (bit : Bool) : Byte :=
  if reg.msb != bit then (reg <<< 1) ^^^ 0x07 else reg <<< 1

/-- One byte of the CRC, most significant bit first (R50). -/
def crcByte (reg b : Byte) : Byte :=
  [7, 6, 5, 4, 3, 2, 1, 0].foldl (fun r k => crcBit r (b.getLsbD k)) reg

/-- CRC-8 over bytes in the order sent (R50). -/
def crc8 (bytes : List Byte) : Byte := bytes.foldl crcByte 0

/-- CTL from TAG and SEQ (12.1). -/
def ctlByte (tag : BitVec 3) (seq : Bool) : Byte :=
  tag.setWidth 8 ||| (if seq then 0x08 else 0x00)

/-- A whole frame from its kind, CTL and payload (R47, R50). -/
def frameBytes (kind ctl : Byte) (payload : List Byte) : List Byte :=
  let body := BitVec.ofNat 8 payload.length :: kind :: ctl :: payload
  Config.sync :: (body ++ [crc8 body])

/-- Payload of a reply (12.1). -/
def replyPayload : Reply → List Byte
  | .welcome top lease cls => [BitVec.ofNat 8 top, BitVec.ofNat 8 lease, BitVec.ofNat 8 cls]
  | .grant step lease => [BitVec.ofNat 8 step, BitVec.ofNat 8 lease]
  | .defer position => [BitVec.ofNat 8 position]
  | .refuse reason => [BitVec.ofNat 8 (refuseCode reason)]
  | .done value => [BitVec.ofNat 8 value]

/-- Payload of a chip-originated message (12.1). -/
def messagePayload : Message → List Byte
  | .reclaim target window => [BitVec.ofNat 8 target, BitVec.ofNat 8 window]
  | .award step lease => [BitVec.ofNat 8 step, BitVec.ofNat 8 lease]
  | .notice kind value => [BitVec.ofNat 8 (noticeCode kind), BitVec.ofNat 8 value]

/-- The bytes a transmitter drives onto LTX for the frame it is sending; none at the idle level (R47, R52). A reply carries its
request's tag and SEQ 0, a chip-originated message TAG 0 and its SEQ. -/
def ltxFrame : Transmitter → List Byte
  | .idle => []
  | .reply tag r => frameBytes (replyKindCode r) (ctlByte tag false) (replyPayload r)
  | .message m seq => frameBytes (messageKindCode m) (ctlByte 0 seq) (messagePayload m)

/-- A completed frame passes the checks of R53: CRC, reserved CTL bits, known kind. -/
def passesChecks (f : RxFrame) : Bool :=
  (crc8 (BitVec.ofNat 8 f.payload.length :: f.kind :: f.ctl :: f.payload) == f.crc) && (f.ctl >>> 4 == 0)
    && (linkKindOf f.kind).isSome

/-- The payload length suits the kind (R54). -/
def lengthSuits (kind : LinkKind) (payload : List Byte) : Bool :=
  match kind with
  | .hello => decide (6 ≤ payload.length) && decide (payload.length = 6 + 2 * (payload.getD 4 0).toNat)
  | .ask => decide (payload.length = 3)
  | .yield => decide (payload.length = 1)
  | .withdraw => decide (payload.length = 0)
  | .renew => decide (payload.length = 0)
  | .confirm => decide (payload.length = 1)
  | .ack => decide (payload.length = 0)

/-- Halfwords sent low byte first (R51). -/
def pairs : List Byte → List Half
  | lo :: hi :: rest => (hi ++ lo) :: pairs rest
  | _ => []

/-- Four bytes as one word, the first in bits 7:0. -/
def wordOf (b : List Byte) : BitVec 32 :=
  b.getD 3 0 ++ b.getD 2 0 ++ b.getD 1 0 ++ b.getD 0 0

/-- The row that a completed frame on the slot's LRX is: discarded (R53), malformed (R54), or a message of its kind (R51, 12.1). -/
def frameCommand (i : SlotId) (f : RxFrame) : Instr :=
  match linkKindOf f.kind with
  | none => .linkFrameDiscarded i f
  | some k =>
    let tag : BitVec 3 := f.ctl.setWidth 3
    let at_ (n : Nat) : Byte := f.payload.getD n 0
    if !passesChecks f then .linkFrameDiscarded i f
    else if !lengthSuits k f.payload then .malformed i k tag f.payload
    else match k with
      | .hello => .hello i tag (wordOf f.payload) (at_ 5) (pairs (f.payload.drop 6))
      | .ask => .ask i tag (at_ 0) (at_ 1) (at_ 2)
      | .yield => .yield i tag (at_ 0)
      | .withdraw => .withdraw i tag
      | .renew => .renew i tag
      | .confirm => .confirm i tag (at_ 0)
      | .ack => .ack i (f.ctl.getLsbD 3)

/-- A frame with the CRC that suits it. -/
def sealFrame (kind ctl : Byte) (payload : List Byte) : RxFrame :=
  { kind := kind, ctl := ctl, payload := payload, crc := crc8 (BitVec.ofNat 8 payload.length :: kind :: ctl :: payload) }

/-- The bytes of a halfword, low byte first. -/
def halfBytes (h : Half) : List Byte := [h.setWidth 8, (h >>> 8).setWidth 8]

/-- The bytes of a card id, byte 0 first. -/
def idBytes (w : BitVec 32) : List Byte :=
  [w.setWidth 8, (w >>> 8).setWidth 8, (w >>> 16).setWidth 8, (w >>> 24).setWidth 8]

/-- The frame a card sends for a request or an ACK (12.1); none for a row that is no such frame. A request's SEQ bit is sent as 0
and an ACK's TAG as 0, since neither is examined (R51). -/
def cardFrame : Instr → Option RxFrame
  | .hello _ tag cardId floor draws =>
    some (sealFrame 0x01 (ctlByte tag false)
      (idBytes cardId ++ [BitVec.ofNat 8 draws.length, floor] ++ draws.flatMap halfBytes))
  | .ask _ tag asked floor flags => some (sealFrame 0x02 (ctlByte tag false) [asked, floor, flags])
  | .yield _ tag target => some (sealFrame 0x03 (ctlByte tag false) [target])
  | .withdraw _ tag => some (sealFrame 0x04 (ctlByte tag false) [])
  | .renew _ tag => some (sealFrame 0x05 (ctlByte tag false) [])
  | .confirm _ tag target => some (sealFrame 0x06 (ctlByte tag false) [target])
  | .ack _ seq => some (sealFrame 0x07 (ctlByte 0 seq) [])
  | .malformed _ kind tag payload => some (sealFrame (linkKindCode kind) (ctlByte tag false) payload)
  | .linkFrameDiscarded _ frame => some frame
  | _ => none

/-- One byte at the receive assembler (R48): the assembler after it, and the frame if the byte completes one. -/
def receiveByte (a : Assembler) (b : Byte) : Assembler × Option RxFrame :=
  match a with
  | .off => (.off, none)
  | .hunt => if b = Config.sync then (.length, none) else (.hunt, none)
  | .length => if Config.maxLen < b.toNat then (.hunt, none) else (.body b.toNat [], none)
  | .body len bytes =>
    let bytes := bytes ++ [b]
    if bytes.length < len + 3 then (.body len bytes, none)
    else (.hunt, some { kind := bytes.getD 0 0, ctl := bytes.getD 1 0, payload := (bytes.drop 2).take len, crc := b })

/-- The assembler is taking a frame: LENGTH or BODY (R49). -/
def Assembler.busy : Assembler → Bool
  | .off => false
  | .hunt => false
  | .length => true
  | .body _ _ => true

end Sys2Proof.Machine
end

