-- ==== Sys2Proof/Machine/Ops.lean ====
section
/-! DEFINITION. The named operations the meanings share: slots, timers, debounces, the budget account, the report queue, the recency list. -/

namespace Sys2Proof.Machine

/-- Slot n. -/
def State.slot (s : State) (i : SlotId) : Slot := s.slots[i]

/-- Change slot n. -/
def State.modSlot (s : State) (i : SlotId) (f : Slot → Slot) : State :=
  { s with slots := s.slots.set i (f s.slots[i]) }

/-- The slots in ascending number. -/
def slotIds : List SlotId := [0, 1, 2, 3, 4, 5, 6, 7]

/-- Replace the wait list. -/
def State.setWait (s : State) (l : List WaitEntry) : State := { s with waitList := l }

/-- Replace the episode record. -/
def State.setEpisode (s : State) (e : Episode) : State := { s with episode := e }

/-- Replace the recency list. -/
def State.setRecency (s : State) (l : List SlotId) : State := { s with recency := l }

/-- Replace the report queue. -/
def State.setReports (s : State) (q : List Report) : State := { s with reports := q }

/-! Timers and debounces. -/

/-- Start, or start afresh, a timer of `n` ticks (R1). -/
def Timer.start (n : Nat) : Timer := some n

/-- A tick counts a running timer (R1). -/
def Timer.tick (t : Timer) : Timer := t.map (· - 1)

/-- The timer has counted to its length and its expiry is to be taken (R1). A stopped timer does not expire. -/
def Timer.due (t : Timer) : Bool := t == some 0

/-- One sample of a debounced input (R11, R21). -/
def Debounce.sample {α : Type} [DecidableEq α] (v : α) (d : Debounce α) : Debounce α :=
  if v = d.value then { d with pending := none }
  else match d.pending with
    | some (p, n) => if p = v then { d with pending := some (p, n + 1) } else { d with pending := some (v, 1) }
    | none => { d with pending := some (v, 1) }

/-- The value to be taken: the pending value, when it has held for `n` ticks (R11, R21). -/
def Debounce.ready {α : Type} (n : Nat) (d : Debounce α) : Option α :=
  match d.pending with
  | some (p, k) => if n ≤ k then some p else none
  | none => none

/-! The budget account. -/

/-- K, the sum of the eight charges (R2). -/
def State.committed (s : State) : Nat := (s.slots.toList.map Slot.charge).sum

/-- A: C - H, or 0 when H is at least C (R2). -/
def State.available (s : State) : Nat := s.capacity - s.reserve

/-- A - K, signed (R2). -/
def State.headroom (s : State) : Int := (s.available : Int) - (s.committed : Int)

/-- A shed episode is open (R144). -/
def State.episodeOpen (s : State) : Bool := decide (s.episode.kind ≠ .none)

/-- An increase is not greater than headroom (R4, R7). -/
def State.within (s : State) (increase : Int) : Bool := decide (increase ≤ s.headroom)

/-- The increase that brings the charge of slot i to `charge`. -/
def State.increase (s : State) (i : SlotId) (charge : Nat) : Int := (charge : Int) - ((s.slot i).charge : Int)

/-- A raise or a lowering of a charge (R4, R6). -/
def State.setCharge (s : State) (i : SlotId) (n : Nat) : State := s.modSlot i (fun t => { t with charge := n })

/-! The report queue. -/

/-- A figure as a data halfword of a report (R175). -/
def half (n : Nat) : Half := BitVec.ofNat 16 n

/-- The slot field of a report. -/
def slotField (i : SlotId) : BitVec 4 := BitVec.ofNat 4 i.val

/-- A report on slot i (R175). -/
def slotReport (kind : ReportKind) (i : SlotId) (a b c : Nat) : Report :=
  { kind := kind, slot := slotField i, a := half a, b := half b, c := half c }

/-- A report on no slot (R175). -/
def chipReport (kind : ReportKind) (a b c : Nat) : Report :=
  { kind := kind, slot := BitVec.ofNat 4 Config.noSlot, a := half a, b := half b, c := half c }

/-- The count of a GAP after one more loss; it saturates (R177). -/
def gapCount (a : Half) : Half := if a.toNat < Config.maxGap then a + 1 else a

/-- The tail record of a report queue is a GAP. -/
def tailIsGap (q : List Report) : Bool :=
  match q.getLast? with
  | some t => decide (t.kind = .gap)
  | none => false

/-- Raise the count of the tail GAP (R177). -/
def countLoss (q : List Report) : List Report :=
  match q.getLast? with
  | some t => q.dropLast ++ [{ t with a := gapCount t.a }]
  | none => q

/-- Append a report, or count it into a GAP, by the table of R176. -/
def State.append (s : State) (r : Report) : State :=
  if s.reports.length < Config.reportLimit then s.setReports (s.reports ++ [r])
  else if tailIsGap s.reports then s.setReports (countLoss s.reports)
  else { s.setReports (s.reports ++ [chipReport .gap 1 0 0]) with gapSeen := true }

/-- Append a report on slot i. -/
def State.report (s : State) (kind : ReportKind) (i : SlotId) (a b c : Nat) : State := s.append (slotReport kind i a b c)

/-! The recency list. -/

/-- Place a slot at the head of the recency list; it is held once (R91). -/
def State.toHead (s : State) (i : SlotId) : State := s.setRecency (i :: s.recency.filter (· ≠ i))

/-- A slot leaves the recency list (R91). -/
def State.leaveRecency (s : State) (i : SlotId) : State := s.setRecency (s.recency.filter (· ≠ i))

/-- The lease timer at a grant that reads lease field L (R97). -/
def leaseAtGrant (lease : Nat) : Timer := if lease = 0 then none else Timer.start (Config.ticksPerSecond * lease)

/-- The level of RUN (R140): low unless ACTIVE, high with no width, and with width W high while the frame counter holds the
slot's offset and the W - 1 counts after it. -/
def runLevel (s : State) (i : SlotId) : Bool :=
  let t := s.slot i
  decide (t.state = .active) &&
    match t.curWidth with
    | none => true
    | some w => decide ((s.frameCounter + Config.frameLength - Config.frameOffset * i.val) % Config.frameLength < w)

/-- Drive RUN of a slot to its level (R140). -/
def State.driveRun (s : State) (i : SlotId) : State := s.modSlot i (fun t => { t with run := runLevel s i })

/-- The slot is powered: SETTLING, LISTENING or ACTIVE (R39). -/
def Slot.powered (t : Slot) : Bool :=
  match t.state with
  | .settling => true
  | .listening => true
  | .active => true
  | .empty => false
  | .disabled => false
  | .locked => false
  | .admitting => false
  | .cutting => false

end Sys2Proof.Machine
end

