-- ==== Sys2Proof/Machine/LinkOps.lean ====
section
/-! DEFINITION. The operations of a Link Engine: transmitter, reply slot and cache, transmit queue, outstanding message, flush. -/

namespace Sys2Proof.Machine

/-- A free transmitter chooses the next frame and begins to send it (R67, R59): the reply, else a due retransmission, else the
head of the queue when nothing is outstanding. Nothing is sent while the link is off (R47). The frame begins within the event that makes it
available (DEDUCED, log entry 7). -/
def Link.pump (l : Link) : Link :=
  if l.asm = .off || decide (l.tx ≠ .idle) then l
  else match l.replySlot with
    | some (tag, r) => { l with tx := .reply tag r, replySlot := none }
    | none =>
      match l.outstanding with
      | some o => if o.due then { l with tx := .message o.msg o.seq, outstanding := some { o with due := false } } else l
      | none =>
        match l.queue with
        | [] => l
        | m :: rest =>
          { l with
            tx := .message m l.nextSeq
            outstanding := some { msg := m, seq := l.nextSeq, retries := 0, window := none, due := false }
            nextSeq := !l.nextSeq
            queue := rest }

/-- Place a reply in the reply slot (R55, R57). -/
def Link.placeReply (tag : BitVec 3) (r : Reply) (l : Link) : Link := { l with replySlot := some (tag, r) }.pump

/-- The message is a NOTICE. -/
def Message.isNotice : Message → Bool
  | .notice _ _ => true
  | .reclaim _ _ => false
  | .award _ _ => false

/-- The message is a RECLAIM. -/
def Message.isReclaim : Message → Bool
  | .reclaim _ _ => true
  | .notice _ _ => false
  | .award _ _ => false

/-- The message is an AWARD. -/
def Message.isAward : Message → Bool
  | .award _ _ => true
  | .reclaim _ _ => false
  | .notice _ _ => false

/-- Join the tail; when the queue is full the oldest NOTICE is removed first (R64, R65, R66). -/
def joinTail (m : Message) (q : List Message) : List Message :=
  (if q.length < Config.txQueueSize then q else q.eraseP Message.isNotice) ++ [m]

/-- Replace in place the first message that passes the test, or join the tail (R64, R65). -/
def replaceOrJoin (same : Message → Bool) (m : Message) (q : List Message) : List Message :=
  if q.any same then q.map (fun x => if same x then m else x) else joinTail m q

/-- Place a RECLAIM (R64). -/
def Link.placeReclaim (target window : Nat) (l : Link) : Link :=
  { l with queue := replaceOrJoin Message.isReclaim (.reclaim target window) l.queue }.pump

/-- Place an AWARD (R65). -/
def Link.placeAward (step lease : Nat) (l : Link) : Link :=
  { l with queue := replaceOrJoin Message.isAward (.award step lease) l.queue }.pump

/-- Place a NOTICE (R66). -/
def Link.placeNotice (kind : NoticeKind) (value : Nat) (l : Link) : Link :=
  { l with queue := joinTail (.notice kind value) l.queue }.pump

/-- A RECLAIM still in the queue when its reclaim ends is removed (R64). -/
def Link.dropReclaim (l : Link) : Link := { l with queue := l.queue.filter (fun m => !m.isReclaim) }

/-- The frame on the assembler completes or is abandoned: it hunts again and the gap timer stops (R48, R49). -/
def Link.rehunt (l : Link) : Link := if l.asm = .off then l else { l with asm := .hunt, gap := none }

/-- The requests whose repeats draw NOT_DECLARED, after a reply to a request (R83): one so refused joins them, and once a request of a kind
has been answered otherwise, the card has given that kind a new tag (DESIGN CHOICE, log entry 15). -/
def noteUndeclared (kind : LinkKind) (tag : BitVec 3) (r : Reply) (l : List (LinkKind × BitVec 3)) : List (LinkKind × BitVec 3) :=
  if r = .refuse .notDeclared then (if (kind, tag) ∈ l then l else l ++ [(kind, tag)]) else l.filter (fun p => decide (p.1 ≠ kind))

/-- The reply cache takes a request and its reply, and the reply is placed (R57). -/
def Link.answer (kind : LinkKind) (tag : BitVec 3) (r : Reply) (l : Link) : Link :=
  Link.placeReply tag r
    { l with cache := some { kind := kind, tag := tag, reply := r }, undeclared := noteUndeclared kind tag r l.undeclared }

/-- An ACK at the outstanding-message record (R61). -/
def Link.acknowledge (seq : Bool) (l : Link) : Link :=
  match l.outstanding with
  | some o => if o.seq = seq then { l with outstanding := none }.pump else l
  | none => l

/-- The last byte of the frame on LTX leaves (R59, R60, R67): the reply window of a message still outstanding starts, with the
field `window` read now, and the transmitter is free. -/
def Link.sent (window : Nat) (l : Link) : Link :=
  match l.tx with
  | .idle => l
  | .reply _ _ => { l with tx := .idle }.pump
  | .message _ _ =>
    Link.pump { l with tx := .idle, outstanding := l.outstanding.map (fun o => { o with window := Timer.start window }) }

/-- The reply window of the outstanding message expires with a count below 3: a retransmission becomes due (R60). -/
def Link.retry (o : Outstanding) (l : Link) : Link :=
  Link.pump { l with outstanding := some { o with retries := o.retries + 1, due := true, window := none } }

/-- The flush at the start of a cut (R68). -/
def Link.flush (l : Link) : Link :=
  { l with asm := .off, gap := none, replySlot := none, outstanding := none, queue := [], tx := .idle }

/-- The link at an entry to LISTENING (R28, R48, R59). -/
def Link.switchOn (l : Link) : Link :=
  { l with asm := .hunt, gap := none, replySlot := none, outstanding := none, queue := [], tx := .idle, nextSeq := false }

/-- Change the Link Engine of slot i. -/
def State.modLink (s : State) (i : SlotId) (f : Link → Link) : State := s.modSlot i (fun t => { t with link := f t.link })

/-- Queue NOTICE (R66). -/
def State.notice (s : State) (i : SlotId) (kind : NoticeKind) (value : Nat) : State := s.modLink i (Link.placeNotice kind value)

/-- Queue RECLAIM(target, window) with the reclaim window field read now (R125, R135). -/
def State.sendReclaim (s : State) (i : SlotId) (target : Nat) : State :=
  s.modLink i (Link.placeReclaim target (s.slot i).cfg.reclaimWindow)

/-- Compose the reply to a new request (R57). -/
def State.answer (s : State) (i : SlotId) (kind : LinkKind) (tag : BitVec 3) (r : Reply) : State :=
  s.modLink i (Link.answer kind tag r)

/-- Refuse a new request: REFUSE enters cache and reply slot, and REFUSED is appended (R57). -/
def State.refuse (s : State) (i : SlotId) (kind : LinkKind) (tag : BitVec 3) (reason : RefuseReason) : State :=
  (s.answer i kind tag (.refuse reason)).report .refused i (refuseCode reason) (linkKindCode kind).toNat 0

end Sys2Proof.Machine
end

