-- ==== Sys2Proof/Machine/WaitList.lean ====
section
/-! DEFINITION. The wait list: places, ordering, overtaking, grants, the release walk, the episode check, removal. -/

namespace Sys2Proof.Machine

/-! Entries and places. -/

/-- The entry slot i holds, if any (R106). -/
def State.entryOf (s : State) (i : SlotId) : Option WaitEntry := s.waitList.find? (fun e => e.slot = i)

/-- 1-based position of the entry of slot i (R108). -/
def State.position (s : State) (i : SlotId) : Nat := s.waitList.findIdx (fun e => e.slot = i) + 1

/-- Insert directly after the last entry whose class is equal or higher; at the head when there is none (R106). -/
def insertEntry (e : WaitEntry) : List WaitEntry → List WaitEntry
  | [] => [e]
  | x :: rest => if (x :: rest).any (fun y => decide (e.cls ≤ y.cls)) then x :: insertEntry e rest else e :: x :: rest

/-- The list less the entry of slot i. -/
def withoutSlot (i : SlotId) (l : List WaitEntry) : List WaitEntry := l.filter (fun e => e.slot ≠ i)

/-- The entries in front of the entry of slot i. -/
def inFront (i : SlotId) (l : List WaitEntry) : List WaitEntry := l.takeWhile (fun e => e.slot ≠ i)

/-- A new entry of slot i (R105). -/
def newEntry (i : SlotId) (kind : WaitKind) (cls : Nat) : WaitEntry :=
  { slot := i, kind := kind, cls := cls, overtaken := 0, anchored := false, beneficiary := false }

/-! Ordering (R109 to R111). -/

/-- The entries ahead of a request of slot i with class c: those in front of its own entry, or for a slot with no entry those of
its class or a higher one (R109). -/
def State.ahead (s : State) (i : SlotId) (c : Nat) : List WaitEntry :=
  if (s.entryOf i).isSome then inFront i s.waitList else s.waitList.filter (fun e => decide (c ≤ e.cls))

/-- The request passes ordering: in STRICT mode nothing stands ahead, in FIT mode nothing anchored (R109, R110). -/
def State.passesOrdering (s : State) (i : SlotId) (c : Nat) : Bool :=
  match s.policy.mode with
  | .strict => (s.ahead i c).isEmpty
  | .fit => !(s.ahead i c).any WaitEntry.anchored

/-- Count an entry as overtaken once; reaching the limit anchors it (R110, R111). -/
def WaitEntry.overtake (limit : Nat) (e : WaitEntry) : WaitEntry :=
  let n := if e.overtaken < Config.maxOvertaken then e.overtaken + 1 else e.overtaken
  { e with overtaken := n, anchored := e.anchored || decide (limit ≤ n) }

/-- Count the entries in front of the entry of slot i as overtaken. -/
def overtakeInFront (limit : Nat) (i : SlotId) (l : List WaitEntry) : List WaitEntry :=
  (inFront i l).map (WaitEntry.overtake limit) ++ l.dropWhile (fun e => e.slot ≠ i)

/-- In FIT mode a grant to slot i with class c counts every entry ahead as overtaken (R110). -/
def State.countOvertaken (s : State) (i : SlotId) (c : Nat) : State :=
  match s.policy.mode with
  | .strict => s
  | .fit =>
    if (s.entryOf i).isSome then s.setWait (overtakeInFront s.policy.limit i s.waitList)
    else s.setWait (s.waitList.map (fun e => if c ≤ e.cls then e.overtake s.policy.limit else e))

/-- The entry of slot i leaves the list. -/
def State.removeEntry (s : State) (i : SlotId) : State := s.setWait (withoutSlot i s.waitList)

/-! Grants. -/

/-- The highest step from `top` down to `floor` whose increase is not greater than headroom (R85, R116, R150). -/
def State.bestStep (s : State) (i : SlotId) (c : Card) (floor top : Nat) : Option Nat :=
  highest (fun g => s.within (s.increase i (c.draw g))) floor top

/-- Step g is granted to slot i: charge, held step, recency list and lease timer (R86, R116). -/
def State.grantStep (s : State) (i : SlotId) (c : Card) (g : Nat) : State :=
  (s.modSlot i (fun t => { t with charge := c.draw g, card := some { c with held := g }, lease := leaseAtGrant t.cfg.lease })).toHead i

/-- The Arbiter grants step g of a waiting entry and tells the card by AWARD (R116). -/
def State.award (s : State) (i : SlotId) (c : Card) (g : Nat) : State :=
  ((s.grantStep i c g).modLink i (Link.placeAward g (s.slot i).cfg.lease)).report .granted i g (c.draw g) 1

/-- The admission charge is raised, the switch closed and the settle timer started (R24, R25, R115). -/
def State.powerUp (s : State) (i : SlotId) : State :=
  let cfg := (s.slot i).cfg
  (s.modSlot i (fun t =>
    { t with
      charge := cfg.admission
      swen := true
      state := .settling
      settle := Timer.start (Config.ticksPerUnit * cfg.settle) })).report .powered i cfg.admission 0 0

/-- What the walk would grant an entry, against the account as it stands (R114, R116): none when it does not fit. The number is the
granted step of a STEP entry and 0 for an ADMIT entry. -/
def State.grantFor (s : State) (e : WaitEntry) : Option Nat :=
  match e.kind with
  | .admission => if s.within (s.slot e.slot).cfg.admission then some 0 else none
  | .step asked floor =>
    match (s.slot e.slot).card with
    | some c => s.bestStep e.slot c floor (min asked c.usableTop)
    | none => none

/-- The grant of an entry, less its leaving of the list (R115, R116). -/
def State.grantEntry (s : State) (e : WaitEntry) (g : Nat) : State :=
  match e.kind with
  | .admission => s.powerUp e.slot
  | .step _ _ =>
    match (s.slot e.slot).card with
    | some c => s.award e.slot c g
    | none => s

/-- The release walk over `rest`, with the entries in `passed` tested and kept (R114). -/
def walkOver : List WaitEntry → List WaitEntry → State → State
  | passed, [], s => s.setWait passed
  | passed, e :: rest, s =>
    match s.grantFor e with
    | some g =>
      match s.policy.mode with
      | .strict => walkOver passed rest (s.grantEntry e g)
      | .fit =>
        let passed' := passed.map (WaitEntry.overtake s.policy.limit)
        if passed'.any WaitEntry.anchored then (s.grantEntry e g).setWait (passed' ++ rest)
        else walkOver passed' rest (s.grantEntry e g)
    | none =>
      match s.policy.mode with
      | .strict => s.setWait (passed ++ e :: rest)
      | .fit =>
        if e.anchored then s.setWait (passed ++ e :: rest)
        else walkOver (passed ++ [e]) rest s

/-- The release walk (R113, R114). -/
def State.walk (s : State) : State := walkOver [] s.waitList s

/-! The episode check and the follow-up. -/

/-- An episode ends: EPISODE_CLOSE is appended and the record cleared (R155 steps 1 and 2). -/
def State.endEpisode (s : State) (outcome : EpisodeOutcome) : State :=
  (s.append (chipReport .episodeClose (episodeKindCode s.episode.kind) (outcomeCode outcome) 0)).setEpisode Episode.closed

/-- The beneficiary of an open PREEMPT episode (R144). -/
def State.beneficiary (s : State) : Option SlotId :=
  match s.episode.kind with
  | .preempt => s.episode.beneficiary
  | .none => none
  | .overdraft => none

/-- The grant of the beneficiary within the episode check (R150, R110). -/
def State.grantBeneficiary (s : State) (e : WaitEntry) (g : Nat) : State :=
  ((((s.countOvertaken e.slot e.cls).removeEntry e.slot).grantEntry e g).endEpisode .granted).walk

/-- The episode check (R150, R155). -/
def State.episodeCheck (s : State) : State :=
  match s.episode.kind with
  | .none => s
  | .overdraft => if s.committed ≤ s.available then (s.endEpisode .covered).walk else s
  | .preempt =>
    match s.beneficiary.bind s.entryOf with
    | none => s
    | some e =>
      match s.grantFor e with
      | some g => s.grantBeneficiary e g
      | none => s

/-- The follow-up of R10: the release walk, or the episode check while an episode is open. -/
def State.followUp (s : State) : State := if s.episodeOpen then s.episodeCheck else s.walk

/-- The follow-up of a lowering; a notice that changes nothing has none (R6). -/
def State.followUpIf (s : State) (changed : Bool) : State := if changed then s.followUp else s

/-! Removal. -/

/-- Close a PREEMPT episode whose beneficiary is slot i (R119, R151). -/
def State.abandonFor (s : State) (i : SlotId) : State :=
  if s.beneficiary = some i then s.endEpisode .abandoned else s

/-- Remove an entry with its WAIT_DROPPED report, and close the episode it was the beneficiary of (R118, R119). The follow-up is
left to the event. -/
def State.dropEntry (s : State) (e : WaitEntry) (reason : DropReason) : State :=
  ((s.removeEntry e.slot).report .waitDropped e.slot (dropCode reason) 0 0).abandonFor e.slot

/-- Queue NOTICE(DROPPED, asked step) for a removed STEP entry (R118). -/
def State.noticeDropped (s : State) (e : WaitEntry) : State :=
  match e.kind with
  | .admission => s
  | .step asked _ => s.notice e.slot .dropped asked

/-- The entry of slot i takes class c; when it differs the entry moves after the last entry of its new class (R107). The second
component says that it moved. -/
def State.reclassEntry (s : State) (i : SlotId) (c : Nat) : State × Bool :=
  match s.entryOf i with
  | none => (s, false)
  | some e =>
    if e.cls = c then (s, false)
    else (s.setWait (insertEntry { e with cls := c } (withoutSlot i s.waitList)), true)

end Sys2Proof.Machine
end

