-- ==== Sys2Proof/Machine/Victims.lean ====
section
/-! DEFINITION. The Arbiter's bookkeeping of victims and cuts in the episode record (R137, R148), and the figures E and S. -/

namespace Sys2Proof.Machine

/-- Slot i is on the victim list. -/
def State.isVictim (s : State) (i : SlotId) : Bool := s.episode.victims.any (fun v => decide (v.slot = i))

/-- Slot i is on the cut list. -/
def State.isCut (s : State) (i : SlotId) : Bool := s.episode.cuts.any (fun c => decide (c.slot = i))

/-- Expected reduction E (R144). -/
def Episode.expected (e : Episode) : Nat := (e.victims.map Victim.remaining).sum + (e.cuts.map CutEntry.counted).sum

/-- Remaining reduction of a victim: its charge less draw(target), or 0 where negative (R148). -/
def State.remainingFor (s : State) (i : SlotId) (target : Nat) : Nat :=
  match (s.slot i).card with
  | some c => (s.slot i).charge - c.draw target
  | none => 0

/-- Change the victim list. -/
def State.setVictims (s : State) (l : List Victim) : State := s.setEpisode { s.episode with victims := l }

/-- Change the cut list. -/
def State.setCuts (s : State) (l : List CutEntry) : State := s.setEpisode { s.episode with cuts := l }

/-- Enter a victim at the tail of the victim list (R146). -/
def State.enterVictim (s : State) (i : SlotId) (target : Nat) : State :=
  s.setVictims (s.episode.victims ++ [{ slot := i, target := target, remaining := s.remainingFor i target }])

/-- A victim's charge or target may have changed: its remaining reduction is recomputed from the charge held (R148). -/
def State.refreshVictim (s : State) (i : SlotId) : State :=
  s.setVictims (s.episode.victims.map (fun v => if v.slot = i then { v with remaining := s.remainingFor i v.target } else v))

/-- A victim is retargeted (R148). -/
def State.retargetVictim (s : State) (i : SlotId) (target : Nat) : State :=
  s.setVictims (s.episode.victims.map (fun v =>
    if v.slot = i then { v with target := target, remaining := s.remainingFor i target } else v))

/-- A victim's reclaim concludes (R148), whatever its cause has become (DEDUCED, log entry 9). -/
def State.leaveVictims (s : State) (i : SlotId) : State := s.setVictims (s.episode.victims.filter (fun v => v.slot ≠ i))

/-- Enter a slot in the cut list with its charge (R147, R148). -/
def State.enterCut (s : State) (i : SlotId) : State :=
  s.setCuts (s.episode.cuts ++ [{ slot := i, counted := (s.slot i).charge }])

/-- A victim is cut: it moves from the victim list to the cut list (R148). -/
def State.cutVictim (s : State) (i : SlotId) : State := if s.isVictim i then (s.leaveVictims i).enterCut i else s

/-- A cut completes: the slot leaves the cut list (R148). -/
def State.leaveCuts (s : State) (i : SlotId) : State := s.setCuts (s.episode.cuts.filter (fun c => c.slot ≠ i))

end Sys2Proof.Machine
end

