-- ==== Sys2Proof/Machine/Power.lean ====
section
/-! DEFINITION. The power path of a slot: admission, the cut, its completion, presence. -/

namespace Sys2Proof.Machine

/-- Admission starts (R24): granted at once, or deferred as an ADMIT entry. -/
def State.startAdmission (s : State) (i : SlotId) : State :=
  let cfg := (s.slot i).cfg
  if !s.episodeOpen && s.within cfg.admission && s.passesOrdering i cfg.cls then
    (s.countOvertaken i cfg.cls).powerUp i
  else
    let s := s.setWait (insertEntry (newEntry i .admission cfg.cls) s.waitList)
    (s.modSlot i (fun t => { t with state := .admitting })).report .deferred i (s.position i) 0 0

/-- What the start of a cut does to the slot itself (R34). -/
def Slot.cut (reason : CutReason) (t : Slot) : Slot :=
  { t with
    state := .cutting, cutReason := some reason, destEmpty := false, reclaim := none, curWidth := none, pendWidth := none
    settle := none, hello := none, lease := none, discharge := Timer.start t.cfg.discharge, swen := false, run := false
    link := t.link.flush }

/-- A cut starts in a powered slot (R34), with the reports in the order of the rule. -/
def State.startCut (s : State) (i : SlotId) (reason : CutReason) : State :=
  let charge := (s.slot i).charge
  let s := (((s.modSlot i (Slot.cut reason)).leaveRecency i).cutVictim i).report .cutStart i (cutReasonCode reason) charge 0
  match s.entryOf i with
  | some e => (s.dropEntry e .cut).followUp
  | none => s

/-- A cut starts where the state allows one (R34, R35). -/
def State.cutIfPowered (s : State) (i : SlotId) (reason : CutReason) : State :=
  if (s.slot i).powered then s.startCut i reason else s

/-- Destination of a completing cut (R37). -/
def Slot.destination (t : Slot) : Destination :=
  if t.destEmpty || !t.pres.value then .empty
  else match t.cutReason with
    | some .fault => .locked
    | some .silent => .locked
    | some .helloTimeout => .locked
    | some .host => .disabled
    | some .shed => if t.enabled then .admission else .disabled
    | some .restart => if t.enabled then .admission else .disabled
    | some .removed => .empty
    | none => .empty

/-- The state a slot leaves CUTTING for. A slot bound for admission enters SETTLING or ADMITTING by the end of the event (R37). -/
def Destination.state : Destination → SlotState
  | .empty => .empty
  | .disabled => .disabled
  | .locked => .locked
  | .admission => .admitting

/-- What completion clears in the slot (R36 steps 1 to 3). -/
def Slot.discharged (dest : Destination) (t : Slot) : Slot :=
  { t with
    state := dest.state, charge := 0, card := none, cutReason := none, destEmpty := false, discharge := none
    link := { t.link with cache := none, undeclared := [] } }

/-- Presence arrives in EMPTY (R22). -/
def State.arriveInEmpty (s : State) (i : SlotId) : State :=
  if (s.slot i).enabled then s.startAdmission i else s.modSlot i (fun t => { t with state := .disabled })

/-- A cut completes (R36). -/
def State.completeCut (s : State) (i : SlotId) : State :=
  let dest := (s.slot i).destination
  let s := (((s.leaveCuts i).modSlot i (Slot.discharged dest)).report .cutDone i (destinationCode dest) 0 0).followUp
  match dest with
  | .admission => s.startAdmission i
  | .empty => if (s.slot i).pres.value then s.arriveInEmpty i else s
  | .disabled => s
  | .locked => s

/-- The entry of an ADMITTING slot is dropped, the slot moves to `state`, and the Arbiter follows up (R23, R26, R32). -/
def State.endAdmitting (s : State) (i : SlotId) (reason : DropReason) (state : SlotState) : State :=
  let s := s.modSlot i (fun t => { t with state := state })
  match s.entryOf i with
  | some e => (s.dropEntry e reason).followUp
  | none => s

/-- Arrival of presence (R22, R35). -/
def State.presenceArrives (s : State) (i : SlotId) : State :=
  let s := s.modSlot i (fun t => { t with pres := Debounce.rest true })
  match (s.slot i).state with
  | .empty => s.arriveInEmpty i
  | .disabled => s
  | .locked => s
  | .admitting => s
  | .settling => s
  | .listening => s
  | .active => s
  | .cutting => s

/-- Loss of presence (R23). -/
def State.presenceLost (s : State) (i : SlotId) : State :=
  let s := s.modSlot i (fun t => { t with pres := Debounce.rest false })
  match (s.slot i).state with
  | .empty => s
  | .disabled => s.modSlot i (fun t => { t with state := .empty })
  | .locked => s.modSlot i (fun t => { t with state := .empty })
  | .admitting => s.endAdmitting i .cut .empty
  | .settling => s.startCut i .removed
  | .listening => s.startCut i .removed
  | .active => s.startCut i .removed
  | .cutting => s.modSlot i (fun t => { t with destEmpty := true })

/-- ENABLE (R31). -/
def State.enableSlot (s : State) (i : SlotId) : State :=
  let s := s.modSlot i (fun t => { t with enabled := true })
  if (s.slot i).state = .disabled then s.startAdmission i else s

/-- DISABLE (R32). -/
def State.disableSlot (s : State) (i : SlotId) : State :=
  let s := s.modSlot i (fun t => { t with enabled := false })
  match (s.slot i).state with
  | .admitting => s.endAdmitting i .host .disabled
  | .settling => s.startCut i .host
  | .listening => s.startCut i .host
  | .active => s.startCut i .host
  | .empty => s
  | .disabled => s
  | .locked => s
  | .cutting => s

end Sys2Proof.Machine
end

