-- ==== Sys2Proof/Machine/ReclaimOps.lean ====
section
/-! DEFINITION. The reclaim operation and the Pace Generator's frame start. -/

namespace Sys2Proof.Machine

/-- Length of a reclaim window started now (R125). -/
def SlotConfig.windowTicks (cfg : SlotConfig) : Nat := Config.ticksPerUnit * cfg.reclaimWindow

/-- The reclaim's start removes the slot's STEP entry, with RECLAIM as the reason and a NOTICE (R125 step 4). -/
def State.dropForReclaim (s : State) (i : SlotId) : State :=
  match s.entryOf i with
  | some e => (s.dropEntry e .reclaim).noticeDropped e
  | none => s

/-- A reclaim starts (R125). -/
def State.startReclaim (s : State) (i : SlotId) (target : Nat) (cause : ReclaimCause) : State :=
  let held := (s.entryOf i).isSome
  let s := s.modSlot i (fun t =>
    { t with
      lease := none
      reclaim := some { target := target, cause := cause, phase := .reclaiming, window := Timer.start t.cfg.windowTicks,
                        basis := none, liftPending := false } })
  let s := ((s.report .reclaimStart i target (causeCode cause) 0).dropForReclaim i).sendReclaim i target
  s.followUpIf held

/-- The slot part of a retarget (R135). -/
def Slot.retarget (c : Card) (target : Nat) (cause : ReclaimCause) (r : Reclaim) (t : Slot) : Slot :=
  let r' := { r with target := target, cause := cause, liftPending := false }
  match r.phase with
  | .reclaiming => { t with reclaim := some { r' with window := Timer.start t.cfg.windowTicks } }
  | .pacePending => { t with reclaim := some { r' with basis := some c.held }, pendWidth := some (c.width c.held target) }
  | .paced => { t with reclaim := some r', pendWidth := some (c.width (r.basis.getD c.held) target) }

/-- A reclaim is retargeted to a lower target (R135). -/
def State.retargetReclaim (s : State) (i : SlotId) (c : Card) (r : Reclaim) (target : Nat) (cause : ReclaimCause) : State :=
  (((s.modSlot i (Slot.retarget c target cause r)).report .reclaimStart i target (causeCode cause) 0).sendReclaim i target).retargetVictim
    i target

/-- A cause names a target to an ACTIVE slot: it starts a reclaim, retargets the one in progress, or is ignored (R124, R136). -/
def State.reclaimTo (s : State) (i : SlotId) (c : Card) (target : Nat) (cause : ReclaimCause) : State :=
  match (s.slot i).reclaim with
  | none => s.startReclaim i target cause
  | some r => if target < r.target then s.retargetReclaim i c r target cause else s

/-- The lease timer when a reclaim ends at step t (R128 step 6). -/
def leaseAtEnd (t : Nat) (lease : Timer) : Timer := if t = 0 then none else lease

/-- The slot when a reclaim ends at step t with its record emptied: charge draw(t), no width, RUN continuously high, no queued
RECLAIM (R128, R129, R130), at a late lift too (R131; DEDUCED, log entry 10). -/
def Slot.endReclaim (c : Card) (t : Nat) (sl : Slot) : Slot :=
  { sl with
    charge := c.draw t, card := some { c with held := t }, reclaim := none, curWidth := none, pendWidth := none
    lease := leaseAtEnd t sl.lease, run := true, link := sl.link.dropReclaim }

/-- The slot when a conclusion is held open at step t (R131). -/
def Slot.holdOpen (c : Card) (t : Nat) (r : Reclaim) (sl : Slot) : Slot :=
  { sl with
    card := some { c with held := t }, pendWidth := none
    reclaim := some { r with target := t, liftPending := true } }

/-- A CONFIRM or YIELD at or below the target concludes the reclaim, or is held open when the lift raise does not fit
(R93, R128 to R131). -/
def State.concludeReclaim (s : State) (i : SlotId) (c : Card) (r : Reclaim) (kind : LinkKind) (tag : BitVec 3) (t : Nat) : State :=
  let charge := (s.slot i).charge
  if decide (r.phase = .paced) && decide (charge < c.draw t) && !s.within (s.increase i (c.draw t)) then
    (((s.modSlot i (Slot.holdOpen c t r)).answer i kind tag (.done 0)).report .confirmed i t charge 0).leaveVictims i
  else
    ((((s.modSlot i (Slot.endReclaim c t)).answer i kind tag (.done 0)).report .confirmed i t (c.draw t) 0).leaveVictims i).followUpIf
      (decide (c.draw t < charge))

/-- The slot after partial progress at step t (R132). -/
def Slot.progress (c : Card) (t : Nat) (r : Reclaim) (sl : Slot) : Slot :=
  let c' := { c with held := t }
  match r.phase with
  | .reclaiming => { sl with card := some c', charge := c.draw t }
  | .pacePending =>
    { sl with card := some c', charge := c.draw t, reclaim := some { r with basis := some t }, pendWidth := some (c.width t r.target) }
  | .paced => { sl with card := some c' }

/-- A CONFIRM above the target is partial progress (R132). -/
def State.partialReclaim (s : State) (i : SlotId) (c : Card) (r : Reclaim) (tag : BitVec 3) (t : Nat) : State :=
  let s := (s.modSlot i (Slot.progress c t r)).answer i .confirm tag (.done 0)
  ((s.report .confirmed i t (s.slot i).charge 0).refreshVictim i).followUpIf (decide (r.phase ≠ .paced))

/-- The reclaim window expires (R134). -/
def Slot.windowExpires (c : Card) (r : Reclaim) (t : Slot) : Slot :=
  { t with
    reclaim := some { r with phase := .pacePending, basis := some c.held, window := none }
    pendWidth := some (c.width c.held r.target) }

/-- A pending width W takes effect (R141). -/
def Slot.applyWidth (c : Card) (r : Reclaim) (w : Nat) (t : Slot) : Slot :=
  { t with
    curWidth := some w, pendWidth := none, reclaim := some { r with phase := .paced }
    charge := c.paced (r.basis.getD c.held) w, link := t.link.placeNotice .paced w }

/-- A frame start at which the pending width W takes effect (R141). -/
def State.takeWidth (s : State) (i : SlotId) (c : Card) (r : Reclaim) (w : Nat) : State :=
  let charge := (s.slot i).charge
  let paced := c.paced (r.basis.getD c.held) w
  ((((s.modSlot i (Slot.applyWidth c r w)).driveRun i).report .paced i w paced 0).refreshVictim i).followUpIf (decide (paced ≠ charge))

/-- The lift claim of a slot whose conclusion is held open, made again at a frame start (R131). -/
def State.claimLift (s : State) (i : SlotId) (c : Card) : State :=
  if s.within (s.increase i c.heldDraw) then
    (s.modSlot i (Slot.endReclaim c c.held)).report .paced i Config.frameLength c.heldDraw 0
  else s

/-- A slot's frame start (R141, R131). -/
def State.startFrame (s : State) (i : SlotId) : State :=
  let s := s.modSlot i (fun t => { t with frameDue := false })
  let t := s.slot i
  match t.card, t.reclaim with
  | some c, some r =>
    match t.pendWidth with
    | some w => s.takeWidth i c r w
    | none => if r.liftPending then s.claimLift i c else s
  | some _, none => s
  | none, some _ => s
  | none, none => s

/-- The reclaim window of slot i expires in phase RECLAIMING (R134). -/
def State.expireWindow (s : State) (i : SlotId) : State :=
  let t := s.slot i
  match t.card, t.reclaim with
  | some c, some r => s.modSlot i (Slot.windowExpires c r)
  | some _, none => s
  | none, some _ => s
  | none, none => s

/-- The lease of slot i expires (R100, R101). -/
def State.expireLease (s : State) (i : SlotId) : State :=
  let s := s.modSlot i (fun t => { t with lease := none })
  match (s.slot i).card with
  | some c => ((s.report .lapsed i c.held 0 0).notice i .lapsed c.held).reclaimTo i c 0 .lapse
  | none => s

end Sys2Proof.Machine
end

