-- ==== Sys2Proof/Machine/Episodes.lean ====
section
/-! DEFINITION. Shed episodes: candidates, victim choice, cut tier, opening, enlargement, takeover; capacity and reserve changes. -/

namespace Sys2Proof.Machine

/-- The order of R145: class lowest first, within a class the recency list from its head, then the slots not on it, highest first. -/
def State.inShedOrder (s : State) (p : SlotId → Bool) : List SlotId :=
  [0, 1, 2, 3].flatMap (fun c =>
    s.recency.filter (fun i => decide ((s.slot i).cfg.cls = c) && p i)
      ++ slotIds.reverse.filter (fun i => decide ((s.slot i).cfg.cls = c) && p i && !s.recency.contains i))

/-- Slot i is a victim candidate, of a class below `below` where a bound is given (R145). -/
def State.isCandidate (s : State) (below : Option Nat) (i : SlotId) : Bool :=
  let t := s.slot i
  decide (t.state = .active) && t.reclaim.isNone
    && (match t.card with
        | some c => decide (c.effFloor < c.held)
        | none => false)
    && (match below with
        | some b => decide (t.cfg.cls < b)
        | none => true)

/-- The candidates in order (R145). -/
def State.candidates (s : State) (below : Option Nat) : List SlotId := s.inShedOrder (s.isCandidate below)

/-- The reduction a candidate can give: its charge less draw(effective floor) (R145). -/
def State.reduction (s : State) (i : SlotId) : Nat :=
  match (s.slot i).card with
  | some c => (s.slot i).charge - c.draw c.effFloor
  | none => 0

/-- A slot becomes a victim: it is entered in the victim list and a SHED reclaim starts (R146). -/
def State.makeVictim (s : State) (i : SlotId) (target : Nat) : State :=
  (s.enterVictim i target).startReclaim i target .shed

/-- Target of the last victim: the highest step at or above the effective floor and below the held step that completes the amount
(R146). -/
def lastTarget (c : Card) (sum amount : Nat) : Nat :=
  (highest (fun k => decide (amount ≤ sum + (c.heldDraw - c.draw k))) c.effFloor (c.held - 1)).getD c.effFloor

/-- Take candidates in order until their reductions reach the amount (R146). The running sum comes back with the state. -/
def takeVictims (amount : Nat) : List SlotId → Nat → State → Nat × State
  | [], sum, s => (sum, s)
  | i :: rest, sum, s =>
    match (s.slot i).card with
    | none => takeVictims amount rest sum s
    | some c =>
      let full := s.reduction i
      if sum + full < amount then takeVictims amount rest (sum + full) (s.makeVictim i c.effFloor)
      else
        let target := lastTarget c sum amount
        (sum + (c.heldDraw - c.draw target), s.makeVictim i target)

/-- Choose victims to cover an amount (R146). -/
def State.chooseVictims (s : State) (below : Option Nat) (amount : Nat) : Nat × State :=
  takeVictims amount (s.candidates below) 0 s

/-- The gain of cutting slot i: its charge, less what is already counted for it as a victim (R147). -/
def State.cutGain (s : State) (i : SlotId) : Nat :=
  match s.episode.victims.find? (fun v => v.slot = i) with
  | some v => (s.slot i).charge - v.remaining
  | none => (s.slot i).charge

/-- A SHED cut from the tier (R147): the slot is cut and stands in the cut list with its charge. -/
def State.tierCut (s : State) (i : SlotId) : State :=
  if s.isVictim i then s.startCut i .shed else (s.enterCut i).startCut i .shed

/-- The cut tier over slots in order, until the running sum reaches the amount (R147). -/
def takeCuts (amount : Nat) : List SlotId → Nat → State → State
  | [], _, s => s
  | i :: rest, sum, s =>
    if amount ≤ sum then s else takeCuts amount rest (sum + s.cutGain i) (s.tierCut i)

/-- The cut tier (R147). -/
def State.cutTier (s : State) (amount sum : Nat) : State :=
  takeCuts amount (s.inShedOrder (fun i => (s.slot i).powered && !s.isCut i)) sum s

/-- An OVERDRAFT choice: victims of every class, then the cut tier where they do not reach the amount (R146, R147). -/
def State.cover (s : State) (amount : Nat) : State :=
  let chosen := s.chooseVictims none amount
  if chosen.1 < amount then chosen.2.cutTier amount chosen.1 else chosen.2

/-- The shortfall K - A - E (R144). -/
def State.shortfall (s : State) : Int := (s.committed : Int) - (s.available : Int) - (s.episode.expected : Int)

/-- Append EPISODE_OPEN for the record as it stands (R144). -/
def State.reportOpen (s : State) : State :=
  s.append (chipReport .episodeOpen (episodeKindCode s.episode.kind) s.episode.target
    (match s.episode.beneficiary with
      | some i => i.val
      | none => Config.noSlot))

/-- An OVERDRAFT episode opens (R152). -/
def State.openOverdraft (s : State) : State :=
  let target := s.committed - s.available
  (s.setEpisode { Episode.closed with kind := .overdraft, target := target }).reportOpen.cover target

/-- The open OVERDRAFT is enlarged (R153). -/
def State.enlarge (s : State) : State :=
  let amount := s.shortfall.toNat
  let s := s.setEpisode { s.episode with target := amount }
  if 1 ≤ amount then s.cover amount else s

/-- Clear the beneficiary mark of every entry; only the beneficiary's entry carries one (R105, R154). -/
def clearMarks (l : List WaitEntry) : List WaitEntry := l.map (fun e => { e with beneficiary := false })

/-- An open PREEMPT is taken over as an OVERDRAFT (R154). -/
def State.takeOver (s : State) : State :=
  let amount := s.shortfall.toNat
  let s :=
    ((s.setWait (clearMarks s.waitList)).setEpisode
      { s.episode with kind := .overdraft, beneficiary := none, target := amount }).reportOpen
  if 1 ≤ amount then s.cover amount else s

/-- What a fall of A does when it leaves K above A (R14, R17). -/
def State.overdrawn (s : State) : State :=
  if s.committed ≤ s.available then s
  else match s.episode.kind with
    | .none => s.openOverdraft
    | .preempt => s.takeOver
    | .overdraft => s.enlarge

/-- A capacity change: CAPACITY is reported, CAPACITY_CHANGED set, and K compared with the new A (R13, R14). -/
def State.changeCapacity (s : State) (capacity : Nat) : State :=
  let old := s.capacity
  let s := State.append { s with capacity := capacity, capacityChanged := true } (chipReport .capacity old capacity s.src.value.val)
  if capacity < old then s.overdrawn
  else if old < capacity then s.followUp
  else s

/-- The debounced SRC value changes (R11, R13). -/
def State.takeSrc (s : State) (v : Fin 4) : State :=
  State.changeCapacity { s with src := Debounce.rest v } s.profiles[v]

/-- A deferred ASK of slot i with floor step f opens a PREEMPT episode when every condition of R149 holds. -/
def State.considerPreempt (s : State) (i : SlotId) (c : Card) (floor : Nat) : State :=
  let cls := (s.slot i).cfg.cls
  let need := s.increase i (c.draw floor)
  let total := ((s.candidates (some cls)).map s.reduction).sum
  if decide (0 < cls) && s.policy.preempt && decide (s.headroom < need) && decide (need - s.headroom ≤ (total : Int)) then
    let target := (need - s.headroom).toNat
    let s :=
      ((s.setWait (s.waitList.map (fun e => if e.slot = i then { e with beneficiary := true } else e))).setEpisode
        { Episode.closed with kind := .preempt, beneficiary := some i, target := target }).reportOpen
    (s.chooseVictims (some cls) target).2
  else s

end Sys2Proof.Machine
end

