-- ==== Sys2Proof/Machine/Requests.lean ====
section
/-! DEFINITION. The card's requests as the Link Engine and the Slot Controller take them. -/

namespace Sys2Proof.Machine

/-- A frame completes on LRX of slot i while the link is on (R48). -/
def State.frameDone (s : State) (i : SlotId) : State := s.modLink i Link.rehunt

/-- Gap timer expiry (R49). -/
def State.gapEvent (s : State) (i : SlotId) : State := if (s.slot i).link.gap.due then s.frameDone i else s

/-- A well-formed request whose frame completes (R55, R56): lost while the link is off or the reply slot is occupied, answered from
the cache when it is a duplicate, and handed to the Slot Controller when it is new. -/
def State.takeRequest (s : State) (i : SlotId) (kind : LinkKind) (tag : BitVec 3) (act : State → State) : State :=
  if (s.slot i).link.asm = .off then s
  else
    let s := s.frameDone i
    if (s.slot i).link.replySlot.isSome then s
    else match (s.slot i).link.cache with
      | some r => if r.kind = kind ∧ r.tag = tag then s.modLink i (Link.placeReply tag r.reply) else act s
      | none => act s

/-- A request other than HELLO, new under R56, at the Slot Controller. It is refused with NOT_DECLARED unless the slot is ACTIVE, and in ACTIVE
too when it repeats one so refused; either refusal is a new reply, with its record in the cache and its report (R57, R83; the refusal in
ACTIVE: DESIGN CHOICE, log entry 15). -/
def State.whenActive (s : State) (i : SlotId) (kind : LinkKind) (tag : BitVec 3) (act : Card → State) : State :=
  if (s.slot i).state = .active ∧ (kind, tag) ∉ (s.slot i).link.undeclared then
    match (s.slot i).card with
    | some c => act c
    | none => s.refuse i kind tag .notDeclared
  else s.refuse i kind tag .notDeclared

/-- Acceptance of a HELLO (R74, R75, R76). -/
def State.acceptHello (s : State) (i : SlotId) (tag : BitVec 3) (cardId : BitVec 32) (floor : Nat) (draws : List Nat) : State :=
  let t := s.slot i
  let d0 := draws.getD 0 0
  let top := usableTopOf draws t.cfg.cap
  let welcome := Reply.welcome top t.cfg.lease t.cfg.cls
  let card : Card :=
    { cardId := cardId, draws := draws, declaredFloor := floor, held := 0
      effFloor := effectiveFloorOf t.cfg.floorOverride floor draws.length, usableTop := top
      helloTag := tag, welcome := welcome }
  let s := s.modSlot i (fun t => { t with charge := d0, card := some card, state := .active, hello := none, run := true })
  ((s.answer i .hello tag welcome).report .declared i draws.length d0 top).followUpIf (decide (d0 < t.charge))

/-- The HELLO is the one that was welcomed, repeated: its tag and its payload are those of the declaration (R81; DESIGN CHOICE, log entry 17). -/
def Card.repeats (c : Card) (tag : BitVec 3) (cardId : BitVec 32) (floor : Nat) (draws : List Nat) : Bool :=
  decide (c.helloTag = tag) && decide (c.cardId = cardId) && decide (c.declaredFloor = floor) && decide (c.draws = draws)

/-- A new HELLO in ACTIVE. The welcomed HELLO repeated, when the replies to other requests have left the cache without its record, draws the
WELCOME first composed, and nothing else comes of it (R69, R81; DESIGN CHOICE, log entry 17); any other is refused (R72). -/
def State.helloInActive (s : State) (i : SlotId) (tag : BitVec 3) (cardId : BitVec 32) (floor : Nat) (draws : List Nat) : State :=
  match (s.slot i).card with
  | some c => if c.repeats tag cardId floor draws then s.answer i .hello tag c.welcome else s.refuse i .hello tag .alreadyDeclared
  | none => s.refuse i .hello tag .alreadyDeclared

/-- A new HELLO (R69 to R73). -/
def State.newHello (s : State) (i : SlotId) (tag : BitVec 3) (cardId : BitVec 32) (floor : Nat) (draws : List Nat) : State :=
  let t := s.slot i
  let d0 := draws.getD 0 0
  if t.state = .active then s.helloInActive i tag cardId floor draws
  else if !shapeOk floor draws then s.refuse i .hello tag .badDeclaration
  else if t.cfg.cap < d0 then s.refuse i .hello tag .overCap
  else if decide (t.charge < d0) && (s.episodeOpen || !s.within (s.increase i d0)) then s.refuse i .hello tag .noBudget
  else s.acceptHello i tag cardId floor draws

/-- HELLO (R69). -/
def State.takeHello (s : State) (i : SlotId) (tag : BitVec 3) (cardId : BitVec 32) (floor : Byte) (draws : List Half) : State :=
  s.takeRequest i .hello tag (fun s => s.newHello i tag cardId floor.toNat (draws.map BitVec.toNat))

/-- An ASK is granted step g (R86). -/
def State.grantAsk (s : State) (i : SlotId) (c : Card) (tag : BitVec 3) (g : Nat) : State :=
  let held := (s.entryOf i).isSome
  let lease := (s.slot i).cfg.lease
  let s := (s.countOvertaken i (s.slot i).cfg.cls).removeEntry i
  (((s.grantStep i c g).answer i .ask tag (.grant g lease)).report .granted i g (c.draw g) 0).followUpIf held

/-- An ASK is deferred (R87). -/
def State.deferAsk (s : State) (i : SlotId) (c : Card) (tag : BitVec 3) (asked floor : Nat) : State :=
  let open_ := s.episodeOpen
  let kind := WaitKind.step asked floor
  let list :=
    if (s.entryOf i).isSome then s.waitList.map (fun e => if e.slot = i then { e with kind := kind } else e)
    else insertEntry (newEntry i kind (s.slot i).cfg.cls) s.waitList
  let s := s.setWait list
  let s := (s.answer i .ask tag (.defer (s.position i))).report .deferred i (s.position i) asked floor
  if open_ then s else s.considerPreempt i c floor

/-- The claim of an ASK that passed the slot's checks, over the steps from `top` down to the floor (R85, R88, R89). -/
def State.claimAsk (s : State) (i : SlotId) (c : Card) (tag : BitVec 3) (asked floor top : Nat) (deferrable : Bool) : State :=
  let granted :=
    if s.episodeOpen || !s.passesOrdering i (s.slot i).cfg.cls then none else s.bestStep i c floor top
  match granted with
  | some g => s.grantAsk i c tag g
  | none => if deferrable then s.deferAsk i c tag asked floor else s.refuse i .ask tag .noBudget

/-- A new ASK in ACTIVE (R84). -/
def State.newAsk (s : State) (i : SlotId) (c : Card) (tag : BitVec 3) (asked floor : Nat) (deferrable : Bool) : State :=
  let top := min asked c.usableTop
  if (s.slot i).reclaim.isSome then s.refuse i .ask tag .inReclaim
  else if c.count ≤ asked ∨ asked < floor ∨ floor ≤ c.held then s.refuse i .ask tag .badStep
  else if top < floor then s.refuse i .ask tag .overCap
  else s.claimAsk i c tag asked floor top deferrable

/-- ASK (R83, R84). -/
def State.takeAsk (s : State) (i : SlotId) (tag : BitVec 3) (asked floor flags : Byte) : State :=
  s.takeRequest i .ask tag (fun s =>
    s.whenActive i .ask tag (fun c => s.newAsk i c tag asked.toNat floor.toNat (deferrable flags)))

/-- The slot after a YIELD outside a reclaim (R92). -/
def Slot.yieldTo (c : Card) (t : Nat) (sl : Slot) : Slot :=
  { sl with charge := c.draw t, card := some { c with held := t }, lease := leaseAtEnd t sl.lease }

/-- A new YIELD in ACTIVE (R92, R93). -/
def State.newYield (s : State) (i : SlotId) (c : Card) (tag : BitVec 3) (t : Nat) : State :=
  if c.held ≤ t then s.refuse i .yield tag .badStep
  else match (s.slot i).reclaim with
    | none =>
      let charge := (s.slot i).charge
      (((s.modSlot i (Slot.yieldTo c t)).answer i .yield tag (.done 0)).report .yielded i t (c.draw t) 0).followUpIf
        (decide (c.draw t ≠ charge))
    | some r => if t ≤ r.target then s.concludeReclaim i c r .yield tag t else s.refuse i .yield tag .inReclaim

/-- YIELD (R83, R92). -/
def State.takeYield (s : State) (i : SlotId) (tag : BitVec 3) (target : Byte) : State :=
  s.takeRequest i .yield tag (fun s => s.whenActive i .yield tag (fun c => s.newYield i c tag target.toNat))

/-- A new WITHDRAW in ACTIVE (R95). -/
def State.newWithdraw (s : State) (i : SlotId) (tag : BitVec 3) : State :=
  match s.entryOf i with
  | none => s.refuse i .withdraw tag .nothingWaiting
  | some e => ((s.dropEntry e .withdraw).answer i .withdraw tag (.done 0)).followUp

/-- WITHDRAW (R83, R95). -/
def State.takeWithdraw (s : State) (i : SlotId) (tag : BitVec 3) : State :=
  s.takeRequest i .withdraw tag (fun s => s.whenActive i .withdraw tag (fun _ => s.newWithdraw i tag))

/-- A RENEW that is answered DONE (R98). -/
def State.renewLease (s : State) (i : SlotId) (c : Card) (tag : BitVec 3) : State :=
  let lease := (s.slot i).cfg.lease
  if 0 < c.held ∧ 0 < lease then
    (s.modSlot i (fun t => { t with lease := Timer.start (Config.ticksPerSecond * lease) })).answer i .renew tag (.done lease)
  else s.answer i .renew tag (.done 0)

/-- A new RENEW in ACTIVE (R98, R99). -/
def State.newRenew (s : State) (i : SlotId) (c : Card) (tag : BitVec 3) : State :=
  match (s.slot i).reclaim with
  | some r => if r.cause = .lapse then s.refuse i .renew tag .lapsed else s.renewLease i c tag
  | none => s.renewLease i c tag

/-- RENEW (R83, R98). -/
def State.takeRenew (s : State) (i : SlotId) (tag : BitVec 3) : State :=
  s.takeRequest i .renew tag (fun s => s.whenActive i .renew tag (fun c => s.newRenew i c tag))

/-- A new CONFIRM in ACTIVE (R127). -/
def State.newConfirm (s : State) (i : SlotId) (c : Card) (tag : BitVec 3) (t : Nat) : State :=
  match (s.slot i).reclaim with
  | none => s.refuse i .confirm tag .noReclaim
  | some r =>
    if c.held ≤ t then s.refuse i .confirm tag .badStep
    else if t ≤ r.target then s.concludeReclaim i c r .confirm tag t
    else s.partialReclaim i c r tag t

/-- CONFIRM (R83, R127). -/
def State.takeConfirm (s : State) (i : SlotId) (tag : BitVec 3) (target : Byte) : State :=
  s.takeRequest i .confirm tag (fun s => s.whenActive i .confirm tag (fun c => s.newConfirm i c tag target.toNat))

/-- An ACK is taken whatever the reply slot holds (R55, R61). -/
def State.takeAck (s : State) (i : SlotId) (seq : Bool) : State :=
  if (s.slot i).link.asm = .off then s else (s.frameDone i).modLink i (Link.acknowledge seq)

/-- A malformed request is answered without touching the cache (R54, R55); a malformed ACK is discarded. The row
carries the whole frame (DESIGN CHOICE, log entry 5). -/
def State.takeMalformed (s : State) (i : SlotId) (kind : LinkKind) (tag : BitVec 3) : State :=
  if (s.slot i).link.asm = .off then s
  else
    let s := s.frameDone i
    if kind = .ack ∨ (s.slot i).link.replySlot.isSome then s
    else
      (s.modLink i (Link.placeReply tag (.refuse .malformed))).report .refused i (refuseCode .malformed) (linkKindCode kind).toNat 0

/-- A completed frame is judged and taken (R48, R53, R54). -/
def State.takeFrame (s : State) (i : SlotId) (f : RxFrame) : State :=
  match frameCommand i f with
  | .hello i tag cardId floor draws => s.takeHello i tag cardId floor draws
  | .ask i tag asked floor flags => s.takeAsk i tag asked floor flags
  | .yield i tag target => s.takeYield i tag target
  | .withdraw i tag => s.takeWithdraw i tag
  | .renew i tag => s.takeRenew i tag
  | .confirm i tag target => s.takeConfirm i tag target
  | .ack i seq => s.takeAck i seq
  | .malformed i kind tag _ => s.takeMalformed i kind tag
  | _ => s.frameDone i

/-- The gap timer after a byte (R49): started afresh at each byte taken while a frame is assembled, stopped otherwise. -/
def Link.afterByte (a : Assembler) (l : Link) : Link :=
  { l with asm := a, gap := if a.busy then Timer.start Config.gapTicks else none }

/-- A byte with a good stop bit ends on LRX of slot i (R48, R49). A gap timer that has expired is taken first, since a byte under way at
the tick of its expiry would have kept it from expiring: such a byte has begun after it, and is received in HUNT (R49). -/
def State.receive (s : State) (i : SlotId) (b : Byte) : State :=
  let s := s.gapEvent i
  let r := receiveByte (s.slot i).link.asm b
  let s := s.modLink i (Link.afterByte r.1)
  match r.2 with
  | none => s
  | some f => s.takeFrame i f

/-- Bytes that end one after another on LRX of slot i. -/
def receiveAll (i : SlotId) : List Byte → State → State
  | [], s => s
  | b :: rest, s => receiveAll i rest (s.receive i b)

end Sys2Proof.Machine
end

