-- ==== Sys2Proof/Machine/CommandOps.lean ====
section
/-! DEFINITION. The Command Unit: the taking of a command, its checks, its RESULT and its effect. -/

namespace Sys2Proof.Machine

/-- The command row that the entry at the head of the queue spells. -/
def State.headCommand (s : State) : Option Instr := s.cmdQueue.head?.map entryCommand

/-- A command row spells its own code and field: the two rows for what names nothing hold no code and no field that names something
(R165, R41). -/
def spellsItself (cmd : Instr) : Bool := decide ((commandEntry cmd).map entryCommand = some cmd)

/-- The Command Unit can take `cmd` now (R164): fewer than 24 reports are held, and `cmd` is the command at the head of the queue.
While the queue is empty, `cmd` stands for one that the host pushes and that is taken at once (DESIGN CHOICE, log entry 3). -/
def State.canTake (s : State) (cmd : Instr) : Bool :=
  decide (s.reports.length < Config.throttle) &&
    match s.headCommand with
    | some c => decide (c = cmd)
    | none => spellsItself cmd

/-- The entry being taken leaves the queue (R164 step 1). -/
def State.popCommand (s : State) : State := { s with cmdQueue := s.cmdQueue.tail }

/-- Take `cmd` with the effect `run`, if the Command Unit can (R164). -/
def State.takeCommand (s : State) (cmd : Instr) (run : State → State) : State := if s.canTake cmd then run s.popCommand else s

/-- Append the RESULT record (R164 step 3, R175). -/
def State.result (s : State) (code : Nat) (named : Option SlotId) (res : ResultCode) (p0 : Half) : State :=
  s.append
    { kind := .result
      slot := match named with
        | some i => slotField i
        | none => BitVec.ofNat 4 Config.noSlot
      a := half code, b := half (resultCode res), c := p0 }

/-- A slot command: BAD_SLOT above 7, else the result `check` gives, and with OK the effect (R164, R165). -/
def State.slotCommand (s : State) (code : Nat) (p0 : Half) (check : SlotId → ResultCode) (act : SlotId → State → State) : State :=
  match slotOf p0 with
  | none => s.result code none .badSlot p0
  | some i =>
    let res := check i
    let s := s.result code (some i) res p0
    if res = .ok then act i s else s

/-- SLOT_CONFIG of a known field: BAD_SLOT, then BAD_VALUE outside the field's range (R41). -/
def State.configCommand (s : State) (p0 : Half) (inside : Bool) (act : SlotId → State → State) : State :=
  s.slotCommand 1 p0 (fun _ => if inside then .ok else .badValue) act

/-- Change a configuration record. -/
def State.modConfig (s : State) (i : SlotId) (f : SlotConfig → SlotConfig) : State := s.modSlot i (fun t => { t with cfg := f t.cfg })

/-- The enabled field, taken as ENABLE or DISABLE (R41). -/
def State.runConfigEnabled (s : State) (p0 v : Half) : State :=
  s.configCommand p0 (inRange 0 1 v) (fun i s => if v.toNat = 1 then s.enableSlot i else s.disableSlot i)

/-- The class field (R43, R107). -/
def State.writeClass (s : State) (i : SlotId) (cls : Nat) : State :=
  let r := (s.modConfig i (fun c => { c with cls := cls })).reclassEntry i cls
  r.1.followUpIf r.2

def State.runConfigClass (s : State) (p0 v : Half) : State :=
  s.configCommand p0 (inRange 0 3 v) (fun i s => s.writeClass i v.toNat)

/-- An entry whose floor lies above the usable top step is removed (R45). -/
def State.dropAboveCap (s : State) (i : SlotId) (top : Nat) : State :=
  match s.entryOf i with
  | none => s
  | some e =>
    match e.kind with
    | .admission => s
    | .step _ floor => if top < floor then ((s.dropEntry e .grantedNot).noticeDropped e).followUp else s

/-- The cap field (R44, R45). -/
def State.writeCap (s : State) (i : SlotId) (cap : Nat) : State :=
  let s := s.modConfig i (fun c => { c with cap := cap })
  if (s.slot i).state = .active then
    match (s.slot i).card with
    | none => s
    | some c =>
      let top := usableTopOf c.draws cap
      let c' := { c with usableTop := top }
      let s := s.modSlot i (fun t => { t with card := some c' })
      if cap < c.heldDraw then s.reclaimTo i c' top .cap else s.dropAboveCap i top
  else s

/-- The result of a cap write in range: BAD_STATE below draw(0) of an ACTIVE slot whose card has declared (R44). -/
def State.checkCap (s : State) (v : Half) (i : SlotId) : ResultCode :=
  if !inRange 1 1023 v then .badValue
  else if (s.slot i).state = .active then
    match (s.slot i).card with
    | some c => if v.toNat < c.draw 0 then .badState else .ok
    | none => .ok
  else .ok

def State.runConfigCap (s : State) (p0 v : Half) : State :=
  s.slotCommand 1 p0 (s.checkCap v) (fun i s => s.writeCap i v.toNat)

def State.runConfigAdmission (s : State) (p0 v : Half) : State :=
  s.configCommand p0 (inRange 1 255 v) (fun i s => s.modConfig i (fun c => { c with admission := v.toNat }))

def State.runConfigLease (s : State) (p0 v : Half) : State :=
  s.configCommand p0 (inRange 0 255 v) (fun i s => s.modConfig i (fun c => { c with lease := v.toNat }))

def State.runConfigSettle (s : State) (p0 v : Half) : State :=
  s.configCommand p0 (inRange 1 255 v) (fun i s => s.modConfig i (fun c => { c with settle := v.toNat }))

def State.runConfigDischarge (s : State) (p0 v : Half) : State :=
  s.configCommand p0 (inRange 1 255 v) (fun i s => s.modConfig i (fun c => { c with discharge := v.toNat }))

def State.runConfigHello (s : State) (p0 v : Half) : State :=
  s.configCommand p0 (inRange 10 255 v) (fun i s => s.modConfig i (fun c => { c with helloTimeout := v.toNat }))

def State.runConfigReplyWindow (s : State) (p0 v : Half) : State :=
  s.configCommand p0 (inRange 2 255 v) (fun i s => s.modConfig i (fun c => { c with replyWindow := v.toNat }))

def State.runConfigReclaimWindow (s : State) (p0 v : Half) : State :=
  s.configCommand p0 (inRange 1 255 v) (fun i s => s.modConfig i (fun c => { c with reclaimWindow := v.toNat }))

/-- The floor override, and the effective floor of an ACTIVE slot (R46, R78, R82). -/
def State.writeOverride (s : State) (i : SlotId) (o : Option Nat) : State :=
  let s := s.modConfig i (fun c => { c with floorOverride := o })
  if (s.slot i).state = .active then
    s.modSlot i (fun t =>
      { t with card := t.card.map (fun c => { c with effFloor := effectiveFloorOf o c.declaredFloor c.count }) })
  else s

def State.runConfigOverride (s : State) (p0 v : Half) : State :=
  s.configCommand p0 (overrideOk v) (fun i s => s.writeOverride i (overrideOf v))

/-- An unknown field (R41). -/
def State.runConfigUnknown (s : State) (p0 : Half) : State := s.configCommand p0 false (fun _ s => s)

def State.runEnable (s : State) (p0 : Half) : State := s.slotCommand 2 p0 (fun _ => .ok) (fun i s => s.enableSlot i)

def State.runDisable (s : State) (p0 : Half) : State := s.slotCommand 3 p0 (fun _ => .ok) (fun i s => s.disableSlot i)

/-- RESTORE (R33). -/
def State.restoreSlot (s : State) (i : SlotId) : State :=
  if (s.slot i).enabled then s.startAdmission i else s.modSlot i (fun t => { t with state := .disabled })

def State.runRestore (s : State) (p0 : Half) : State :=
  s.slotCommand 4 p0 (fun i => if (s.slot i).state = .locked then .ok else .badState) (fun i s => s.restoreSlot i)

/-- The checks of the host RECLAIM (R166). -/
def State.checkReclaim (s : State) (step : Half) (i : SlotId) : ResultCode :=
  if (s.slot i).state = .active then
    match (s.slot i).card with
    | some c => if c.held ≤ step.toNat then .badValue else .ok
    | none => .badState
  else .badState

/-- The effect of the host RECLAIM (R166). -/
def State.hostReclaim (s : State) (i : SlotId) (step : Nat) : State :=
  match (s.slot i).card with
  | some c => s.reclaimTo i c step .host
  | none => s

def State.runReclaim (s : State) (p0 step : Half) : State :=
  s.slotCommand 5 p0 (s.checkReclaim step) (fun i s => s.hostReclaim i step.toNat)

/-- DROP_WAIT of the entry of slot i (R121, R26). -/
def State.dropWaiting (s : State) (i : SlotId) : State :=
  match s.entryOf i with
  | none => s
  | some e =>
    match e.kind with
    | .step _ _ => ((s.dropEntry e .host).noticeDropped e).followUp
    | .admission => (s.modSlot i (fun t => { t with enabled := false })).endAdmitting i .host .disabled

def State.runDropWait (s : State) (p0 : Half) : State :=
  s.slotCommand 6 p0 (fun i => if (s.entryOf i).isSome then .ok else .badState) (fun i s => s.dropWaiting i)

/-- SET_PROFILE (R12, R13). The active profile is the one the debounced SRC value selects, 0 from pin reset on, also where R172 says of a
write at once after reset that its capacity reaches the Arbiter when the SRC pins select its profile (DESIGN CHOICE, log entry 14). -/
def State.writeProfile (s : State) (p : Fin 4) (capacity : Nat) : State :=
  let s := { s with profiles := s.profiles.set p capacity }
  if p = s.src.value ∧ capacity ≠ s.capacity then s.changeCapacity capacity else s

def State.runSetProfile (s : State) (index capacity : Half) : State :=
  if h : index.toNat < 4 then
    if capacity.toNat ≤ Config.maxBudget then
      (s.result 7 none .ok index).writeProfile ⟨index.toNat, h⟩ capacity.toNat
    else s.result 7 none .badValue index
  else s.result 7 none .badValue index

/-- The result of SET_RESERVE (R15, R16, R17). -/
def State.checkReserve (s : State) (amount force : Half) : ResultCode :=
  if Config.maxBudget < amount.toNat then .badValue
  else if 1 < force.toNat then .badValue
  else if amount.toNat ≤ s.reserve then .ok
  else if force.toNat = 1 then .ok
  else if s.episode.kind = .overdraft then .badState
  else if s.committed ≤ s.capacity - amount.toNat then .ok
  else .overdraw

/-- The effect of a SET_RESERVE taken with OK (R15, R16, R17). -/
def State.writeReserve (s : State) (amount : Nat) : State :=
  let old := s.reserve
  let s := { s with reserve := amount }
  if amount < old then s.followUp
  else if old < amount then s.overdrawn
  else s

def State.runSetReserve (s : State) (amount force : Half) : State :=
  let res := s.checkReserve amount force
  let s := s.result 8 none res amount
  if res = .ok then s.writeReserve amount.toNat else s

/-- The checks of SET_POLICY (R167). -/
def policyOk (mode limit preempt : Half) : Bool := inRange 0 1 mode && inRange 1 7 limit && inRange 0 1 preempt

/-- The effect of SET_POLICY (R112). -/
def State.writePolicy (s : State) (mode limit preempt : Half) : State :=
  let old := s.policy.limit
  let policy : Policy :=
    { mode := if mode.toNat = 0 then .fit else .strict, limit := limit.toNat, preempt := decide (preempt.toNat = 1) }
  let list :=
    if limit.toNat < old then s.waitList.map (fun e => { e with anchored := e.anchored || decide (limit.toNat ≤ e.overtaken) })
    else s.waitList
  { s with policy := policy, waitList := list }.followUp

def State.runSetPolicy (s : State) (mode limit preempt : Half) : State :=
  if policyOk mode limit preempt then (s.result 9 none .ok mode).writePolicy mode limit preempt
  else s.result 9 none .badValue mode

/-- RESTART removes the entries from head to tail; a PREEMPT closes as its beneficiary's entry goes (R120). -/
def dropForRestart : List WaitEntry → State → State
  | [], s => s
  | e :: rest, s =>
    let s := (s.removeEntry e.slot).report .waitDropped e.slot (dropCode .restart) 0 0
    dropForRestart rest (if s.beneficiary = some e.slot then s.endEpisode .restart else s)

/-- RESTART (R168): the wait list is cleared, the powered slots are cut, the former ADMITTING slots are admitted again. -/
def State.restart (s : State) : State :=
  let former := slotIds.filter (fun i => decide ((s.slot i).state = .admitting))
  let s := (dropForRestart s.waitList s).followUp
  let s := slotIds.foldl (fun s i => s.cutIfPowered i .restart) s
  former.foldl (fun s i => s.startAdmission i) s

/-- RESTART with P0 as pushed (R168). -/
def State.runRestart (s : State) (p0 : Half) : State := (s.result 10 none .ok p0).restart

/-- A code that names no command (R165). -/
def State.runUnknown (s : State) (code p0 : Half) : State := s.result code.toNat none .badCode p0

/-- P0 of the command being taken: the entry's, or for a command pushed and taken at once what CMD_P0 holds (R163). -/
def State.takenP0 (s : State) : Half :=
  match s.cmdQueue with
  | e :: _ => e.p0
  | [] => s.cmdP0

/-- Take the command that the head entry spells. -/
def State.takeHead (s : State) (cmd : Instr) : State :=
  s.takeCommand cmd (fun t =>
    match cmd with
    | .slotConfigEnabled p0 v => t.runConfigEnabled p0 v
    | .slotConfigClass p0 v => t.runConfigClass p0 v
    | .slotConfigCap p0 v => t.runConfigCap p0 v
    | .slotConfigAdmissionCharge p0 v => t.runConfigAdmission p0 v
    | .slotConfigLease p0 v => t.runConfigLease p0 v
    | .slotConfigSettle p0 v => t.runConfigSettle p0 v
    | .slotConfigDischarge p0 v => t.runConfigDischarge p0 v
    | .slotConfigHelloTimeout p0 v => t.runConfigHello p0 v
    | .slotConfigReplyWindow p0 v => t.runConfigReplyWindow p0 v
    | .slotConfigReclaimWindow p0 v => t.runConfigReclaimWindow p0 v
    | .slotConfigFloorOverride p0 v => t.runConfigOverride p0 v
    | .slotConfigUnknownField p0 _ _ => t.runConfigUnknown p0
    | .enable p0 => t.runEnable p0
    | .disable p0 => t.runDisable p0
    | .restore p0 => t.runRestore p0
    | .reclaim p0 step => t.runReclaim p0 step
    | .dropWait p0 => t.runDropWait p0
    | .setProfile index capacity => t.runSetProfile index capacity
    | .setReserve amount force => t.runSetReserve amount force
    | .setPolicy mode limit preempt => t.runSetPolicy mode limit preempt
    | .restart => t.runRestart s.takenP0
    | .unknownCommandCode code p0 => t.runUnknown code p0
    | _ => t)

/-- A write to CMD_CODE (R163). -/
def State.pushCommand (s : State) (code : Half) : State :=
  if s.cmdQueue.length < Config.cmdQueueSize then
    { s with cmdQueue := s.cmdQueue ++ [{ code := code, p0 := s.cmdP0, p1 := s.cmdP1, p2 := s.cmdP2 }] }
  else { s with cmdOverrun := true }

end Sys2Proof.Machine
end

