-- ==== Sys2Proof/Machine/HostCommandFamily.lean ====
section
/-! DEFINITION. The family of the other host commands. Each is taken when the Command Unit can take it (R164). -/

namespace Sys2Proof.Machine

/-- ENABLE (R31). -/
def execEnable (p0 : Half) (s : State) : Host.Outcome State Fault Refusal :=
  .next (s.takeCommand (.enable p0) (fun t => t.runEnable p0))

/-- DISABLE (R32). -/
def execDisable (p0 : Half) (s : State) : Host.Outcome State Fault Refusal :=
  .next (s.takeCommand (.disable p0) (fun t => t.runDisable p0))

/-- RESTORE (R33). -/
def execRestore (p0 : Half) (s : State) : Host.Outcome State Fault Refusal :=
  .next (s.takeCommand (.restore p0) (fun t => t.runRestore p0))

/-- RECLAIM from the host (R166). -/
def execReclaim (p0 step : Half) (s : State) : Host.Outcome State Fault Refusal :=
  .next (s.takeCommand (.reclaim p0 step) (fun t => t.runReclaim p0 step))

/-- DROP_WAIT (R121). -/
def execDropWait (p0 : Half) (s : State) : Host.Outcome State Fault Refusal :=
  .next (s.takeCommand (.dropWait p0) (fun t => t.runDropWait p0))

/-- SET_PROFILE (R12, R13). -/
def execSetProfile (index capacity : Half) (s : State) : Host.Outcome State Fault Refusal :=
  .next (s.takeCommand (.setProfile index capacity) (fun t => t.runSetProfile index capacity))

/-- SET_RESERVE (R15, R16, R17). -/
def execSetReserve (amount force : Half) (s : State) : Host.Outcome State Fault Refusal :=
  .next (s.takeCommand (.setReserve amount force) (fun t => t.runSetReserve amount force))

/-- SET_POLICY (R167, R112). -/
def execSetPolicy (mode limit preempt : Half) (s : State) : Host.Outcome State Fault Refusal :=
  .next (s.takeCommand (.setPolicy mode limit preempt) (fun t => t.runSetPolicy mode limit preempt))

/-- A command whose code names none (R165). -/
def execUnknownCommandCode (code p0 : Half) (s : State) : Host.Outcome State Fault Refusal :=
  .next (s.takeCommand (.unknownCommandCode code p0) (fun t => t.runUnknown code p0))

/-- RESTART (R168, R169). Its RESULT carries P0 as pushed. -/
def execRestart (s : State) : Host.Outcome State Fault Refusal :=
  .next (s.takeCommand .restart (fun t => t.runRestart s.takenP0))

end Sys2Proof.Machine
end

