-- ==== Sys2Proof/Machine/Flags.lean ====
section
/-! DEFINITION. The flags of STATUS and EVENTS and the level of IRQ#. -/

namespace Sys2Proof.Machine

/-- A flag as a bit of a halfword. -/
def flagBit (b : Bool) (k : Nat) : Nat := if b then 2 ^ k else 0

/-- REPORT_READY (R160). -/
def State.reportReady (s : State) : Bool := !s.reports.isEmpty

/-- SLOT_LOCKED (R160). -/
def State.slotLocked (s : State) : Bool := s.slots.toList.any (fun t => decide (t.state = .locked))

/-- CMD_FULL (R160). -/
def State.cmdFull (s : State) : Bool := decide (Config.cmdQueueSize ≤ s.cmdQueue.length)

/-- STATUS (R160, 12.2). -/
def State.status (s : State) : Half :=
  half (flagBit s.reportReady 0 + flagBit s.episodeOpen 1 + flagBit s.slotLocked 2 + flagBit s.cmdFull 3)

/-- EVENTS (R161, 12.2). -/
def State.events (s : State) : Half :=
  half (flagBit s.gapSeen 0 + flagBit s.cmdOverrun 1 + flagBit s.capacityChanged 2)

/-- The seven flags in the order of IRQ_ENABLE: STATUS in bits 3:0, EVENTS in bits 6:4 (12.2). -/
def State.flags (s : State) : BitVec 7 := (s.events.setWidth 3 : BitVec 3) ++ (s.status.setWidth 4 : BitVec 4)

/-- IRQ# is driven low: an enabled flag stands at 1 (R162). -/
def State.irqLow (s : State) : Bool := decide (s.flags &&& s.irqEnable ≠ 0)

/-- A write to EVENTS clears each flag written with 1 (R161). -/
def State.clearEvents (s : State) (v : Half) : State :=
  { s with
    gapSeen := s.gapSeen && !v.getLsbD 0
    cmdOverrun := s.cmdOverrun && !v.getLsbD 1
    capacityChanged := s.capacityChanged && !v.getLsbD 2 }

end Sys2Proof.Machine
end

