-- ==== Sys2Proof/Machine/WindowOps.lean ====
section
/-! DEFINITION. The Host Window: snapshot encodings, the latch, register reads and writes. -/

namespace Sys2Proof.Machine

/-- Two byte fields as one halfword. -/
def twoBytes (lo hi : Nat) : Half := half (lo + 256 * hi)

/-- A byte field that may have no value (R183). -/
def byteOr (o : Option Nat) : Nat := o.getD Config.noByte

/-- A flag as 0 or 1. -/
def bit (b : Bool) : Nat := if b then 1 else 0

/-- Eight halfwords from the first ones; the rest read 0. -/
def latchOf (l : List Half) : Vector Half 8 := Vector.ofFn (fun k => l.getD k.val 0)

/-- What a record that does not exist latches (R170). -/
def noRecord : Vector Half 8 := latchOf [0xFFFF]

/-- Live record of a slot (R171, 12.5). Every bit not shown reads as 0, here and in every record (chapter 12, introduction). -/
def Slot.liveRecord (t : Slot) : Vector Half 8 :=
  let phase := match t.reclaim with
    | some r => phaseCode r.phase
    | none => 0
  let lift := match t.reclaim with
    | some r => r.liftPending
    | none => false
  let reason := match t.cutReason with
    | some r => cutReasonCode r
    | none => 0
  let cause := match t.reclaim with
    | some r => causeCode r.cause
    | none => 0
  latchOf
    [ half (slotStateCode t.state + 8 * bit t.enabled + 16 * phase + 64 * bit lift + 128 * bit t.destEmpty + 256 * reason),
      half t.charge,
      twoBytes (byteOr (t.card.map Card.held)) (byteOr (t.reclaim.map Reclaim.target)),
      half cause,
      twoBytes (byteOr t.curWidth) (byteOr t.pendWidth) ]

/-- Configuration record of a slot (R171, 12.5), with the effective floor its card has under the floor override (R46). 12.5 gives that floor
no place in the slot record; it stands in the byte of the configuration record that 12.5 marks with a dash (DESIGN CHOICE, log entry 16). -/
def SlotConfig.record (effFloor : Option Nat) (c : SlotConfig) : Vector Half 8 :=
  latchOf
    [ twoBytes c.cls (byteOr c.floorOverride), half c.cap, twoBytes c.admission c.lease, twoBytes c.settle c.discharge,
      twoBytes c.helloTimeout c.replyWindow, twoBytes c.reclaimWindow (byteOr effFloor) ]

/-- A draw in 12 bits (R183); 0 at or beyond the step count. -/
def Card.draw12 (c : Card) (k : Nat) : Nat := min (c.draw k) 4095

/-- Step table of a card (12.5). -/
def Card.record (c : Card) : Vector Half 8 :=
  latchOf
    [ half (c.draw12 0 + 4096 * c.count), half (c.draw12 1 + 4096 * c.declaredFloor), half (c.draw12 2 + 4096 * c.effFloor),
      half (c.draw12 3 + 4096 * c.usableTop), half (c.draw12 4), half (c.draw12 5),
      c.cardId.extractLsb' 0 16, c.cardId.extractLsb' 16 16 ]

/-- A wait entry (12.5, R122). -/
def WaitEntry.record (e : WaitEntry) : Vector Half 8 :=
  let kind := match e.kind with
    | .admission => 0
    | .step _ _ => 1
  let asked := match e.kind with
    | .admission => 0
    | .step asked _ => asked
  let floor := match e.kind with
    | .admission => 0
    | .step _ floor => floor
  latchOf
    [ half (e.slot.val + 16 * kind + 32 * e.cls + 256 * bit e.anchored + 512 * bit e.beneficiary), half asked, half floor,
      half e.overtaken ]

/-- The episode header with the policy (12.5). -/
def State.episodeHeader (s : State) : Vector Half 8 :=
  let e := s.episode
  latchOf
    [ half (episodeKindCode e.kind),
      half (match e.beneficiary with
        | some i => i.val
        | none => Config.noSlot),
      half e.target, half e.expected, twoBytes e.victims.length e.cuts.length, half (modeCode s.policy.mode),
      half s.policy.limit, half (bit s.policy.preempt) ]

/-- A victim list entry (12.5). -/
def Victim.record (v : Victim) : Vector Half 8 := latchOf [half v.slot.val, half v.target, half v.remaining]

/-- A cut list entry (12.5). -/
def CutEntry.record (c : CutEntry) : Vector Half 8 := latchOf [half c.slot.val, half c.counted]

/-- A profile record (12.5). -/
def State.profileRecord (s : State) (p : Fin 4) : Vector Half 8 :=
  latchOf [half s.profiles[p], half (bit (decide (p = s.src.value)))]

/-- The recency list (12.5). -/
def State.recencyRecord (s : State) : Vector Half 8 :=
  Vector.ofFn (fun k : Fin 8 => half (match s.recency[k.val]? with
    | some i => i.val
    | none => Config.noSlot))

/-- Slot record table (R171). -/
def State.slotTable (s : State) (index : Nat) : Option (Vector Half 8) :=
  if h : index < 8 then some (s.slot ⟨index, h⟩).liveRecord
  else if h : index - 8 < 8 then
    let t := s.slot ⟨index - 8, h⟩
    some (t.cfg.record (t.card.map Card.effFloor))
  else none

/-- Step table table (R171): absent when the slot has none. -/
def State.stepTable (s : State) (index : Nat) : Option (Vector Half 8) :=
  if h : index < 8 then (s.slot ⟨index, h⟩).card.map Card.record else none

/-- Wait entry table (R122, R171): positions from 1. -/
def State.waitTable (s : State) (index : Nat) : Option (Vector Half 8) :=
  if index = 0 then none else s.waitList[index - 1]?.map WaitEntry.record

/-- Episode record table (R171). -/
def State.episodeTable (s : State) (index : Nat) : Option (Vector Half 8) :=
  if index = 0 then some s.episodeHeader
  else if index ≤ 8 then s.episode.victims[index - 1]?.map Victim.record
  else if index ≤ 16 then s.episode.cuts[index - 9]?.map CutEntry.record
  else none

/-- Profile table (R171). -/
def State.profileTable (s : State) (index : Nat) : Option (Vector Half 8) :=
  if h : index < 4 then some (s.profileRecord ⟨index, h⟩) else none

/-- Recency list table (R171). -/
def State.recencyTable (s : State) (index : Nat) : Option (Vector Half 8) :=
  if index = 0 then some s.recencyRecord else none

/-- The record that TABLE_SEL and an index select, if it exists (R170, R171, 12.5). -/
def State.selected (s : State) (index : Half) : Option (Vector Half 8) :=
  match s.tableSel.toNat with
  | 0 => s.slotTable index.toNat
  | 1 => s.stepTable index.toNat
  | 2 => s.waitTable index.toNat
  | 3 => s.episodeTable index.toNat
  | 4 => s.profileTable index.toNat
  | 5 => s.recencyTable index.toNat
  | _ => none

/-- A write to TABLE_INDEX: the index is stored and the record latched (R170). -/
def State.writeIndex (s : State) (index : Half) : State :=
  { s with tableIndex := index, tableData := (s.selected index).getD noRecord }

/-- A write to REPORT_POP (R179). -/
def State.popReport (s : State) : State := { s with reports := s.reports.tail }

/-- A write to IRQ_ENABLE: seven enable bits, the others read 0 (R162, 12.2; DEDUCED, log entry 11). -/
def State.writeEnables (s : State) (v : Half) : State := { s with irqEnable := v.setWidth 7 }

/-- Halfword k of the head report (R178, 12.3). -/
def State.reportHead (s : State) (k : Nat) : Half :=
  match s.reports with
  | [] => 0
  | r :: _ =>
    match k with
    | 0 => half (r.slot.toNat + 256 * reportKindCode r.kind)
    | 1 => r.a
    | 2 => r.b
    | _ => r.c

/-- What the register at an index reads; no read changes state (R159, R18, R178, 12.2). -/
def State.read (s : State) (addr : BitVec 6) : Half :=
  match addr.toNat with
  | 0x00 => Config.idPart
  | 0x01 => Config.idRevision
  | 0x02 => s.status
  | 0x03 => s.events
  | 0x04 => s.irqEnable.setWidth 16
  | 0x08 => s.cmdP0
  | 0x09 => s.cmdP1
  | 0x0A => s.cmdP2
  | 0x0C => half s.cmdQueue.length
  | 0x10 => half s.reports.length
  | 0x11 => s.reportHead 0
  | 0x12 => s.reportHead 1
  | 0x13 => s.reportHead 2
  | 0x14 => s.reportHead 3
  | 0x18 => half s.capacity
  | 0x19 => half s.reserve
  | 0x1A => half s.available
  | 0x1B => half s.committed
  | 0x1C => half s.src.value.val
  | 0x20 => s.tableSel
  | 0x21 => s.tableIndex
  | 0x28 => s.tableData[0]
  | 0x29 => s.tableData[1]
  | 0x2A => s.tableData[2]
  | 0x2B => s.tableData[3]
  | 0x2C => s.tableData[4]
  | 0x2D => s.tableData[5]
  | 0x2E => s.tableData[6]
  | 0x2F => s.tableData[7]
  | _ => 0

/-- What a write to the register at an index does (R159, 12.2). -/
def State.write (s : State) (addr : BitVec 6) (v : Half) : State :=
  match addr.toNat with
  | 0x03 => s.clearEvents v
  | 0x04 => s.writeEnables v
  | 0x08 => { s with cmdP0 := v }
  | 0x09 => { s with cmdP1 := v }
  | 0x0A => { s with cmdP2 := v }
  | 0x0B => s.pushCommand v
  | 0x15 => s.popReport
  | 0x20 => { s with tableSel := v }
  | 0x21 => s.writeIndex v
  | _ => s

/-- A read strobed on the local bus: 0 while RESET# is asserted, else what the register reads (R159). -/
def State.busRead (s : State) (a : BusAccess) : Half := if a.resetAsserted then 0 else s.read a.addr

/-- A write strobed on the local bus: ignored while RESET# is asserted, else taken by its register (R159). -/
def State.busWrite (s : State) (a : BusAccess) (v : Half) : State := if a.resetAsserted then s else s.write a.addr v

end Sys2Proof.Machine
end

