-- ==== Sys2Proof/Machine/Timebase.lean ====
section
/-! DEFINITION. The events the PB8 raises for itself, each with the condition under which it is due, and the tick. A row of such an event
that is not due changes nothing (DESIGN CHOICE, log entry 2). -/

namespace Sys2Proof.Machine

/-- The pending SRC value is taken when it has held for 20 ticks (R11). -/
def State.srcEvent (s : State) : State :=
  match s.src.ready Config.srcDebounce with
  | some v => s.takeSrc v
  | none => s

/-- Presence arrives when the pending value has held for 50 ticks (R21, R22). -/
def State.arrivalEvent (s : State) (i : SlotId) : State :=
  match (s.slot i).pres.ready Config.presDebounce with
  | some true => s.presenceArrives i
  | some false => s
  | none => s

/-- Presence is lost when the pending value has held for 50 ticks (R21, R23). -/
def State.lossEvent (s : State) (i : SlotId) : State :=
  match (s.slot i).pres.ready Config.presDebounce with
  | some false => s.presenceLost i
  | some true => s
  | none => s

/-- The slot enters LISTENING (R28). -/
def Slot.listen (t : Slot) : Slot :=
  { t with
    state := .listening, settle := none, hello := Timer.start (Config.ticksPerUnit * t.cfg.helloTimeout), link := t.link.switchOn }

/-- Settle timer expiry (R28). -/
def State.settleEvent (s : State) (i : SlotId) : State :=
  if (s.slot i).settle.due && decide ((s.slot i).state = .settling) then s.modSlot i Slot.listen else s

/-- Hello timer expiry (R29). -/
def State.helloEvent (s : State) (i : SlotId) : State :=
  if (s.slot i).hello.due && decide ((s.slot i).state = .listening) then s.startCut i .helloTimeout else s

/-- Discharge timer expiry (R36). -/
def State.dischargeEvent (s : State) (i : SlotId) : State :=
  if (s.slot i).discharge.due && decide ((s.slot i).state = .cutting) then s.completeCut i else s

/-- Lease timer expiry (R100, R101). -/
def State.leaseEvent (s : State) (i : SlotId) : State :=
  if (s.slot i).lease.due && decide ((s.slot i).state = .active) then s.expireLease i else s

/-- The reclaim window of slot i has expired in phase RECLAIMING. -/
def Slot.windowDue (t : Slot) : Bool :=
  match t.reclaim with
  | some r => decide (r.phase = .reclaiming) && r.window.due
  | none => false

/-- Reclaim window expiry (R134). -/
def State.windowEvent (s : State) (i : SlotId) : State := if (s.slot i).windowDue then s.expireWindow i else s

/-- Frame start (R141). -/
def State.frameEvent (s : State) (i : SlotId) : State := if (s.slot i).frameDue then s.startFrame i else s

/-- Reply window expiry (R60, R62). -/
def State.replyEvent (s : State) (i : SlotId) : State :=
  match (s.slot i).link.outstanding with
  | some o =>
    if o.window.due then
      if o.retries < Config.maxRetries then s.modLink i (Link.retry o) else s.cutIfPowered i .silent
    else s
  | none => s

/-- Everything due in slot i is taken, in a fixed order (DESIGN CHOICE, log entry 2: the manual lets events of one tick be taken in
either order). -/
def State.settleSlot (s : State) (i : SlotId) : State :=
  (((((((((s.arrivalEvent i).lossEvent i).settleEvent i).helloEvent i).dischargeEvent i).leaseEvent i).windowEvent i).frameEvent
    i).replyEvent i).gapEvent i

/-- The commands that can be taken are taken (R164). -/
def takeHeads : Nat → State → State
  | 0, s => s
  | k + 1, s =>
    match s.headCommand with
    | some cmd => takeHeads k (s.takeHead cmd)
    | none => s

/-- Every event still due is taken: a new tick finds none left (R1: a timer expires on the tick that brings its count to its length). -/
def State.settleAll (s : State) : State :=
  takeHeads s.cmdQueue.length (slotIds.foldl (fun s i => s.settleSlot i) s.srcEvent)

/-- The gap timer at a tick while a frame is assembled (R49). A byte under way keeps the frame, and the timer starts at that byte's end,
after this tick. A byte that has ended since the tick before has started the timer afresh, and this tick is the first it counts. With
neither the timer counts on. -/
def gapAtTick (ended underWay : Bool) (gap : Timer) : Timer :=
  if underWay then Timer.start Config.gapTicks
  else if ended then (Timer.start Config.gapTicks).tick
  else gap.tick

/-- A tick counts the timers of a Link Engine (R1, R49). -/
def Link.tick (ended underWay : Bool) (l : Link) : Link :=
  { l with
    gap := if l.asm.busy then gapAtTick ended underWay l.gap else l.gap.tick
    outstanding := l.outstanding.map (fun o => { o with window := o.window.tick }) }

/-- A tick counts the timers of a slot and samples its PRES (R1, R21). `start` says that the tick is its frame start (R138). -/
def Slot.tick (pres ended underWay start : Bool) (t : Slot) : Slot :=
  { t with
    pres := t.pres.sample pres
    settle := t.settle.tick
    hello := t.hello.tick
    lease := t.lease.tick
    discharge := t.discharge.tick
    reclaim := t.reclaim.map (fun r => { r with window := r.window.tick })
    frameDue := start
    link := t.link.tick ended underWay }

/-- The frame counter after a tick (R138). -/
def nextCount (n : Nat) : Nat := (n + 1) % Config.frameLength

/-- A plain tick: the divider has come round to 0 (R1, R11, R21, R138, R140). -/
def State.count (s : State) (src1 src0 : Bool) (pres : BitVec 8) (line : LineActivity) : State :=
  let n := nextCount s.frameCounter
  let s := { s with tickDivider := 0, frameCounter := n, src := s.src.sample (rawSrc src1 src0) }
  slotIds.foldl
    (fun s i =>
      (s.modSlot i
        (Slot.tick (pres.getLsbD i.val) (line.ended.getLsbD i.val) (line.underWay.getLsbD i.val)
          (decide (n = Config.frameOffset * i.val)))).driveRun
        i) s

end Sys2Proof.Machine
end

