-- ==== Sys2Proof/Machine/LinkEvents.lean ====
section
/-! DEFINITION. The family of the line: SYNC, abandoned, discarded and malformed frames, ACK, the end of a frame on LTX. -/

namespace Sys2Proof.Machine

/-- SYNC_RECEIVED (R48, R49): 0xC3 and the bytes after it pass through the receive assembler. -/
def execSyncReceived (slot : SlotId) (following : List Byte) (s : State) : Host.Outcome State Fault Refusal :=
  .next (receiveAll slot (Config.sync :: following) s)

/-- The cause abandons the frame of an assembler (R48): LEN above 20 in LENGTH, a framing error in LENGTH or BODY. -/
def abandons (a : Assembler) (cause : AbandonCause) : Bool :=
  match cause with
  | .badLength len => decide (a = .length) && decide (Config.maxLen < len.toNat)
  | .framingError => a.busy

/-- FRAME_ABANDONED (R48). -/
def execFrameAbandoned (slot : SlotId) (cause : AbandonCause) (s : State) : Host.Outcome State Fault Refusal :=
  .next (if abandons (s.slot slot).link.asm cause then s.frameDone slot else s)

/-- LINK_FRAME_DISCARDED (R53). A frame that passes the checks is not discarded, and the command then changes nothing. -/
def execLinkFrameDiscarded (slot : SlotId) (frame : RxFrame) (s : State) : Host.Outcome State Fault Refusal :=
  .next (if passesChecks frame then s else s.frameDone slot)

/-- MALFORMED (R54, R55). A payload whose length suits its kind is not malformed, and the command then changes nothing. -/
def execMalformed (slot : SlotId) (kind : LinkKind) (tag : BitVec 3) (payload : List Byte) (s : State) :
    Host.Outcome State Fault Refusal :=
  .next (if lengthSuits kind payload then s else s.takeMalformed slot kind tag)

/-- ACK (R55, R61). -/
def execAck (slot : SlotId) (seq : Bool) (s : State) : Host.Outcome State Fault Refusal := .next (s.takeAck slot seq)

/-- FRAME_TRANSMITTED (R59, R60, R67): the last byte leaves LTX, with the reply window field read now. -/
def execFrameTransmitted (slot : SlotId) (s : State) : Host.Outcome State Fault Refusal :=
  .next (s.modLink slot (Link.sent (s.slot slot).cfg.replyWindow))

end Sys2Proof.Machine
end

