-- ==== Sys2Proof/Machine/RequestFamily.lean ====
section
/-! DEFINITION. The family of card requests (The Budget Link, Declarations and Step Tables, Requests, Grants and Leases, CONFIRM). -/

namespace Sys2Proof.Machine

/-- HELLO (R69 to R76). -/
def execHello (slot : SlotId) (tag : BitVec 3) (cardId : BitVec 32) (floor : Byte) (draws : List Half) (s : State) :
    Host.Outcome State Fault Refusal :=
  .next (s.takeHello slot tag cardId floor draws)

/-- ASK (R83 to R89). -/
def execAsk (slot : SlotId) (tag : BitVec 3) (asked floor flags : Byte) (s : State) : Host.Outcome State Fault Refusal :=
  .next (s.takeAsk slot tag asked floor flags)

/-- YIELD (R92, R93). -/
def execYield (slot : SlotId) (tag : BitVec 3) (target : Byte) (s : State) : Host.Outcome State Fault Refusal :=
  .next (s.takeYield slot tag target)

/-- WITHDRAW (R95). -/
def execWithdraw (slot : SlotId) (tag : BitVec 3) (s : State) : Host.Outcome State Fault Refusal := .next (s.takeWithdraw slot tag)

/-- RENEW (R98, R99). -/
def execRenew (slot : SlotId) (tag : BitVec 3) (s : State) : Host.Outcome State Fault Refusal := .next (s.takeRenew slot tag)

/-- CONFIRM (R127 to R132). -/
def execConfirm (slot : SlotId) (tag : BitVec 3) (target : Byte) (s : State) : Host.Outcome State Fault Refusal :=
  .next (s.takeConfirm slot tag target)

end Sys2Proof.Machine
end

