-- ==== Sys2Proof/Machine/ResetEvents.lean ====
section
/-! DEFINITION. The family of the Timebase and the input pins: PIN_RESET, TICK, the debounces, SWFLT. -/

namespace Sys2Proof.Machine

/-- PIN_RESET: the whole block returns to its reset state and stays in it while RESET# is asserted (R19, R20, R138, R172, R182);
a write strobed meanwhile is a REGISTER_WRITE with RESET# asserted (R159; log entry 13). The commands that wait are the model's own and stay
(DESIGN CHOICE, log entry 1). -/
def execPinReset (s : State) : Host.Outcome State Fault Refusal := .next { State.reset with pending := s.pending }

/-- TICK (R1): what the tick before left due is taken first (log entry 2), then the tick counts and samples. -/
def execTick (src1 src0 : Bool) (pres : BitVec 8) (line : LineActivity) (s : State) : Host.Outcome State Fault Refusal :=
  .next (s.settleAll.count src1 src0 pres line)

/-- SRC_DEBOUNCE_TAKEN (R11, R13). It acts when a pending value has held for 20 ticks; otherwise no such event occurs. -/
def execSrcDebounceTaken (s : State) : Host.Outcome State Fault Refusal := .next s.srcEvent

/-- ARRIVAL_OF_PRESENCE (R22). It acts when presence has been pending for 50 ticks. -/
def execArrivalOfPresence (slot : SlotId) (s : State) : Host.Outcome State Fault Refusal := .next (s.arrivalEvent slot)

/-- LOSS_OF_PRESENCE (R23). It acts when absence has been pending for 50 ticks. -/
def execLossOfPresence (slot : SlotId) (s : State) : Host.Outcome State Fault Refusal := .next (s.lossEvent slot)

/-- SWITCH_FAULT (R30): the tick's sample of SWFLT is asserted. -/
def execSwitchFault (slot : SlotId) (s : State) : Host.Outcome State Fault Refusal := .next (s.cutIfPowered slot .fault)

end Sys2Proof.Machine
end

