-- ==== Sys2Proof/Machine/SlotConfigFamily.lean ====
section
/-! DEFINITION. The family of SLOT_CONFIG commands (R41 to R46). Each is taken when the Command Unit can take it (R164). -/

namespace Sys2Proof.Machine

/-- SLOT_CONFIG of the enabled field, taken as ENABLE or DISABLE (R41, R31, R32). -/
def execSlotConfigEnabled (p0 value : Half) (s : State) : Host.Outcome State Fault Refusal :=
  .next (s.takeCommand (.slotConfigEnabled p0 value) (fun t => t.runConfigEnabled p0 value))

/-- SLOT_CONFIG of the class field (R43, R107). -/
def execSlotConfigClass (p0 value : Half) (s : State) : Host.Outcome State Fault Refusal :=
  .next (s.takeCommand (.slotConfigClass p0 value) (fun t => t.runConfigClass p0 value))

/-- SLOT_CONFIG of the cap field (R44, R45). -/
def execSlotConfigCap (p0 value : Half) (s : State) : Host.Outcome State Fault Refusal :=
  .next (s.takeCommand (.slotConfigCap p0 value) (fun t => t.runConfigCap p0 value))

/-- SLOT_CONFIG of the admission charge (R42). -/
def execSlotConfigAdmissionCharge (p0 value : Half) (s : State) : Host.Outcome State Fault Refusal :=
  .next (s.takeCommand (.slotConfigAdmissionCharge p0 value) (fun t => t.runConfigAdmission p0 value))

/-- SLOT_CONFIG of the lease field (R42). -/
def execSlotConfigLease (p0 value : Half) (s : State) : Host.Outcome State Fault Refusal :=
  .next (s.takeCommand (.slotConfigLease p0 value) (fun t => t.runConfigLease p0 value))

/-- SLOT_CONFIG of the settle field (R42). -/
def execSlotConfigSettle (p0 value : Half) (s : State) : Host.Outcome State Fault Refusal :=
  .next (s.takeCommand (.slotConfigSettle p0 value) (fun t => t.runConfigSettle p0 value))

/-- SLOT_CONFIG of the discharge field (R42). -/
def execSlotConfigDischarge (p0 value : Half) (s : State) : Host.Outcome State Fault Refusal :=
  .next (s.takeCommand (.slotConfigDischarge p0 value) (fun t => t.runConfigDischarge p0 value))

/-- SLOT_CONFIG of the hello timeout field (R42). -/
def execSlotConfigHelloTimeout (p0 value : Half) (s : State) : Host.Outcome State Fault Refusal :=
  .next (s.takeCommand (.slotConfigHelloTimeout p0 value) (fun t => t.runConfigHello p0 value))

/-- SLOT_CONFIG of the reply window field (R42). -/
def execSlotConfigReplyWindow (p0 value : Half) (s : State) : Host.Outcome State Fault Refusal :=
  .next (s.takeCommand (.slotConfigReplyWindow p0 value) (fun t => t.runConfigReplyWindow p0 value))

/-- SLOT_CONFIG of the reclaim window field (R42). -/
def execSlotConfigReclaimWindow (p0 value : Half) (s : State) : Host.Outcome State Fault Refusal :=
  .next (s.takeCommand (.slotConfigReclaimWindow p0 value) (fun t => t.runConfigReclaimWindow p0 value))

/-- SLOT_CONFIG of the floor override (R46, R78). -/
def execSlotConfigFloorOverride (p0 value : Half) (s : State) : Host.Outcome State Fault Refusal :=
  .next (s.takeCommand (.slotConfigFloorOverride p0 value) (fun t => t.runConfigOverride p0 value))

/-- SLOT_CONFIG of a field code that names no field (R41). -/
def execSlotConfigUnknownField (p0 field value : Half) (s : State) : Host.Outcome State Fault Refusal :=
  .next (s.takeCommand (.slotConfigUnknownField p0 field value) (fun t => t.runConfigUnknown p0))

end Sys2Proof.Machine
end

