-- ==== Sys2Proof/Machine/SnapshotFamily.lean ====
section
/-! DEFINITION. The family of snapshots. Each row is a write to TABLE_INDEX while TABLE_SEL holds the row's table code. TABLE_SEL itself
decides what the write latches (R170), so a row sent under another selection latches what that selection names (DESIGN CHOICE, log entry 6). -/

namespace Sys2Proof.Machine

/-- SLOT_RECORD_SNAPSHOT: a write to TABLE_INDEX with table 0, slot record, selected (R170, R171, 12.5). -/
def execSlotRecordSnapshot (index : Half) (s : State) : Host.Outcome State Fault Refusal := .next (s.writeIndex index)

/-- STEP_TABLE_SNAPSHOT: a write to TABLE_INDEX with table 1, step table, selected (R170, R171, 12.5). -/
def execStepTableSnapshot (index : Half) (s : State) : Host.Outcome State Fault Refusal := .next (s.writeIndex index)

/-- WAIT_ENTRY_SNAPSHOT: a write to TABLE_INDEX with table 2, wait entry, selected (R170, R171, 12.5). -/
def execWaitEntrySnapshot (index : Half) (s : State) : Host.Outcome State Fault Refusal := .next (s.writeIndex index)

/-- EPISODE_RECORD_SNAPSHOT: a write to TABLE_INDEX with table 3, episode record, selected (R170, R171, 12.5). -/
def execEpisodeRecordSnapshot (index : Half) (s : State) : Host.Outcome State Fault Refusal := .next (s.writeIndex index)

/-- PROFILE_SNAPSHOT: a write to TABLE_INDEX with table 4, profile, selected (R170, R171, 12.5). -/
def execProfileSnapshot (index : Half) (s : State) : Host.Outcome State Fault Refusal := .next (s.writeIndex index)

/-- RECENCY_LIST_SNAPSHOT: a write to TABLE_INDEX with table 5, recency list, selected (R170, R171, 12.5). -/
def execRecencyListSnapshot (index : Half) (s : State) : Host.Outcome State Fault Refusal := .next (s.writeIndex index)

/-- TABLE_INDEX_WRITE_NO_TABLE: a write to TABLE_INDEX while TABLE_SEL names no table (R170). -/
def execTableIndexWriteNoTable (index : Half) (s : State) : Host.Outcome State Fault Refusal := .next (s.writeIndex index)

end Sys2Proof.Machine
end

