-- ==== Sys2Proof/Machine/TimerEvents.lean ====
section
/-! DEFINITION. The family of timer events of a slot. Each acts when its timer has counted to its length (R1); a stopped or still
counting timer does not expire, and the command then changes nothing. -/

namespace Sys2Proof.Machine

/-- SETTLE_TIMER_EXPIRY (R28). -/
def execSettleTimerExpiry (slot : SlotId) (s : State) : Host.Outcome State Fault Refusal := .next (s.settleEvent slot)

/-- HELLO_TIMER_EXPIRY (R29). -/
def execHelloTimerExpiry (slot : SlotId) (s : State) : Host.Outcome State Fault Refusal := .next (s.helloEvent slot)

/-- CUT_COMPLETION (R36). -/
def execCutCompletion (slot : SlotId) (s : State) : Host.Outcome State Fault Refusal := .next (s.dischargeEvent slot)

/-- LEASE_EXPIRY (R100, R101). -/
def execLeaseExpiry (slot : SlotId) (s : State) : Host.Outcome State Fault Refusal := .next (s.leaseEvent slot)

/-- RECLAIM_WINDOW_EXPIRY (R134). -/
def execReclaimWindowExpiry (slot : SlotId) (s : State) : Host.Outcome State Fault Refusal := .next (s.windowEvent slot)

/-- FRAME_START (R141, R131): the tick that is the slot's frame start. -/
def execFrameStart (slot : SlotId) (s : State) : Host.Outcome State Fault Refusal := .next (s.frameEvent slot)

/-- REPLY_WINDOW_EXPIRY (R60, R62). -/
def execReplyWindowExpiry (slot : SlotId) (s : State) : Host.Outcome State Fault Refusal := .next (s.replyEvent slot)

/-- GAP_TIMER_EXPIRY (R49). -/
def execGapTimerExpiry (slot : SlotId) (s : State) : Host.Outcome State Fault Refusal := .next (s.gapEvent slot)

end Sys2Proof.Machine
end

