-- ==== Sys2Proof/Machine/WindowFamily.lean ====
section
/-! DEFINITION. The family of register writes of the Host Window. -/

namespace Sys2Proof.Machine

/-- REPORT_POP (R179). -/
def execReportPop (s : State) : Host.Outcome State Fault Refusal := .next s.popReport

/-- EVENTS_WRITE (R161). -/
def execEventsWrite (value : Half) (s : State) : Host.Outcome State Fault Refusal := .next (s.clearEvents value)

/-- IRQ_ENABLE_WRITE (R162). -/
def execIrqEnableWrite (value : Half) (s : State) : Host.Outcome State Fault Refusal := .next (s.writeEnables value)

/-- REGISTER_WRITE (R159): stores the value or is ignored. A write to a register with a row of its own acts as that row's write does
(DESIGN CHOICE, log entry 6). A write strobed while RESET# is asserted is ignored (log entry 13). -/
def execRegisterWrite (access : BusAccess) (value : Half) (s : State) : Host.Outcome State Fault Refusal :=
  .next (s.busWrite access value)

/-- CMD_CODE_WRITE (R163). -/
def execCmdCodeWrite (code : Half) (s : State) : Host.Outcome State Fault Refusal := .next (s.pushCommand code)

end Sys2Proof.Machine
end

