-- ==== Sys2Proof/Machine/Dispatch.lean ====
section
/-! DEFINITION. One arm per constructor of Instr, in the order of spec/opcode_table.json. -/

namespace Sys2Proof.Machine

def exec (i : Instr) (s : State) : Host.Outcome State Fault Refusal :=
  match i with
  | .pinReset => Sys2Proof.Machine.execPinReset s
  | .srcDebounceTaken => Sys2Proof.Machine.execSrcDebounceTaken s
  | .arrivalOfPresence slot => Sys2Proof.Machine.execArrivalOfPresence slot s
  | .lossOfPresence slot => Sys2Proof.Machine.execLossOfPresence slot s
  | .switchFault slot => Sys2Proof.Machine.execSwitchFault slot s
  | .settleTimerExpiry slot => Sys2Proof.Machine.execSettleTimerExpiry slot s
  | .helloTimerExpiry slot => Sys2Proof.Machine.execHelloTimerExpiry slot s
  | .cutCompletion slot => Sys2Proof.Machine.execCutCompletion slot s
  | .leaseExpiry slot => Sys2Proof.Machine.execLeaseExpiry slot s
  | .reclaimWindowExpiry slot => Sys2Proof.Machine.execReclaimWindowExpiry slot s
  | .frameStart slot => Sys2Proof.Machine.execFrameStart slot s
  | .replyWindowExpiry slot => Sys2Proof.Machine.execReplyWindowExpiry slot s
  | .gapTimerExpiry slot => Sys2Proof.Machine.execGapTimerExpiry slot s
  | .frameAbandoned slot cause => Sys2Proof.Machine.execFrameAbandoned slot cause s
  | .linkFrameDiscarded slot frame => Sys2Proof.Machine.execLinkFrameDiscarded slot frame s
  | .malformed slot kind tag payload => Sys2Proof.Machine.execMalformed slot kind tag payload s
  | .hello slot tag cardId floor draws => Sys2Proof.Machine.execHello slot tag cardId floor draws s
  | .ask slot tag asked floor flags => Sys2Proof.Machine.execAsk slot tag asked floor flags s
  | .yield slot tag target => Sys2Proof.Machine.execYield slot tag target s
  | .withdraw slot tag => Sys2Proof.Machine.execWithdraw slot tag s
  | .renew slot tag => Sys2Proof.Machine.execRenew slot tag s
  | .confirm slot tag target => Sys2Proof.Machine.execConfirm slot tag target s
  | .ack slot seq => Sys2Proof.Machine.execAck slot seq s
  | .frameTransmitted slot => Sys2Proof.Machine.execFrameTransmitted slot s
  | .slotConfigEnabled p0 value => Sys2Proof.Machine.execSlotConfigEnabled p0 value s
  | .slotConfigClass p0 value => Sys2Proof.Machine.execSlotConfigClass p0 value s
  | .slotConfigCap p0 value => Sys2Proof.Machine.execSlotConfigCap p0 value s
  | .slotConfigAdmissionCharge p0 value => Sys2Proof.Machine.execSlotConfigAdmissionCharge p0 value s
  | .slotConfigLease p0 value => Sys2Proof.Machine.execSlotConfigLease p0 value s
  | .slotConfigSettle p0 value => Sys2Proof.Machine.execSlotConfigSettle p0 value s
  | .slotConfigDischarge p0 value => Sys2Proof.Machine.execSlotConfigDischarge p0 value s
  | .slotConfigHelloTimeout p0 value => Sys2Proof.Machine.execSlotConfigHelloTimeout p0 value s
  | .slotConfigReplyWindow p0 value => Sys2Proof.Machine.execSlotConfigReplyWindow p0 value s
  | .slotConfigReclaimWindow p0 value => Sys2Proof.Machine.execSlotConfigReclaimWindow p0 value s
  | .slotConfigFloorOverride p0 value => Sys2Proof.Machine.execSlotConfigFloorOverride p0 value s
  | .enable p0 => Sys2Proof.Machine.execEnable p0 s
  | .disable p0 => Sys2Proof.Machine.execDisable p0 s
  | .restore p0 => Sys2Proof.Machine.execRestore p0 s
  | .reclaim p0 step => Sys2Proof.Machine.execReclaim p0 step s
  | .dropWait p0 => Sys2Proof.Machine.execDropWait p0 s
  | .setProfile index capacity => Sys2Proof.Machine.execSetProfile index capacity s
  | .setReserve amount force => Sys2Proof.Machine.execSetReserve amount force s
  | .setPolicy mode limit preempt => Sys2Proof.Machine.execSetPolicy mode limit preempt s
  | .restart => Sys2Proof.Machine.execRestart s
  | .slotRecordSnapshot index => Sys2Proof.Machine.execSlotRecordSnapshot index s
  | .stepTableSnapshot index => Sys2Proof.Machine.execStepTableSnapshot index s
  | .waitEntrySnapshot index => Sys2Proof.Machine.execWaitEntrySnapshot index s
  | .episodeRecordSnapshot index => Sys2Proof.Machine.execEpisodeRecordSnapshot index s
  | .profileSnapshot index => Sys2Proof.Machine.execProfileSnapshot index s
  | .recencyListSnapshot index => Sys2Proof.Machine.execRecencyListSnapshot index s
  | .reportPop => Sys2Proof.Machine.execReportPop s
  | .eventsWrite value => Sys2Proof.Machine.execEventsWrite value s
  | .irqEnableWrite value => Sys2Proof.Machine.execIrqEnableWrite value s
  | .registerWrite access value => Sys2Proof.Machine.execRegisterWrite access value s
  | .tick src1 src0 pres line => Sys2Proof.Machine.execTick src1 src0 pres line s
  | .syncReceived slot following => Sys2Proof.Machine.execSyncReceived slot following s
  | .cmdCodeWrite code => Sys2Proof.Machine.execCmdCodeWrite code s
  | .unknownCommandCode code p0 => Sys2Proof.Machine.execUnknownCommandCode code p0 s
  | .slotConfigUnknownField p0 field value => Sys2Proof.Machine.execSlotConfigUnknownField p0 field value s
  | .tableIndexWriteNoTable index => Sys2Proof.Machine.execTableIndexWriteNoTable index s

end Sys2Proof.Machine
end

