-- ==== Sys2Proof/Safety.lean ====
section
/-! DEFINITION. What holds of the block in every state it should reach, in the terms the statements use. Each is decidable. -/

namespace Sys2Proof.Safety

open Machine

/-- No GAP record is immediately followed by another (R174). -/
def gapsApart : List Report → Bool
  | [] => true
  | [_] => true
  | a :: b :: rest => !(decide (a.kind = .gap) && decide (b.kind = .gap)) && gapsApart (b :: rest)

/-- The report queue holds at most 32 records, the 32nd only as a GAP, and no two GAPs in a row (R174, R176). -/
abbrev ReportForm (s : State) : Prop :=
  s.reports.length ≤ 32 ∧ (s.reports.length = 32 → tailIsGap s.reports = true) ∧ gapsApart s.reports = true

/-- The command queue holds at most four entries (R163). -/
abbrev CommandForm (s : State) : Prop := s.cmdQueue.length ≤ 4

/-- The frame counter lies in 0 to 30 (R138), and the tick divider below 4000 (R1). -/
abbrev CounterForm (s : State) : Prop := s.frameCounter < 31 ∧ s.tickDivider < 4000

/-- The wait list holds at most one entry per slot, highest class first (R106). -/
abbrev WaitForm (s : State) : Prop :=
  (s.waitList.map WaitEntry.slot).Nodup ∧ s.waitList.Pairwise (fun a b => b.cls ≤ a.cls)

/-- A STEP entry of a card: its floor lies above the held step, at or below the asked step, and within the usable top, and the
asked step is a step of the card (R84, R105, R116). -/
def stepFits (t : Slot) (asked floor : Nat) : Bool :=
  match t.card with
  | some c => decide (c.held < floor) && decide (floor ≤ asked) && decide (asked < c.count) && decide (floor ≤ c.usableTop)
  | none => false

/-- An entry belongs to a slot that may hold it (R105). -/
def entryFits (s : State) (e : WaitEntry) : Bool :=
  decide (e.cls = (s.slot e.slot).cfg.cls) && decide (e.overtaken ≤ 7) &&
    match e.kind with
    | .admission => decide ((s.slot e.slot).state = .admitting)
    | .step asked floor =>
      decide ((s.slot e.slot).state = .active) && (s.slot e.slot).reclaim.isNone && stepFits (s.slot e.slot) asked floor

/-- Every ADMIT entry belongs to a slot in ADMITTING, every STEP entry to an ACTIVE slot with no reclaim whose held step is below
the floor, and every slot in ADMITTING holds an entry (R105, R27). -/
abbrev EntryForm (s : State) : Prop :=
  (∀ e ∈ s.waitList, entryFits s e = true) ∧ ∀ i : SlotId, (s.slot i).state = .admitting → (s.entryOf i).isSome = true

/-- The recency list holds only ACTIVE slots, each at most once (R91). -/
abbrev RecencyForm (s : State) : Prop := s.recency.Nodup ∧ ∀ i ∈ s.recency, (s.slot i).state = .active

/-- A stored step table has an accepted shape, and its held step, effective floor and usable top are steps of it (R71, R77, R78). -/
def cardFits (c : Card) : Bool :=
  shapeOk c.declaredFloor c.draws && decide (c.held < c.count) && decide (c.effFloor < c.count) && decide (c.usableTop < c.count)

/-- In ACTIVE the usable top step and the effective floor stand as R77 and R78 compute them, draw(0) is within the cap, and the
held draw is a charge (R2). -/
def cardCurrent (cfg : SlotConfig) (c : Card) : Bool :=
  decide (c.usableTop = usableTopOf c.draws cfg.cap) && decide (c.draw 0 ≤ cfg.cap)
    && decide (c.effFloor = effectiveFloorOf cfg.floorOverride c.declaredFloor c.count) && decide (c.heldDraw ≤ 1023)

/-- What goes with each phase of a filled reclaim record: the charge, the widths, the basis step and the marks (R123). -/
def reclaimFits (t : Slot) (c : Card) (r : Reclaim) : Bool :=
  match r.phase with
  | .reclaiming =>
    decide (r.target < c.held) && r.window.isSome && r.basis.isNone && !r.liftPending && t.curWidth.isNone && t.pendWidth.isNone
      && decide (t.charge = c.heldDraw)
  | .pacePending =>
    decide (r.target < c.held) && r.window.isNone && decide (r.basis = some c.held) && !r.liftPending && t.curWidth.isNone
      && decide (t.pendWidth = some (c.width c.held r.target)) && decide (t.charge = c.heldDraw)
  | .paced =>
    match r.basis, t.curWidth with
    | some b, some w =>
      decide (b < c.count) && decide (c.held ≤ b) && decide (r.target < b) && decide (c.draw b ≤ 1023) && r.window.isNone
        && decide (w ≤ 30) && decide (c.width b r.target ≤ w) && decide (t.charge = c.paced b w)
        && (if r.liftPending then decide (r.target = c.held) && t.pendWidth.isNone && decide (t.charge < c.heldDraw)
            else decide (r.target < c.held) &&
              (decide (t.pendWidth = some (c.width b r.target)) || (t.pendWidth.isNone && decide (w = c.width b r.target))))
    | some _, none => false
    | none, some _ => false
    | none, none => false

/-- The charge of a slot by its state (R2, R3), and in ACTIVE what its step table and reclaim record hold (R77, R123). -/
def chargeFits (t : Slot) : Bool :=
  match t.state with
  | .empty => decide (t.charge = 0)
  | .disabled => decide (t.charge = 0)
  | .locked => decide (t.charge = 0)
  | .admitting => decide (t.charge = 0)
  | .settling => decide (1 ≤ t.charge) && decide (t.charge ≤ 255)
  | .listening => decide (1 ≤ t.charge) && decide (t.charge ≤ 255)
  | .cutting => decide (1 ≤ t.charge) && decide (t.charge ≤ 1023)
  | .active =>
    match t.card with
    | none => false
    | some c =>
      cardCurrent t.cfg c &&
        match t.reclaim with
        | none => decide (t.charge = c.heldDraw) && t.curWidth.isNone && t.pendWidth.isNone
        | some r => reclaimFits t c r

/-- Charges are fixed by slot states (R3). -/
abbrev ChargeForm (s : State) : Prop := ∀ i : SlotId, chargeFits (s.slot i) = true

/-- The held figures lie in their ranges and C is the active profile's capacity (R2, R11, R12); the overtake limit is 1 to 7 (R111). -/
abbrev FiguresForm (s : State) : Prop :=
  (∀ p : Fin 4, s.profiles[p] ≤ Config.maxBudget) ∧ s.reserve ≤ Config.maxBudget ∧ s.capacity = s.profiles[s.src.value]
    ∧ 1 ≤ s.policy.limit ∧ s.policy.limit ≤ 7

/-- K exceeds A exactly while an OVERDRAFT episode is open (R2, R9, R14, R155). -/
abbrev AccountForm (s : State) : Prop := s.episode.kind = .overdraft ↔ s.available < s.committed

/-- A victim entry agrees with the slot's reclaim and charge (R148). -/
def victimFits (s : State) (v : Victim) : Bool :=
  match (s.slot v.slot).reclaim with
  | some r => decide (r.target = v.target) && !r.liftPending && decide (v.remaining = s.remainingFor v.slot v.target)
  | none => false

/-- The episode record: a slot appears once across its lists, victims are under reclaim, cut slots are CUTTING at their counted
charge, the target is at most 8184, the beneficiary of an open PREEMPT holds the marked STEP entry, and a closed record is empty
(R144, R148). -/
abbrev EpisodeForm (s : State) : Prop :=
  (s.episode.victims.map Victim.slot ++ s.episode.cuts.map CutEntry.slot).Nodup
  ∧ (∀ v ∈ s.episode.victims, victimFits s v = true)
  ∧ (∀ c ∈ s.episode.cuts, (s.slot c.slot).state = .cutting ∧ (s.slot c.slot).charge = c.counted)
  ∧ s.episode.target ≤ 8184
  ∧ (s.episode.kind = .none → s.episode = Episode.closed)
  ∧ (s.episode.kind = .preempt →
      s.episode.beneficiary.isSome = true
      ∧ ((s.waitList.filter WaitEntry.beneficiary).map (fun e => some e.slot)) = [s.episode.beneficiary]
      ∧ s.waitList.all (fun e => !e.beneficiary || decide (e.kind ≠ .admission)) = true)
  ∧ (s.episode.kind ≠ .preempt → s.episode.beneficiary = none ∧ s.waitList.all (fun e => !e.beneficiary) = true)

/-- A transmit queue holds at most four messages, among them at most one RECLAIM and one AWARD (R63). -/
def queueFits (q : List Message) : Bool :=
  decide (q.length ≤ 4) && decide ((q.filter Message.isReclaim).length ≤ 1) && decide ((q.filter Message.isAward).length ≤ 1)

/-- A Link Engine that is off holds nothing to send (R47, R68). -/
def offIsEmpty (l : Link) : Bool :=
  decide (l.asm ≠ .off)
    || (l.gap.isNone && l.replySlot.isNone && l.outstanding.isNone && l.queue.isEmpty && decide (l.tx = .idle))

/-- A free transmitter has nothing to send (R67). -/
def idleIsDone (l : Link) : Bool :=
  decide (l.tx ≠ .idle)
    || (l.replySlot.isNone &&
        match l.outstanding with
        | some o => !o.due
        | none => l.queue.isEmpty)

/-- The gap timer runs exactly while a frame is assembled, and an unfinished body is within LEN (R48, R49). -/
def assemblerFits (l : Link) : Bool :=
  (l.gap.isSome == l.asm.busy) &&
    match l.asm with
    | .off => true
    | .hunt => true
    | .length => true
    | .body len bytes => decide (len ≤ Config.maxLen) && decide (bytes.length < len + 3)

/-- The retransmission count is at most 3. While the outstanding message is on the line neither its reply window runs nor is a
retransmission due; otherwise exactly one of the two holds (R59, R60). -/
def outstandingFits (l : Link) : Bool :=
  match l.outstanding with
  | none => true
  | some o =>
    decide (o.retries ≤ Config.maxRetries) &&
      match l.tx with
      | .message m q => decide (m = o.msg) && (q == o.seq) && !o.due && o.window.isNone
      | .idle => o.due != o.window.isSome
      | .reply _ _ => o.due != o.window.isSome

/-- The link is on exactly in LISTENING and ACTIVE (R47). -/
def linkOnFits (t : Slot) : Bool := decide (t.link.asm ≠ .off) == (decide (t.state = .listening) || decide (t.state = .active))

/-- The Link Engines' form (R47, R48, R49, R59, R60, R63, R67). -/
abbrev LinkForm (s : State) : Prop :=
  ∀ i : SlotId, queueFits (s.slot i).link.queue = true ∧ offIsEmpty (s.slot i).link = true ∧ idleIsDone (s.slot i).link = true
    ∧ linkOnFits (s.slot i) = true ∧ assemblerFits (s.slot i).link = true ∧ outstandingFits (s.slot i).link = true

/-- The states in which a card is known to be seated (R22). -/
def seated : SlotState → Bool
  | .empty => false
  | .cutting => false
  | .disabled => true
  | .locked => true
  | .admitting => true
  | .settling => true
  | .listening => true
  | .active => true

/-- The states in which the enabled flag is 1 (R31). -/
def mustBeEnabled : SlotState → Bool
  | .admitting => true
  | .settling => true
  | .listening => true
  | .active => true
  | .empty => false
  | .disabled => false
  | .locked => false
  | .cutting => false

/-- The lease timer runs only while the slot is ACTIVE with a held step above 0 (R97). -/
def leaseFits (t : Slot) : Bool :=
  t.lease.isNone || (decide (t.state = .active) &&
    match t.card with
    | some c => decide (0 < c.held)
    | none => false)

/-- What goes with each slot state: SWEN exactly in the powered states, RUN low outside ACTIVE, a fitting card in ACTIVE, no reclaim
or width outside ACTIVE, a cut reason exactly in CUTTING, the timers in their states, presence and enabled flag
(R20, R22, R31, R34, R39, R97, R123). -/
def slotFits (t : Slot) : Bool :=
  (t.swen == t.powered)
    && (decide (t.state = .active) || (!t.run && t.reclaim.isNone && t.curWidth.isNone && t.pendWidth.isNone))
    && (decide (t.state ≠ .active) || t.card.isSome)
    && (match t.card with
        | some c => cardFits c && (decide (t.state = .active) || decide (t.state = .cutting))
        | none => true)
    && (t.cutReason.isSome == decide (t.state = .cutting))
    && (!t.destEmpty || decide (t.state = .cutting))
    && (t.settle.isSome == decide (t.state = .settling))
    && (t.hello.isSome == decide (t.state = .listening))
    && (t.discharge.isSome == decide (t.state = .cutting))
    && leaseFits t
    && (!seated t.state || t.pres.value) && (decide (t.state ≠ .empty) || !t.pres.value)
    && (!mustBeEnabled t.state || t.enabled)

/-- The slots' form (R20, R22, R31, R39). -/
abbrev SlotForm (s : State) : Prop := ∀ i : SlotId, slotFits (s.slot i) = true

/-- RUN stands at the level of R140 in every slot. -/
abbrev RunForm (s : State) : Prop := ∀ i : SlotId, (s.slot i).run = runLevel s i

/-- Every configuration field lies in its range (section 2.9). -/
def configFits (c : SlotConfig) : Bool :=
  decide (c.cls ≤ 3) && decide (1 ≤ c.cap) && decide (c.cap ≤ 1023) && decide (1 ≤ c.admission) && decide (c.admission ≤ 255)
    && decide (c.lease ≤ 255) && decide (1 ≤ c.settle) && decide (c.settle ≤ 255) && decide (1 ≤ c.discharge)
    && decide (c.discharge ≤ 255) && decide (10 ≤ c.helloTimeout) && decide (c.helloTimeout ≤ 255) && decide (2 ≤ c.replyWindow)
    && decide (c.replyWindow ≤ 255) && decide (1 ≤ c.reclaimWindow) && decide (c.reclaimWindow ≤ 255)
    && decide (c.floorOverride.getD 0 ≤ 5)

/-- The configuration records hold fields in their ranges (R41). -/
abbrev ConfigForm (s : State) : Prop := ∀ i : SlotId, configFits (s.slot i).cfg = true

/-! What the statements' hypotheses and results are said in. -/

/-- A request of this kind and tag on slot i is taken and is new: the link is on, the reply slot is empty and the cache holds no record
of the same kind and tag (R55, R56). -/
abbrev TakesNew (s : State) (i : SlotId) (kind : LinkKind) (tag : BitVec 3) : Prop :=
  (s.slot i).link.asm ≠ .off ∧ (s.slot i).link.replySlot = none
    ∧ (s.slot i).link.cache.any (fun r => decide (r.kind = kind) && decide (r.tag = tag)) = false

/-- A new request that repeats none refused with NOT_DECLARED before the card had declared (R55, R56, R83). -/
abbrev TakesFresh (s : State) (i : SlotId) (kind : LinkKind) (tag : BitVec 3) : Prop :=
  TakesNew s i kind tag ∧ (kind, tag) ∉ (s.slot i).link.undeclared

/-- The assembler after a frame has completed (R48, R49). -/
def hunting (l : Link) : Link := { l with asm := .hunt, gap := none }

/-- A Link Engine after a new request has been answered (R48, R57), with what it keeps of requests refused NOT_DECLARED (R83). -/
def replied (kind : LinkKind) (tag : BitVec 3) (reply : Reply) (l : Link) : Link :=
  Link.placeReply tag reply
    { hunting l with
      cache := some { kind := kind, tag := tag, reply := reply }
      undeclared :=
        if reply = .refuse .notDeclared then (if (kind, tag) ∈ l.undeclared then l.undeclared else l.undeclared ++ [(kind, tag)])
        else l.undeclared.filter (fun p => decide (p.1 ≠ kind)) }

/-- The card of an ACTIVE slot. -/
abbrev ActiveWith (s : State) (i : SlotId) (c : Card) : Prop := (s.slot i).state = .active ∧ (s.slot i).card = some c

/-- The result of a slot command whose slot passes `check` (R165). -/
def slotResult (p0 : Half) (check : SlotId → ResultCode) : ResultCode :=
  match slotOf p0 with
  | none => .badSlot
  | some i => check i

/-- OK inside a field's range, BAD_VALUE outside (R41). -/
def rangeResult (lo hi : Nat) (v : Half) : ResultCode := if lo ≤ v.toNat ∧ v.toNat ≤ hi then .ok else .badValue

/-- The result a command is taken with, from the tables of R41, R165 and section 1.5; OK for a row that is no command. -/
def expectedResult (s : State) : Instr → ResultCode
  | .slotConfigEnabled p0 v => slotResult p0 (fun _ => rangeResult 0 1 v)
  | .slotConfigClass p0 v => slotResult p0 (fun _ => rangeResult 0 3 v)
  | .slotConfigCap p0 v =>
    slotResult p0 (fun i =>
      if rangeResult 1 1023 v = .ok ∧ (s.slot i).state = .active ∧ (s.slot i).card.any (fun c => decide (v.toNat < c.draw 0)) = true
      then .badState else rangeResult 1 1023 v)
  | .slotConfigAdmissionCharge p0 v => slotResult p0 (fun _ => rangeResult 1 255 v)
  | .slotConfigLease p0 v => slotResult p0 (fun _ => rangeResult 0 255 v)
  | .slotConfigSettle p0 v => slotResult p0 (fun _ => rangeResult 1 255 v)
  | .slotConfigDischarge p0 v => slotResult p0 (fun _ => rangeResult 1 255 v)
  | .slotConfigHelloTimeout p0 v => slotResult p0 (fun _ => rangeResult 10 255 v)
  | .slotConfigReplyWindow p0 v => slotResult p0 (fun _ => rangeResult 2 255 v)
  | .slotConfigReclaimWindow p0 v => slotResult p0 (fun _ => rangeResult 1 255 v)
  | .slotConfigFloorOverride p0 v => slotResult p0 (fun _ => if v.toNat ≤ 5 ∨ v.toNat = 255 then .ok else .badValue)
  | .slotConfigUnknownField p0 _ _ => slotResult p0 (fun _ => .badValue)
  | .enable p0 => slotResult p0 (fun _ => .ok)
  | .disable p0 => slotResult p0 (fun _ => .ok)
  | .restore p0 => slotResult p0 (fun i => if (s.slot i).state = .locked then .ok else .badState)
  | .reclaim p0 step =>
    slotResult p0 (fun i =>
      match (s.slot i).state, (s.slot i).card with
      | .active, some c => if step.toNat < c.held then .ok else .badValue
      | _, _ => .badState)
  | .dropWait p0 => slotResult p0 (fun i => if (s.entryOf i).isSome then .ok else .badState)
  | .setProfile index capacity => if index.toNat ≤ 3 ∧ capacity.toNat ≤ 4095 then .ok else .badValue
  | .setReserve amount force =>
    if 4095 < amount.toNat ∨ 1 < force.toNat then .badValue
    else if amount.toNat ≤ s.reserve ∨ force.toNat = 1 then .ok
    else if s.episode.kind = .overdraft then .badState
    else if s.committed ≤ s.capacity - amount.toNat then .ok
    else .overdraw
  | .setPolicy mode limit preempt =>
    if mode.toNat ≤ 1 ∧ 1 ≤ limit.toNat ∧ limit.toNat ≤ 7 ∧ preempt.toNat ≤ 1 then .ok else .badValue
  | .unknownCommandCode _ _ => .badCode
  | _ => .ok

/-- The slot a RESULT names: that of a slot command with a slot number up to 7, otherwise 15 (R175). -/
def resultSlot (e : CmdEntry) : BitVec 4 :=
  if 1 ≤ e.code.toNat ∧ e.code.toNat ≤ 6 ∧ e.p0.toNat ≤ 7 then e.p0.setWidth 4 else 15

/-- The RESULT record of a command spelled by entry `e` (R175). RESTART echoes the P0 that was pushed. -/
def resultRecord (s : State) (c : Instr) (e : CmdEntry) : Report :=
  { kind := .result, slot := resultSlot e, a := e.code, b := BitVec.ofNat 16 (resultCode (expectedResult s c))
    c := if c = .restart then s.takenP0 else e.p0 }

/-- The state in which the effects of a command taken with OK begin: the entry has left its queue and the RESULT stands in the report
queue (R164). -/
def taken (s : State) (c : Instr) (e : CmdEntry) : State :=
  { s with cmdQueue := s.cmdQueue.tail, reports := s.reports ++ [resultRecord s c e] }

/-- The state with slot i replaced. -/
def withSlot (s : State) (i : SlotId) (t : Slot) : State := { s with slots := s.slots.set i t }

/-- The Command Unit takes command c, which entry e at the head of the command queue spells: fewer than 24 reports are held (R164). -/
abbrev TakesCommand (s : State) (c : Instr) (e : CmdEntry) : Prop :=
  s.reports.length < 24 ∧ s.cmdQueue.head? = some e ∧ entryCommand e = c

/-- A charge of `n` for slot i keeps K within A: the increase is not greater than headroom (R4). -/
abbrev Fits (s : State) (i : SlotId) (n : Nat) : Prop := n + s.committed ≤ s.available + (s.slot i).charge

/-- Ordering lets a request pass the entries ahead of it: none in STRICT mode, none anchored in FIT mode (R109, R110). -/
abbrev ClearAhead (s : State) (ahead : List WaitEntry) : Prop := ∀ e ∈ ahead, s.policy.mode = .fit ∧ e.anchored = false

/-- An entry counted as overtaken once (R110, R111). -/
def overtaken (limit : Nat) (e : WaitEntry) : WaitEntry :=
  let n := if e.overtaken < 7 then e.overtaken + 1 else e.overtaken
  { e with overtaken := n, anchored := e.anchored || decide (limit ≤ n) }

/-- The entries of class `cls` or higher, counted as overtaken in FIT mode (R110). -/
def overtakenAbove (s : State) (cls : Nat) : List WaitEntry :=
  s.waitList.map (fun e => if s.policy.mode = .fit ∧ cls ≤ e.cls then overtaken s.policy.limit e else e)

/-- The start of admission of a slot that holds no entry, over an ordered wait list (R24): the admission charge is raised at once, or
an ADMIT entry joins after the entries of its class and above (R106). -/
def admitted (s : State) (i : SlotId) : State :=
  let t := s.slot i
  let above := s.waitList.filter (fun e => decide (t.cfg.cls ≤ e.cls))
  if s.episode.kind = .none ∧ t.cfg.admission + s.committed ≤ s.available ∧ ClearAhead s above then
    (withSlot { s with waitList := overtakenAbove s t.cfg.cls } i
      { t with charge := t.cfg.admission, swen := true, state := .settling, settle := some (10 * t.cfg.settle) }).report .powered i
        t.cfg.admission 0 0
  else
    (withSlot
      { s with
        waitList := above
          ++ { slot := i, kind := .admission, cls := t.cfg.cls, overtaken := 0, anchored := false, beneficiary := false }
          :: s.waitList.filter (fun e => decide (e.cls < t.cfg.cls)) }
      i { t with state := .admitting }).report .deferred i (above.length + 1) 0 0

/-- The close of an episode (R155): EPISODE_CLOSE with the kind's code and the outcome's, and an empty record. -/
def episodeClosed (s : State) (kind outcome : Nat) : State :=
  { s.append (chipReport .episodeClose kind outcome 0) with
    episode := { kind := .none, beneficiary := none, target := 0, victims := [], cuts := [] } }

/-- The removal of entry e with a reason code; a PREEMPT of which it is the beneficiary closes with outcome ABANDONED (R118, R151). -/
def entryDropped (s : State) (e : WaitEntry) (reason : Nat) : State :=
  let u := State.report { s with waitList := s.waitList.filter (fun x => decide (x.slot ≠ e.slot)) } .waitDropped e.slot reason 0 0
  if s.episode.kind = .preempt ∧ s.episode.beneficiary = some e.slot then
    { u.append (chipReport .episodeClose 1 2 0) with
      episode := { kind := .none, beneficiary := none, target := 0, victims := [], cuts := [] } }
  else u

/-- The start of a cut (R34, R68, R91, R118, R148): the slot, its link and its pins, the recency list, its part of the episode record,
CUT_START with the charge held, then the removal of its wait entry with the follow-up. -/
def cutStarted (s : State) (i : SlotId) (reason : CutReason) : State :=
  let t := s.slot i
  let isVictim := s.episode.victims.any (fun v => decide (v.slot = i))
  let u :=
    (withSlot
      { s with
        recency := s.recency.filter (fun j => decide (j ≠ i))
        episode :=
          if isVictim then
            { s.episode with
              victims := s.episode.victims.filter (fun v => decide (v.slot ≠ i))
              cuts := s.episode.cuts ++ [{ slot := i, counted := t.charge }] }
          else s.episode }
      i
      { t with
        state := .cutting, cutReason := some reason, destEmpty := false, reclaim := none, curWidth := none, pendWidth := none
        settle := none, hello := none, lease := none, discharge := some t.cfg.discharge, swen := false, run := false
        link := { t.link with asm := .off, gap := none, replySlot := none, outstanding := none, queue := [], tx := .idle } }).report
          .cutStart i (cutReasonCode reason) t.charge 0
  match s.waitList.find? (fun e => decide (e.slot = i)) with
  | none => u
  | some e => (entryDropped u e 3).followUp

/-- Entry e goes as RESTART clears the wait list (R120): WAIT_DROPPED with reason RESTART, and the PREEMPT of which it is the beneficiary
closes with outcome RESTART. -/
def entryCleared (s : State) (e : WaitEntry) : State :=
  let u := State.report { s with waitList := s.waitList.filter (fun x => decide (x.slot ≠ e.slot)) } .waitDropped e.slot 5 0 0
  if s.episode.kind = .preempt ∧ s.episode.beneficiary = some e.slot then episodeClosed u 1 4 else u

/-- The effects of RESTART on the state in which it is taken (R168): the wait list is cleared from head to tail, the powered slots are cut in
ascending number, and the slots that were ADMITTING start admission afresh in ascending number. -/
def restarted (s : State) : State :=
  let cleared := s.waitList.foldl entryCleared s
  let cut := (slotIds.filter (fun i => (s.slot i).powered)).foldl (fun u i => cutStarted u i .restart) cleared
  (slotIds.filter (fun i => decide ((s.slot i).state = .admitting))).foldl admitted cut

/-- The reports of RESTART behind its RESULT, up to those of the admissions (R120, R156, R168). -/
def restartReports (s : State) : List Report :=
  s.waitList.flatMap (fun e => slotReport .waitDropped e.slot 5 0 0
      :: if s.episode.kind = .preempt ∧ s.episode.beneficiary = some e.slot then [chipReport .episodeClose 1 4 0] else [])
    ++ (slotIds.filter (fun i => (s.slot i).powered)).map (fun i => slotReport .cutStart i 7 (s.slot i).charge 0)

/-- The end of a cut up to and with its follow-up, in the state `state` and with destination code `code` (R36, R37, R58, R148). -/
def cutDone (s : State) (i : SlotId) (state : SlotState) (code : Nat) : State :=
  ((withSlot { s with episode := { s.episode with cuts := s.episode.cuts.filter (fun c => decide (c.slot ≠ i)) } } i
    { s.slot i with
      state := state, charge := 0, card := none, cutReason := none, destEmpty := false, discharge := none
      link := { (s.slot i).link with cache := none, undeclared := [] } }).report .cutDone i code 0 0).followUp

/-- The refusal of a new request (R57): REFUSE in cache and reply slot, REFUSED appended; nothing else. -/
def refused (s : State) (i : SlotId) (kind : LinkKind) (tag : BitVec 3) (reason : RefuseReason) : State :=
  (withSlot s i { s.slot i with link := replied kind tag (.refuse reason) (s.slot i).link }).report .refused i (refuseCode reason)
    (linkKindCode kind).toNat 0

/-- The request a command is: slot, kind and tag; none for a command that is no well-formed request (R51). -/
def requestOf : Instr → Option (SlotId × LinkKind × BitVec 3)
  | .hello i tag _ _ _ => some (i, .hello, tag)
  | .ask i tag _ _ _ => some (i, .ask, tag)
  | .yield i tag _ => some (i, .yield, tag)
  | .withdraw i tag => some (i, .withdraw, tag)
  | .renew i tag => some (i, .renew, tag)
  | .confirm i tag _ => some (i, .confirm, tag)
  | _ => none

/-- The start of a reclaim (R125): the record, RECLAIM_START, the removal of the slot's entry with its NOTICE, the RECLAIM, and the
follow-up of the removal. -/
def reclaimStarted (s : State) (i : SlotId) (target : Nat) (cause : ReclaimCause) : State :=
  let t := s.slot i
  let u :=
    (withSlot s i
      { t with
        lease := none
        reclaim := some { target := target, cause := cause, phase := .reclaiming, window := some (10 * t.cfg.reclaimWindow),
                          basis := none, liftPending := false } }).report .reclaimStart i target (causeCode cause) 0
  match s.waitList.find? (fun e => decide (e.slot = i)) with
  | none => u.modLink i (Link.placeReclaim target t.cfg.reclaimWindow)
  | some e =>
    let v := entryDropped u e 4
    let w := match e.kind with
      | .admission => v
      | .step asked _ => v.modLink i (Link.placeNotice .dropped asked)
    (w.modLink i (Link.placeReclaim target t.cfg.reclaimWindow)).followUp

/-- The retarget of a reclaim (R135, R148): the record and the pending width by phase, RECLAIM_START, the RECLAIM, the victim entry. -/
def reclaimRetargeted (s : State) (i : SlotId) (c : Card) (r : Reclaim) (target : Nat) (cause : ReclaimCause) : State :=
  let t := s.slot i
  let slot := match r.phase with
    | .reclaiming =>
      { t with
        reclaim := some { r with target := target, cause := cause, liftPending := false, window := some (10 * t.cfg.reclaimWindow) } }
    | .pacePending =>
      { t with
        reclaim := some { r with target := target, cause := cause, liftPending := false, basis := some c.held }
        pendWidth := some (c.width c.held target) }
    | .paced =>
      { t with
        reclaim := some { r with target := target, cause := cause, liftPending := false }
        pendWidth := some (c.width (r.basis.getD c.held) target) }
  let u := (withSlot s i { slot with link := Link.placeReclaim target t.cfg.reclaimWindow t.link }).report .reclaimStart i target
    (causeCode cause) 0
  { u with
    episode :=
      { u.episode with
        victims := u.episode.victims.map (fun v =>
          if v.slot = i then { v with target := target, remaining := t.charge - c.draw target } else v) } }

/-- The entries ahead of a request of slot i: those in front of its own entry, or with none those of its class and above (R109). -/
def aheadOf (s : State) (i : SlotId) : List WaitEntry :=
  if s.waitList.any (fun e => decide (e.slot = i)) then s.waitList.takeWhile (fun e => decide (e.slot ≠ i))
  else s.waitList.filter (fun e => decide ((s.slot i).cfg.cls ≤ e.cls))

/-- The wait list after a grant to slot i: the entries ahead are counted as overtaken in FIT mode, its own entry is gone (R86, R110). -/
def listAfterGrant (s : State) (i : SlotId) : List WaitEntry :=
  let count := fun e => if s.policy.mode = .fit then overtaken s.policy.limit e else e
  (if s.waitList.any (fun e => decide (e.slot = i)) then
    (s.waitList.takeWhile (fun e => decide (e.slot ≠ i))).map count ++ s.waitList.dropWhile (fun e => decide (e.slot ≠ i))
  else overtakenAbove s (s.slot i).cfg.cls).filter (fun e => decide (e.slot ≠ i))

/-- Where the entry of a deferred ASK of slot i stands, with its 1-based position (R87, R106, R108): a new one after the entries of its class
and above, the slot's own in its place with the asked step and the floor replaced. -/
structure DeferredPlace (s : State) (i : SlotId) (asked floor : Nat) (list : List WaitEntry) (position : Nat) : Prop where
  joins : s.entryOf i = none → position = (aheadOf s i).length + 1 ∧
    list = aheadOf s i
      ++ { slot := i, kind := .step asked floor, cls := (s.slot i).cfg.cls, overtaken := 0, anchored := false, beneficiary := false }
        :: s.waitList.filter (fun e => decide (e.cls < (s.slot i).cfg.cls))
  stays : ∀ e front back, s.waitList = front ++ e :: back → e.slot = i → position = front.length + 1 ∧
    list = front ++ { e with kind := .step asked floor } :: back

/-- An ASK passes the slot's checks (R84): no reclaim, the asked step in the table, the floor not above it and above the held step, and
the usable top step not below the floor. -/
abbrev AskPasses (s : State) (i : SlotId) (c : Card) (asked floor : Nat) : Prop :=
  (s.slot i).reclaim = none ∧ asked < c.count ∧ floor ≤ asked ∧ c.held < floor ∧ floor ≤ c.usableTop

/-- The Arbiter may grant step g to an ASK of slot i (R85): no episode is open, ordering lets it pass, and the draw fits. -/
abbrev AskFits (s : State) (i : SlotId) (c : Card) (g : Nat) : Prop :=
  s.episode.kind = .none ∧ ClearAhead s (aheadOf s i) ∧ Fits s i (c.draw g)

/-- The conclusion of a reclaim at step t with pacing lifted and the record emptied (R128, R129, R130, R148). -/
def reclaimConcluded (s : State) (i : SlotId) (c : Card) (kind : LinkKind) (tag : BitVec 3) (t : Nat) : State :=
  let sl := s.slot i
  let u :=
    (withSlot s i
      { sl with
        charge := c.draw t, card := some { c with held := t }, reclaim := none, curWidth := none, pendWidth := none
        lease := if t = 0 then none else sl.lease
        run := true
        link := replied kind tag (.done 0) (Link.dropReclaim sl.link) }).report .confirmed i t (c.draw t) 0
  { u with episode := { u.episode with victims := u.episode.victims.filter (fun v => decide (v.slot ≠ i)) } }

/-- A conclusion held open at step t, since the raise to draw(t) does not fit (R131, R148). -/
def reclaimHeldOpen (s : State) (i : SlotId) (c : Card) (r : Reclaim) (kind : LinkKind) (tag : BitVec 3) (t : Nat) : State :=
  let sl := s.slot i
  let u :=
    (withSlot s i
      { sl with
        card := some { c with held := t }, pendWidth := none
        reclaim := some { r with target := t, liftPending := true }
        link := replied kind tag (.done 0) sl.link }).report .confirmed i t sl.charge 0
  { u with episode := { u.episode with victims := u.episode.victims.filter (fun v => decide (v.slot ≠ i)) } }

/-- A slot has nothing due: no debounced value, timer expiry or frame start waits to be taken. -/
def slotQuiet (t : Slot) : Bool :=
  (t.pres.ready Config.presDebounce).isNone && !t.settle.due && !t.hello.due && !t.discharge.due && !t.lease.due && !t.windowDue
    && !t.frameDue && !t.link.gap.due && !t.link.outstanding.any (fun o => o.window.due)

/-- Nothing is due anywhere, and no command can be taken. -/
abbrev Quiet (s : State) : Prop :=
  (s.src.ready Config.srcDebounce).isNone = true ∧ (∀ i : SlotId, slotQuiet (s.slot i) = true)
    ∧ (s.cmdQueue = [] ∨ Config.throttle ≤ s.reports.length)

/-- The rows of the events the chip raises for itself, in the order in which a TICK takes those still due (log entry 2). -/
def dueRows : List Instr :=
  .srcDebounceTaken :: slotIds.flatMap (fun i =>
    [.arrivalOfPresence i, .lossOfPresence i, .settleTimerExpiry i, .helloTimerExpiry i, .cutCompletion i, .leaseExpiry i,
      .reclaimWindowExpiry i, .frameStart i, .replyWindowExpiry i, .gapTimerExpiry i])

/-- Rows executed one after another, each on the state that the row before it answers. -/
def execRows : List Instr → State → Host.Outcome State Fault Refusal
  | [], s => .next s
  | c :: rest, s =>
    match exec c s with
    | .next t => execRows rest t
    | .fault f => .fault f
    | .refused r => .refused r

/-- The row that the head of the command queue spells is executed, up to `n` times, while an entry is queued (R164). -/
def execHeads : Nat → State → Host.Outcome State Fault Refusal
  | 0, s => .next s
  | n + 1, s =>
    match s.cmdQueue with
    | [] => .next s
    | e :: _ =>
      match exec (entryCommand e) s with
      | .next t => execHeads n t
      | .fault f => .fault f
      | .refused r => .refused r

/-- What an open OVERDRAFT has ordered covers its shortfall: K is at most A plus the expected reduction, unless no slot is powered any more
(R146, R147, R152, R153, R154). -/
abbrev OverdraftCovered (s : State) : Prop :=
  s.episode.kind = .overdraft → s.committed ≤ s.available + s.episode.expected ∨ ∀ i : SlotId, (s.slot i).powered = false

/-- The release walk would grant this entry now (R114, R116). -/
def couldGrant (s : State) (e : WaitEntry) : Prop :=
  match e.kind with
  | .admission => (s.slot e.slot).cfg.admission + s.committed ≤ s.available
  | .step asked floor => ∃ c g, (s.slot e.slot).card = some c ∧ floor ≤ g ∧ g ≤ asked ∧ g ≤ c.usableTop ∧ Fits s e.slot (c.draw g)

/-- What slot j can give a PREEMPT for a slot of class `cls`: an ACTIVE slot of a lower class with no reclaim, held above its effective
floor, gives its charge less the draw of that floor (R145). -/
def canGive (s : State) (cls : Nat) (j : SlotId) : Nat :=
  match (s.slot j).card with
  | some c =>
    if (s.slot j).state = .active ∧ (s.slot j).reclaim = none ∧ c.effFloor < c.held ∧ (s.slot j).cfg.cls < cls then
      (s.slot j).charge - c.draw c.effFloor
    else 0
  | none => 0

/-- The grant of step g to the waiting entry of slot i (R116): charge, held step, recency list, lease, AWARD, GRANTED with award mark 1. -/
def stepAwarded (s : State) (i : SlotId) (c : Card) (g : Nat) : State :=
  let t := s.slot i
  (withSlot { s with recency := i :: s.recency.filter (fun j => decide (j ≠ i)) } i
    { t with
      charge := c.draw g, card := some { c with held := g }
      lease := if t.cfg.lease = 0 then none else some (1000 * t.cfg.lease)
      link := Link.placeAward g t.cfg.lease t.link }).report .granted i g (c.draw g) 1

/-- The grant of the admission of slot i (R115): the admission charge, SWEN, SETTLING with its timer, POWERED. -/
def admissionGranted (s : State) (i : SlotId) : State :=
  let t := s.slot i
  (withSlot s i { t with charge := t.cfg.admission, swen := true, state := .settling, settle := some (10 * t.cfg.settle) }).report .powered i
    t.cfg.admission 0 0

/-- Step g is what a STEP entry of slot i gets: the highest step from the lower of asked step and usable top step down to the floor whose
draw fits headroom (R116, R150). -/
abbrev BestStep (s : State) (i : SlotId) (c : Card) (asked floor g : Nat) : Prop :=
  floor ≤ g ∧ g ≤ asked ∧ g ≤ c.usableTop ∧ Fits s i (c.draw g)
    ∧ ∀ k, g < k → k ≤ asked → k ≤ c.usableTop → ¬ Fits s i (c.draw k)

/-- Place of a slot within its class in the order of R145: its place on the recency list, and behind it the slots not on the list, highest
number first. -/
def shedRank (s : State) (i : SlotId) : Nat := if i ∈ s.recency then s.recency.idxOf i else s.recency.length + (7 - i.val)

/-- Slot i comes before slot j in the order of R145: lower class first, then by place within the class. -/
abbrev ShedBefore (s : State) (i j : SlotId) : Prop :=
  (s.slot i).cfg.cls < (s.slot j).cfg.cls ∨ (s.slot i).cfg.cls = (s.slot j).cfg.cls ∧ shedRank s i < shedRank s j

/-- The list holds eligible slots in the order of R145, and passes over none. -/
abbrev TakenInOrder (s : State) (eligible : SlotId → Prop) (l : List SlotId) : Prop :=
  l.Pairwise (ShedBefore s) ∧ (∀ i ∈ l, eligible i) ∧ ∀ i ∈ l, ∀ j, eligible j → ShedBefore s j i → j ∈ l

/-- A choice of victims to cover an amount from the candidates of a class below `below` (R145, R146); with 4 the bound shuts out no class. -/
structure ShedChoice (s : State) (below amount : Nat) (new : List Victim) : Prop where
  /-- Candidates are taken in the order of R145, none passed over. -/
  order : TakenInOrder s (fun j => 0 < canGive s below j) (new.map Victim.slot)
  /-- A target is a step at or above the effective floor and below the held step; the remaining reduction is what it takes. -/
  entries : ∀ v ∈ new, ∃ c, (s.slot v.slot).card = some c ∧ c.effFloor ≤ v.target ∧ v.target < c.held
    ∧ v.remaining = c.draw c.held - c.draw v.target
  /-- All but the last are taken to their floors, and do not reach the amount. -/
  full : ∀ front last, new = front ++ [last] →
    (∀ v ∈ front, ∀ c, (s.slot v.slot).card = some c → v.target = c.effFloor) ∧ (front.map Victim.remaining).sum < amount
  /-- Where the candidates can give the amount, the last victim's target is the highest step that completes it. -/
  last : 1 ≤ amount → amount ≤ (slotIds.map (canGive s below)).sum →
    ∃ front v c, new = front ++ [v] ∧ (s.slot v.slot).card = some c ∧ amount ≤ (new.map Victim.remaining).sum
      ∧ ∀ k, v.target < k → k < c.held → (front.map Victim.remaining).sum + (c.draw c.held - c.draw k) < amount
  /-- Where they cannot, every candidate is taken to its floor. -/
  short : (slotIds.map (canGive s below)).sum < amount →
    (∀ j, 0 < canGive s below j → j ∈ new.map Victim.slot) ∧ ∀ v ∈ new, ∀ c, (s.slot v.slot).card = some c → v.target = c.effFloor

/-- What the cut of slot i adds to the running sum of the cut tier: its charge, less what is counted for it as a victim already (R147). -/
def tierGain (s : State) (victims : List Victim) (i : SlotId) : Nat :=
  (s.slot i).charge - ((victims.find? (fun v => decide (v.slot = i))).map Victim.remaining).getD 0

/-- The cut tier over a running sum (R147): the powered slots not on the cut list yet, in the order of R145, until the sum reaches the
amount or no such slot is left. -/
structure TierChoice (s : State) (victims : List Victim) (amount sum : Nat) (cuts : List CutEntry) : Prop where
  order : TakenInOrder s (fun j => (s.slot j).powered = true ∧ j ∉ s.episode.cuts.map CutEntry.slot) (cuts.map CutEntry.slot)
  counted : ∀ c ∈ cuts, c.counted = (s.slot c.slot).charge
  stops : ∀ front last, cuts = front ++ [last] → sum + (front.map (fun c => tierGain s victims c.slot)).sum < amount
  reaches : amount ≤ sum + (cuts.map (fun c => tierGain s victims c.slot)).sum
    ∨ ∀ j : SlotId, (s.slot j).powered = true → j ∉ s.episode.cuts.map CutEntry.slot → j ∈ cuts.map CutEntry.slot

/-- What becomes of the slots, lists and reports when an OVERDRAFT chooses `new` and `cuts` (R146, R147, R148, R125, R34). -/
structure OverdraftChosen (u t : State) (new : List Victim) (cuts : List CutEntry) : Prop where
  victimList : t.episode.victims = (u.episode.victims ++ new).filter (fun v => decide (v.slot ∉ cuts.map CutEntry.slot))
  cutList : t.episode.cuts = u.episode.cuts ++ cuts
  reclaims : ∀ v ∈ new, v.slot ∉ cuts.map CutEntry.slot →
    ∃ r, (t.slot v.slot).reclaim = some r ∧ r.target = v.target ∧ r.cause = .shed ∧ r.phase = .reclaiming
  cutting : ∀ c ∈ cuts, (t.slot c.slot).state = .cutting ∧ (t.slot c.slot).cutReason = some .shed
  others : ∀ j, j ∉ new.map Victim.slot → j ∉ cuts.map CutEntry.slot → t.slot j = u.slot j
  waiting : t.waitList = (u.waitList.map (fun e => { e with beneficiary := false })).filter (fun e =>
    decide (e.slot ∉ new.map Victim.slot) && decide (e.slot ∉ cuts.map CutEntry.slot))
  recency : t.recency = u.recency.filter (fun j => decide (j ∉ cuts.map CutEntry.slot))

/-- What R14 and R17 make of the state `u`, in which C or H has just been written and K exceeds A: an OVERDRAFT opens, takes a PREEMPT over
or is enlarged, with the shortfall K - A - E as its target, EPISODE_OPEN at an opening and a takeover, and victims and cuts chosen to cover
the target (R152, R153, R154). -/
structure OverdraftTaken (u t : State) : Prop where
  kind : t.episode.kind = .overdraft ∧ t.episode.beneficiary = none
  target : t.episode.target = u.committed - (u.available + u.episode.expected)
  opened : u.reports.length < 31 →
    (u.reports ++ if u.episode.kind = .overdraft then [] else [chipReport .episodeOpen 2 t.episode.target 15]) <+: t.reports
  charges : ∀ j, (t.slot j).charge = (u.slot j).charge
  chosen : ∃ new cuts, ShedChoice u 4 t.episode.target new
    ∧ TierChoice u (u.episode.victims ++ new) t.episode.target (new.map Victim.remaining).sum cuts ∧ OverdraftChosen u t new cuts
  rest : { t with slots := u.slots, waitList := u.waitList, recency := u.recency, episode := u.episode, reports := u.reports,
                  gapSeen := u.gapSeen } = u

/-- The snapshot tables and indices that hold a record (R171). -/
def recordExists (s : State) (sel index : Half) : Bool :=
  match sel.toNat with
  | 0 => decide (index.toNat ≤ 15)
  | 1 => if h : index.toNat < 8 then (s.slot ⟨index.toNat, h⟩).card.isSome else false
  | 2 => decide (1 ≤ index.toNat) && decide (index.toNat ≤ s.waitList.length)
  | 3 =>
    decide (index.toNat = 0)
      || (decide (1 ≤ index.toNat) && decide (index.toNat ≤ 8) && decide (index.toNat ≤ s.episode.victims.length))
      || (decide (9 ≤ index.toNat) && decide (index.toNat ≤ 16) && decide (index.toNat - 8 ≤ s.episode.cuts.length))
  | 4 => decide (index.toNat ≤ 3)
  | 5 => decide (index.toNat = 0)
  | _ => false

/-- The block's invariant: every form at once. -/
structure BlockInv (s : State) : Prop where
  reports : ReportForm s
  commands : CommandForm s
  counter : CounterForm s
  config : ConfigForm s
  figures : FiguresForm s
  wait : WaitForm s
  entries : EntryForm s
  recency : RecencyForm s
  slots : SlotForm s
  charges : ChargeForm s
  links : LinkForm s
  run : RunForm s
  episode : EpisodeForm s
  account : AccountForm s

end Sys2Proof.Safety
end

