-- ==== Sys2Proof/WellFormed.lean ====
section
/-! DEFINITION. What a well-formed command is: its operands describe an event that its row names. -/

namespace Sys2Proof

open Machine

/-- A payload fits a frame (R47). -/
def payloadFits (payload : List Byte) : Bool := decide (payload.length ≤ Config.maxLen)

/-- The bytes after SYNC belong to one frame and do not complete it (R48). -/
def unfinished (following : List Byte) : Bool :=
  match following with
  | [] => true
  | len :: body => decide (len.toNat ≤ Config.maxLen) && decide (body.length < len.toNat + 3)

/-- The register indices whose writes have rows of their own: EVENTS, IRQ_ENABLE, CMD_CODE, REPORT_POP, TABLE_INDEX (12.2). -/
def ownRowAddresses : List Nat := [0x03, 0x04, 0x0B, 0x15, 0x21]

/-- A well-formed command. -/
def WellFormed (i : Instr) : Bool :=
  match i with
  | .frameAbandoned _ (.badLength len) => decide (Config.maxLen < len.toNat)
  | .frameAbandoned _ .framingError => true
  | .linkFrameDiscarded _ frame => payloadFits frame.payload && !passesChecks frame
  | .malformed _ kind _ payload => payloadFits payload && !lengthSuits kind payload
  | .hello _ _ _ _ draws => decide (6 + 2 * draws.length ≤ Config.maxLen)
  | .registerWrite access _ => access.resetAsserted || !ownRowAddresses.contains access.addr.toNat
  | .syncReceived _ following => unfinished following
  | .unknownCommandCode code _ => decide (code.toNat = 0) || decide (10 < code.toNat)
  | .slotConfigUnknownField _ field _ => decide (10 < field.toNat)
  | .pinReset => true
  | .srcDebounceTaken => true
  | .arrivalOfPresence _ => true
  | .lossOfPresence _ => true
  | .switchFault _ => true
  | .settleTimerExpiry _ => true
  | .helloTimerExpiry _ => true
  | .cutCompletion _ => true
  | .leaseExpiry _ => true
  | .reclaimWindowExpiry _ => true
  | .frameStart _ => true
  | .replyWindowExpiry _ => true
  | .gapTimerExpiry _ => true
  | .ask _ _ _ _ _ => true
  | .yield _ _ _ => true
  | .withdraw _ _ => true
  | .renew _ _ => true
  | .confirm _ _ _ => true
  | .ack _ _ => true
  | .frameTransmitted _ => true
  | .slotConfigEnabled _ _ => true
  | .slotConfigClass _ _ => true
  | .slotConfigCap _ _ => true
  | .slotConfigAdmissionCharge _ _ => true
  | .slotConfigLease _ _ => true
  | .slotConfigSettle _ _ => true
  | .slotConfigDischarge _ _ => true
  | .slotConfigHelloTimeout _ _ => true
  | .slotConfigReplyWindow _ _ => true
  | .slotConfigReclaimWindow _ _ => true
  | .slotConfigFloorOverride _ _ => true
  | .enable _ => true
  | .disable _ => true
  | .restore _ => true
  | .reclaim _ _ => true
  | .dropWait _ => true
  | .setProfile _ _ => true
  | .setReserve _ _ => true
  | .setPolicy _ _ _ => true
  | .restart => true
  | .slotRecordSnapshot _ => true
  | .stepTableSnapshot _ => true
  | .waitEntrySnapshot _ => true
  | .episodeRecordSnapshot _ => true
  | .profileSnapshot _ => true
  | .recencyListSnapshot _ => true
  | .reportPop => true
  | .eventsWrite _ => true
  | .irqEnableWrite _ => true
  | .tick _ _ _ _ => true
  | .cmdCodeWrite _ => true
  | .tableIndexWriteNoTable _ => true

end Sys2Proof
end

