-- ==== Sys2Proof/Certificates/Slice0/Obligations.lean ====
section
/-! DEFINITION. The statements for the provers. Each docstring names the rules it rests on. -/

open Sys2Proof Sys2Proof.Machine Sys2Proof.Safety

/-! The machine as a whole. -/

/-- A step takes the command at the front of the queue, with the queue's rest; on an empty queue it idles (the model's choice, log
entry 1). -/
def Obligations.StepTakesFrontCommand : Prop :=
  ∀ (s : State) (c : Instr) (rest : List Instr),
    (s.pending = c :: rest → step s = exec c { s with pending := rest }) ∧ (s.pending = [] → step s = .next s)

/-- PIN_RESET from every state: the registers read as R172 gives them, the account, the slots, the links and the queues stand as R19,
R20, R58, R59, R63, R112, R138 and R182 give them, IRQ# is released. A write strobed while RESET# stays asserted changes nothing of this, and
a read returns 0 (R159; that the row carries the level of RESET# is the model's choice, log entry 13). The commands that wait are kept (the
model's choice, log entry 1). -/
def Obligations.PinResetReturnsToReset : Prop :=
  ∀ s : State, ∃ t, exec .pinReset s = .next t ∧ t.pending = s.pending
    ∧ (∀ (a : BitVec 6) (v : Half), exec (.registerWrite ⟨a, true⟩ v) t = .next t ∧ t.busRead ⟨a, true⟩ = 0)
    ∧ (∀ a : BitVec 6, t.read a = if a = 0 then 0xB8A1 else if a = 1 then 1 else 0)
    ∧ t.irqLow = false ∧ t.frameCounter = 0 ∧ t.tickDivider = 0 ∧ (∀ p : Fin 4, t.profiles[p] = 0) ∧ t.src = { value := 0, pending := none }
    ∧ t.policy = { mode := .fit, limit := 3, preempt := false } ∧ t.waitList = [] ∧ t.recency = [] ∧ t.reports = [] ∧ t.cmdQueue = []
    ∧ t.episode = { kind := .none, beneficiary := none, target := 0, victims := [], cuts := [] }
    ∧ ∀ i : SlotId,
        (t.slot i).state = .empty ∧ (t.slot i).enabled = false ∧ (t.slot i).charge = 0 ∧ (t.slot i).card = none
        ∧ (t.slot i).reclaim = none ∧ (t.slot i).curWidth = none ∧ (t.slot i).pendWidth = none ∧ (t.slot i).cutReason = none
        ∧ (t.slot i).destEmpty = false ∧ (t.slot i).pres = { value := false, pending := none } ∧ (t.slot i).settle = none
        ∧ (t.slot i).hello = none ∧ (t.slot i).lease = none ∧ (t.slot i).discharge = none ∧ (t.slot i).swen = false
        ∧ (t.slot i).run = false
        ∧ (t.slot i).cfg =
            { cls := 1, cap := 1023, admission := 20, lease := 0, settle := 10, discharge := 50, helloTimeout := 50,
              replyWindow := 20, reclaimWindow := 20, floorOverride := none }
        ∧ (t.slot i).link =
            { asm := .off, gap := none, replySlot := none, cache := none, undeclared := [], outstanding := none, nextSeq := false, queue := []
              tx := .idle }

/-- The state after reset meets the block's invariant. -/
def Obligations.ResetMeetsInvariant : Prop := BlockInv State.reset

/-- Every step keeps the block's invariant: the account, the slots' power path, the wait list, the recency list, the reclaim records, the
links, RUN, the shed episode, the queues and the configuration stay in the forms the manual gives them. -/
def Obligations.StepKeepsInvariant : Prop := ∀ s t : State, BlockInv s → step s = .next t → BlockInv t

/-- Each of these holds after every step from any state in which it holds: the report queue has at most 32 records, the 32nd only as a GAP,
and no GAP directly after a GAP (R174, R176); configuration fields in range (R41); the held figures in range with C the active profile's
capacity and the overtake limit 1 to 7 (R2, R12, R13, R111); at most four queued commands (R163); the frame counter in 0 to 30 (R138) and the tick divider below 4000 (R1). -/
def Obligations.StepKeepsQueuesAndRanges : Prop :=
  ∀ s t : State, step s = .next t →
    (ReportForm s → ReportForm t) ∧ (ConfigForm s → ConfigForm t) ∧ (FiguresForm s → FiguresForm t) ∧ (CommandForm s → CommandForm t)
    ∧ (CounterForm s → CounterForm t)

/-- C, H, the profile records, the SRC debounce, the policy, CMD_P0 to CMD_P2, IRQ_ENABLE, TABLE_SEL, TABLE_INDEX, TABLE_DATA0 to 7 and the
three flags of EVENTS have their own commands: outside PIN_RESET and TICK (which takes what is due first, log entry 2) no other command
changes them. A flag of EVENTS is cleared only by a write to EVENTS; GAP_SEEN is set only where a GAP is appended as the 32nd record,
CMD_OVERRUN only by a write to CMD_CODE, CAPACITY_CHANGED only by a capacity change (R161). TABLE_DATA0 to 7 hold until the next write to
TABLE_INDEX (R170). The command queue is changed only by its push and by the commands it holds. The frame counter is changed by no command
at all (R138), nor are the tick divider (R1) and the commands that wait. -/
def Obligations.FiguresHaveTheirWriters : Prop :=
  ∀ (s t : State) (c : Instr), exec c s = .next t → c ≠ .pinReset → (∀ a b p l, c ≠ .tick a b p l) →
    t.frameCounter = s.frameCounter ∧ t.tickDivider = s.tickDivider ∧ t.pending = s.pending
    ∧ ((∀ v, c ≠ .registerWrite ⟨0x08, false⟩ v) → t.cmdP0 = s.cmdP0) ∧ ((∀ v, c ≠ .registerWrite ⟨0x09, false⟩ v) → t.cmdP1 = s.cmdP1)
    ∧ ((∀ v, c ≠ .registerWrite ⟨0x0A, false⟩ v) → t.cmdP2 = s.cmdP2) ∧ ((∀ v, c ≠ .registerWrite ⟨0x20, false⟩ v) → t.tableSel = s.tableSel)
    ∧ ((∀ v, c ≠ .irqEnableWrite v ∧ c ≠ .registerWrite ⟨0x04, false⟩ v) → t.irqEnable = s.irqEnable)
    ∧ ((∀ p v, c ≠ .setProfile p v) → t.profiles = s.profiles) ∧ ((∀ a f, c ≠ .setReserve a f) → t.reserve = s.reserve)
    ∧ ((∀ m l p, c ≠ .setPolicy m l p) → t.policy = s.policy) ∧ (c ≠ .srcDebounceTaken → t.src = s.src)
    ∧ (c ≠ .srcDebounceTaken → (∀ p v, c ≠ .setProfile p v) → t.capacity = s.capacity)
    ∧ ((∀ v, c ≠ .slotRecordSnapshot v ∧ c ≠ .stepTableSnapshot v ∧ c ≠ .waitEntrySnapshot v ∧ c ≠ .episodeRecordSnapshot v
          ∧ c ≠ .profileSnapshot v ∧ c ≠ .recencyListSnapshot v ∧ c ≠ .tableIndexWriteNoTable v ∧ c ≠ .registerWrite ⟨0x21, false⟩ v) →
        t.tableIndex = s.tableIndex ∧ t.tableData = s.tableData)
    ∧ ((∀ v, c ≠ .eventsWrite v ∧ c ≠ .registerWrite ⟨0x03, false⟩ v) →
        (s.gapSeen = true → t.gapSeen = true) ∧ (s.cmdOverrun = true → t.cmdOverrun = true)
        ∧ (s.capacityChanged = true → t.capacityChanged = true))
    ∧ (s.gapSeen = false → t.gapSeen = true → 32 ≤ t.reports.length ∧ tailIsGap t.reports = true)
    ∧ ((∀ v, c ≠ .cmdCodeWrite v ∧ c ≠ .registerWrite ⟨0x0B, false⟩ v) → s.cmdOverrun = false → t.cmdOverrun = false)
    ∧ (c ≠ .srcDebounceTaken → (∀ p v, c ≠ .setProfile p v) → s.capacityChanged = false → t.capacityChanged = false)
    ∧ (commandEntry c = none → (∀ v, c ≠ .cmdCodeWrite v ∧ c ≠ .registerWrite ⟨0x0B, false⟩ v) → t.cmdQueue = s.cmdQueue)

/-- No command but PIN_RESET and a pop takes a report out of the queue: every record but the tail stands as it was, in its place, and the
queue does not get shorter (R174). A tail that is no GAP stands too; a GAP at the tail stays that GAP in its place, and only its count may
change, and only upward (R174, R177). -/
def Obligations.OnlyPopRemovesReports : Prop :=
  ∀ (s t : State) (c : Instr), exec c s = .next t → c ≠ .pinReset → c ≠ .reportPop → (∀ v, c ≠ .registerWrite ⟨0x15, false⟩ v) →
    s.reports.dropLast <+: t.reports ∧ s.reports.length ≤ t.reports.length
    ∧ (∀ r, s.reports.getLast? = some r → r.kind ≠ .gap → s.reports <+: t.reports)
    ∧ ∀ front r, s.reports = front ++ [r] → r.kind = .gap →
        ∃ count : Half, r.a.toNat ≤ count.toNat ∧ (front ++ [{ r with a := count }]) <+: t.reports

/-! The Timebase, the debounces and the Pace Generator's counter. -/

/-- A debounce takes a new value only after that many equal samples running: each sample that differs from the value and equals the pending
one adds 1, a sample equal to the value drops the pending one, another value starts at 1 (R11, R21). -/
def Obligations.DebounceNeedsEverySample : Prop :=
  ∀ (α : Type) [DecidableEq α] (d : Debounce α) (v : α) (n length : Nat), v ≠ d.value → (∀ p k, d.pending = some (p, k) → p ≠ v) →
    (Debounce.sample v)^[n + 1] d = { value := d.value, pending := some (v, n + 1) }
    ∧ (Debounce.ready length ((Debounce.sample v)^[n + 1] d) = some v ↔ length ≤ n + 1)
    ∧ Debounce.sample d.value ((Debounce.sample v)^[n + 1] d) = { value := d.value, pending := none }
    ∧ ∀ w, w ≠ v → w ≠ d.value → Debounce.sample w ((Debounce.sample v)^[n + 1] d) = { value := d.value, pending := some (w, 1) }

/-- A TICK that finds nothing due: the counter advances modulo 31, SRC and PRES are sampled, every running timer counts one, the slot whose
offset 4n the counter reaches has its frame start, RUN follows R140; everything else stands (R1, R11, R21, R138, R140). While a frame is
assembled, the tick is the first that the gap timer of a byte ended since the tick before counts, so 1 is left of its 2; a byte under way
at the tick starts the timer only when it ends, so 2 are to come (R49; that the row says which links those are is the model's choice, log
entry 4). The divider stands at the 0 that a tick leaves it at (the model's choice, log entry 7). -/
def Obligations.TickCounts : Prop :=
  ∀ (s : State) (src1 src0 : Bool) (pres ended underWay : BitVec 8), Quiet s →
    ∃ t, exec (.tick src1 src0 pres ⟨ended, underWay⟩) s = .next t ∧ t.frameCounter = (s.frameCounter + 1) % 31
      ∧ t.src = s.src.sample (if src1 then (if src0 then 3 else 2) else (if src0 then 1 else 0))
      ∧ (∀ i : SlotId, t.slot i =
          { s.slot i with
            pres := (s.slot i).pres.sample (pres.getLsbD i.val)
            settle := (s.slot i).settle.map (· - 1), hello := (s.slot i).hello.map (· - 1), lease := (s.slot i).lease.map (· - 1)
            discharge := (s.slot i).discharge.map (· - 1)
            reclaim := (s.slot i).reclaim.map (fun r => { r with window := r.window.map (· - 1) })
            frameDue := decide ((s.frameCounter + 1) % 31 = 4 * i.val)
            run := decide ((s.slot i).state = .active) &&
              (match (s.slot i).curWidth with
                | none => true
                | some w => decide (((s.frameCounter + 1) % 31 + (31 - 4 * i.val)) % 31 < w))
            link :=
              { (s.slot i).link with
                gap :=
                  if (s.slot i).link.asm.busy = true ∧ underWay.getLsbD i.val = true then some 2
                  else if (s.slot i).link.asm.busy = true ∧ ended.getLsbD i.val = true then some 1
                  else (s.slot i).link.gap.map (· - 1)
                outstanding := (s.slot i).link.outstanding.map (fun o => { o with window := o.window.map (· - 1) }) } })
      ∧ t.tickDivider = 0
      ∧ { t with tickDivider := s.tickDivider, frameCounter := s.frameCounter, src := s.src, slots := s.slots } = s

/-- A TICK leaves nothing that an earlier tick made due. It first executes the rows of the events that the chip raises for itself, each of
which acts if it is due: SRC_DEBOUNCE_TAKEN, then slot by slot arrival, loss, settle, hello, cut completion, lease, reclaim window, frame
start, reply window and gap timer. Then it executes the rows that the queued commands spell, from the head on, as far as they can be taken.
In the state so reached nothing is due and no command can be taken, and from it the TICK counts (the model's choice of order, log entry 2). -/
def Obligations.TickTakesDueEventsFirst : Prop :=
  ∀ (s : State) (src1 src0 : Bool) (pres ended underWay : BitVec 8), BlockInv s →
    (∃ u, execRows dueRows s = .next u ∧ u.cmdQueue = s.cmdQueue ∧ execHeads s.cmdQueue.length u = .next s.settleAll)
      ∧ Quiet s.settleAll
      ∧ exec (.tick src1 src0 pres ⟨ended, underWay⟩) s = exec (.tick src1 src0 pres ⟨ended, underWay⟩) s.settleAll

/-! Presence and the power path. -/

/-- SRC_DEBOUNCE_TAKEN with a value that has held for 20 ticks: the profile index, C and CAPACITY_CHANGED change and CAPACITY is reported
with the old C, the new C and the new index, even between equal capacities. A rise has the follow-up of R10; a fall that leaves K within A
has none; a fall that leaves K above A opens or enlarges an OVERDRAFT, or takes a PREEMPT over, with its target, EPISODE_OPEN behind
CAPACITY, and its victims and cuts in their order (R11, R13, R14, R145, R146, R147, R152, R153, R154). With no value to take, nothing changes
(the model's choice, log entry 2). -/
def Obligations.SrcDebounceTaken : Prop :=
  ∀ (s : State) (v : Fin 4),
    (s.src.ready 20 = none → exec .srcDebounceTaken s = .next s)
    ∧ (s.src.ready 20 = some v →
        ∀ u, u = State.append
            { s with src := { value := v, pending := none }, capacity := s.profiles[v], capacityChanged := true }
            { kind := .capacity, slot := 15, a := half s.capacity, b := half s.profiles[v], c := half v.val } →
          (s.profiles[v] = s.capacity → exec .srcDebounceTaken s = .next u)
          ∧ (s.capacity < s.profiles[v] → exec .srcDebounceTaken s = .next u.followUp)
          ∧ (s.profiles[v] < s.capacity → s.committed ≤ s.profiles[v] - s.reserve → exec .srcDebounceTaken s = .next u)
          ∧ (BlockInv s → s.profiles[v] < s.capacity → s.profiles[v] - s.reserve < s.committed →
              ∃ t, exec .srcDebounceTaken s = .next t ∧ OverdraftTaken u t))

/-- ARRIVAL_OF_PRESENCE after 50 ticks: in EMPTY an enabled slot starts admission and another becomes DISABLED; in every other state only
the debounced value changes (R22, R24, R35). -/
def Obligations.ArrivalOfPresence : Prop :=
  ∀ (s : State) (i : SlotId), BlockInv s → (s.slot i).pres.ready 50 = some true →
    ((s.slot i).state = .empty → (s.slot i).enabled = true →
        exec (.arrivalOfPresence i) s =
          .next (admitted (withSlot s i { s.slot i with pres := { value := true, pending := none } }) i))
    ∧ ((s.slot i).state = .empty → (s.slot i).enabled = false →
        exec (.arrivalOfPresence i) s =
          .next (withSlot s i { s.slot i with pres := { value := true, pending := none }, state := .disabled }))
    ∧ ((s.slot i).state ≠ .empty →
        exec (.arrivalOfPresence i) s = .next (withSlot s i { s.slot i with pres := { value := true, pending := none } }))

/-- LOSS_OF_PRESENCE after 50 ticks: DISABLED and LOCKED become EMPTY, CUTTING is marked for EMPTY, ADMITTING loses its entry with reason
CUT and becomes EMPTY, a powered slot is cut with reason REMOVED (R23, R34). -/
def Obligations.LossOfPresence : Prop :=
  ∀ (s : State) (i : SlotId), (s.slot i).pres.ready 50 = some false →
    ((s.slot i).state = .disabled ∨ (s.slot i).state = .locked →
        exec (.lossOfPresence i) s =
          .next (withSlot s i { s.slot i with pres := { value := false, pending := none }, state := .empty }))
    ∧ ((s.slot i).state = .cutting →
        exec (.lossOfPresence i) s =
          .next (withSlot s i { s.slot i with pres := { value := false, pending := none }, destEmpty := true }))
    ∧ ((s.slot i).state = .empty →
        exec (.lossOfPresence i) s = .next (withSlot s i { s.slot i with pres := { value := false, pending := none } }))
    ∧ (∀ e, (s.slot i).state = .admitting → s.entryOf i = some e →
        exec (.lossOfPresence i) s =
          .next (entryDropped
            (withSlot s i { s.slot i with pres := { value := false, pending := none }, state := .empty }) e 3).followUp)
    ∧ ((s.slot i).state = .settling ∨ (s.slot i).state = .listening ∨ (s.slot i).state = .active →
        exec (.lossOfPresence i) s =
          .next (cutStarted (withSlot s i { s.slot i with pres := { value := false, pending := none } }) i .removed))

/-- SWITCH_FAULT cuts a slot in SETTLING, LISTENING or ACTIVE with reason FAULT, and HELLO_TIMER_EXPIRY one in LISTENING with reason
HELLO_TIMEOUT; a fault in any other state changes nothing (R29, R30, R34, R35), nor does a hello timer that has not expired (the model's
choice, log entry 2). -/
def Obligations.FaultAndHelloTimeoutCut : Prop :=
  ∀ (s : State) (i : SlotId),
    ((s.slot i).state = .settling ∨ (s.slot i).state = .listening ∨ (s.slot i).state = .active →
        exec (.switchFault i) s = .next (cutStarted s i .fault))
    ∧ ((s.slot i).state ≠ .settling → (s.slot i).state ≠ .listening → (s.slot i).state ≠ .active →
        exec (.switchFault i) s = .next s)
    ∧ ((s.slot i).hello = some 0 → (s.slot i).state = .listening → exec (.helloTimerExpiry i) s = .next (cutStarted s i .helloTimeout))
    ∧ ((s.slot i).hello ≠ some 0 → exec (.helloTimerExpiry i) s = .next s)

/-- SETTLE_TIMER_EXPIRY enters LISTENING: the hello timer of 10 ms times its field starts, the receive assembler hunts, nothing is queued or
outstanding, the next SEQ is 0, and the reply cache is kept as it is (R28, R48, R59). A timer that has not expired changes nothing (the
model's choice, log entry 2). -/
def Obligations.SettleTimerExpiry : Prop :=
  ∀ (s : State) (i : SlotId),
    ((s.slot i).settle = some 0 → (s.slot i).state = .settling →
      exec (.settleTimerExpiry i) s =
        .next (withSlot s i
          { s.slot i with
            state := .listening, settle := none, hello := some (10 * (s.slot i).cfg.helloTimeout)
            link :=
              { asm := .hunt, gap := none, replySlot := none, cache := (s.slot i).link.cache
                undeclared := (s.slot i).link.undeclared, outstanding := none, nextSeq := false, queue := [], tx := .idle } }))
    ∧ ((s.slot i).settle ≠ some 0 → exec (.settleTimerExpiry i) s = .next s)

/-- CUT_COMPLETION: the charge, the step table, the cut reason, the marks, the discharge timer and the reply cache are cleared, the slot
leaves the cut list, CUT_DONE is reported and the account is followed up; then the slot is where R37 says: EMPTY with the card gone, LOCKED
after FAULT, SILENT or HELLO_TIMEOUT, DISABLED after HOST, and after SHED or RESTART admission if enabled, else DISABLED; where a card is
present and the mark is EMPTY or the reason REMOVED, the slot is EMPTY and the arrival of R22 is acted on at once
(R22, R36, R37, R58, R82, R148). -/
def Obligations.CutCompletion : Prop :=
  ∀ (s : State) (i : SlotId) (reason : CutReason), (s.slot i).discharge = some 0 → (s.slot i).state = .cutting →
    (s.slot i).cutReason = some reason →
    ((s.slot i).pres.value = false → exec (.cutCompletion i) s = .next (cutDone s i .empty 1))
    ∧ ((s.slot i).pres.value = true → (s.slot i).destEmpty = true ∨ reason = .removed → (s.slot i).enabled = false →
        exec (.cutCompletion i) s =
          .next (withSlot (cutDone s i .empty 1) i { (cutDone s i .empty 1).slot i with state := .disabled }))
    ∧ ((s.slot i).pres.value = true → (s.slot i).destEmpty = true ∨ reason = .removed → (s.slot i).enabled = true → BlockInv s →
        exec (.cutCompletion i) s = .next (admitted (cutDone s i .empty 1) i))
    ∧ ((s.slot i).pres.value = true → (s.slot i).destEmpty = false →
        (reason = .fault ∨ reason = .silent ∨ reason = .helloTimeout → exec (.cutCompletion i) s = .next (cutDone s i .locked 3))
        ∧ (reason = .host → exec (.cutCompletion i) s = .next (cutDone s i .disabled 2))
        ∧ (reason = .shed ∨ reason = .restart → (s.slot i).enabled = false →
            exec (.cutCompletion i) s = .next (cutDone s i .disabled 2))
        ∧ (reason = .shed ∨ reason = .restart → (s.slot i).enabled = true → BlockInv s →
            exec (.cutCompletion i) s = .next (admitted (cutDone s i .admitting 4) i)))

/-! Leases, reclaims and pacing. -/

/-- LEASE_EXPIRY in ACTIVE: LAPSED with the held step and NOTICE(LAPSED), then a LAPSE reclaim to step 0: started when none is in progress,
a retarget when the target is above 0, nothing more when it is 0 already (R100, R101, R136). A timer that has not expired changes nothing
(the model's choice, log entry 2). -/
def Obligations.LeaseExpiry : Prop :=
  ∀ (s : State) (i : SlotId) (c : Card),
    ((s.slot i).lease ≠ some 0 → exec (.leaseExpiry i) s = .next s)
    ∧ ((s.slot i).lease = some 0 → ActiveWith s i c →
        ∀ u, u = ((withSlot s i { s.slot i with lease := none }).report .lapsed i c.held 0 0).modLink i (Link.placeNotice .lapsed c.held) →
          ((s.slot i).reclaim = none → exec (.leaseExpiry i) s = .next (reclaimStarted u i 0 .lapse))
          ∧ ∀ r, (s.slot i).reclaim = some r →
              (0 < r.target → exec (.leaseExpiry i) s = .next (reclaimRetargeted u i c r 0 .lapse))
              ∧ (r.target = 0 → exec (.leaseExpiry i) s = .next u))

/-- RECLAIM_WINDOW_EXPIRY in RECLAIMING: the phase becomes PACE_PENDING with the held step as basis, the timer is gone and the width of R133
is pending; the charge stands and nothing is reported (R134). A window that has not expired changes nothing (the model's choice, log
entry 2). -/
def Obligations.ReclaimWindowExpiry : Prop :=
  ∀ (s : State) (i : SlotId) (c : Card) (r : Reclaim), (s.slot i).card = some c → (s.slot i).reclaim = some r →
    (r.phase = .reclaiming → r.window = some 0 →
      exec (.reclaimWindowExpiry i) s =
        .next (withSlot s i
          { s.slot i with
            reclaim := some { r with phase := .pacePending, basis := some c.held, window := none }
            pendWidth := some ((c.draw r.target - c.draw 0) * 31 / (c.draw c.held - c.draw 0)) }))
    ∧ (r.window ≠ some 0 → exec (.reclaimWindowExpiry i) s = .next s)

/-- FRAME_START with a pending width: the width and its paced charge take effect, the phase is PACED, RUN takes the pattern at once, NOTICE
(PACED, W) is queued, PACED is reported, the victim entry follows the charge, and a changed charge is followed up (R140, R141, R148). FRAME_START with no pending width: a conclusion held open makes its lift claim, which empties the record, lifts pacing and reports PACED
with width 31 when draw(held step) fits headroom, and a RECLAIM still queued is removed (the model's reading, log entry 10); otherwise, and
in every other slot, nothing but the start itself is taken (R131, R141). -/
def Obligations.FrameStart : Prop :=
  (∀ (s : State) (i : SlotId) (c : Card) (r : Reclaim) (b w : Nat), ActiveWith s i c → (s.slot i).reclaim = some r → r.basis = some b →
    (s.slot i).pendWidth = some w → (s.slot i).frameDue = true →
    ∀ u, u =
        (withSlot s i
          { s.slot i with
            frameDue := false, curWidth := some w, pendWidth := none, reclaim := some { r with phase := .paced }
            charge := c.paced b w
            run := decide ((s.frameCounter + 31 - 4 * i.val) % 31 < w)
            link := Link.placeNotice .paced w (s.slot i).link }).report .paced i w (c.paced b w) 0 →
      ∀ v, v = { u with
            episode := { u.episode with victims := u.episode.victims.map (fun x =>
              if x.slot = i then { x with remaining := c.paced b w - c.draw x.target } else x) } } →
        (c.paced b w ≠ (s.slot i).charge → exec (.frameStart i) s = .next v.followUp)
        ∧ (c.paced b w = (s.slot i).charge → exec (.frameStart i) s = .next v))
  ∧ ∀ (s : State) (i : SlotId), (s.slot i).frameDue = true → (s.slot i).pendWidth = none →
    (∀ c r, ActiveWith s i c → (s.slot i).reclaim = some r → r.liftPending = true → Fits s i (c.draw c.held) →
      exec (.frameStart i) s =
        .next ((withSlot s i
          { s.slot i with
            frameDue := false, charge := c.draw c.held, reclaim := none, curWidth := none
            lease := if c.held = 0 then none else (s.slot i).lease
            run := true, link := Link.dropReclaim (s.slot i).link }).report .paced i 31 (c.draw c.held) 0))
    ∧ (∀ c r, ActiveWith s i c → (s.slot i).reclaim = some r → r.liftPending = true → ¬ Fits s i (c.draw c.held) →
        exec (.frameStart i) s = .next (withSlot s i { s.slot i with frameDue := false }))
    ∧ ((∀ r, (s.slot i).reclaim = some r → r.liftPending = false) →
        exec (.frameStart i) s = .next (withSlot s i { s.slot i with frameDue := false }))

/-- The paced width and the paced charge: W = floor((draw(g) - draw(0)) * 31 / (draw(b) - draw(0))), the charge
draw(0) + ceil((draw(b) - draw(0)) * W / 31); W lies in 0 to 30 and is 0 when the numerator is below the denominator, the charge is at least
draw(0), at most draw(g) and below draw(b), and a lower target gives neither a larger width nor a larger charge; with the two worked checks
(R133). -/
def Obligations.PacedWidthAndCharge : Prop :=
  (∀ d0 db dg w p : Nat, d0 ≤ dg → dg < db → w = pacedWidth d0 db dg → p = pacedCharge d0 db w →
    (w * (db - d0) ≤ (dg - d0) * 31 ∧ (dg - d0) * 31 < (w + 1) * (db - d0))
    ∧ (d0 ≤ p ∧ (db - d0) * w ≤ 31 * (p - d0) ∧ 31 * (p - d0) < (db - d0) * w + 31)
    ∧ w ≤ 30 ∧ ((dg - d0) * 31 < db - d0 → w = 0 ∧ p = d0) ∧ p ≤ dg ∧ p < db
    ∧ ∀ dh, d0 ≤ dh → dh ≤ dg → pacedWidth d0 db dh ≤ w ∧ pacedCharge d0 db (pacedWidth d0 db dh) ≤ p)
  ∧ pacedWidth 5 45 25 = 15 ∧ pacedCharge 5 45 15 = 25 ∧ pacedWidth 10 130 40 = 7 ∧ pacedCharge 10 130 7 = 38

/-! The budget link. -/

/-- The CRC: a register that starts at 0; each byte most significant bit first; each bit shifts the register left and, when the bit shifted
out differs from the data bit, exclusive-ors 0x07; nothing is inverted or reversed; SYNC is not covered; the transmitter puts it into every
frame, and the receiver compares it with the CRC byte and discards a frame in which they differ (R50). -/
def Obligations.CrcRule : Prop :=
  crc8 [] = 0
  ∧ (∀ (bytes : List Byte) (b : Byte),
      crc8 (bytes ++ [b]) =
        List.foldl (fun (reg : Byte) k => (reg <<< 1) ^^^ (if reg.getLsbD 7 = b.getLsbD (7 - k) then 0x00 else 0x07)) (crc8 bytes)
          (List.range 8))
  ∧ crc8 [0x31, 0x32, 0x33, 0x34, 0x35, 0x36, 0x37, 0x38, 0x39] = 0xF4 ∧ crc8 [0x00] = 0x00
  ∧ (∀ tx : Transmitter, tx ≠ .idle → ∃ covered, ltxFrame tx = 0xC3 :: (covered ++ [crc8 covered]))
  ∧ ∀ (i : SlotId) (f : RxFrame), f.crc ≠ crc8 (BitVec.ofNat 8 f.payload.length :: f.kind :: f.ctl :: f.payload) →
      frameCommand i f = .linkFrameDiscarded i f

/-- Decode and encode agree: the frame a card sends for any well-formed HELLO, ASK, YIELD, WITHDRAW, RENEW, CONFIRM, ACK, malformed request
or discarded frame is judged to be that very row, with every operand. (A malformed ACK is the one row whose frame carries a tag nobody
reads; it too comes back.) -/
def Obligations.CardFramesDecodeToTheirRows : Prop :=
  ∀ (c : Instr) (f : RxFrame), WellFormed c = true → cardFrame c = some f → ∃ i : SlotId, frameCommand i f = c

/-- The bytes of a whole frame, received in HUNT, do what the row of that frame does: SYNC_RECEIVED with LEN, KIND, CTL, the payload and CRC
is the command the frame is judged to be (R48, R53, R54). A LEN above 20 abandons the frame at once. -/
def Obligations.BytesActAsTheirFrame : Prop :=
  ∀ (s : State) (i : SlotId) (f : RxFrame), (s.slot i).link.asm = .hunt → (s.slot i).link.gap = none →
    (f.payload.length ≤ 20 →
      exec (.syncReceived i (BitVec.ofNat 8 f.payload.length :: f.kind :: f.ctl :: (f.payload ++ [f.crc]))) s =
        exec (frameCommand i f) s)
    ∧ ∀ len : Byte, 20 < len.toNat → exec (.syncReceived i [len]) s = .next s

/-- A frame abandoned by its gap timer, by a LEN above 20 or by a framing error, and a frame discarded by the checks, leave no trace: the
assembler hunts and nothing else changes (R48, R49, R53). With the link off, or with no frame to abandon, nothing changes at all, nor does a
gap timer that has not expired change anything (the model's choice, log entry 2). The row of a discarded frame stands for the whole frame
and acts from every phase but OFF (the model's choice, log entry 5). SYNC_RECEIVED with no byte behind the 0xC3, by phase: OFF does not
receive it; HUNT takes it as SYNC, enters LENGTH and starts the gap timer; in LENGTH it is a LEN above 20 and abandons the frame; in BODY it
is stored as data and starts the gap timer afresh; and in any phase but OFF, once the gap timer has expired the frame is abandoned, and the
0xC3 is taken in HUNT like any other (R48, R49). -/
def Obligations.AssemblerEvents : Prop :=
  (∀ (s : State) (i : SlotId), ∀ u, u = withSlot s i { s.slot i with link := { (s.slot i).link with asm := .hunt, gap := none } } →
    ((s.slot i).link.asm ≠ .off → (s.slot i).link.gap = some 0 → exec (.gapTimerExpiry i) s = .next u)
    ∧ ((s.slot i).link.gap ≠ some 0 → exec (.gapTimerExpiry i) s = .next s)
    ∧ (∀ len : Byte, (s.slot i).link.asm = .length → 20 < len.toNat → exec (.frameAbandoned i (.badLength len)) s = .next u)
    ∧ ((s.slot i).link.asm = .length ∨ (∃ n b, (s.slot i).link.asm = .body n b) → exec (.frameAbandoned i .framingError) s = .next u)
    ∧ (∀ cause, (s.slot i).link.asm = .hunt ∨ (s.slot i).link.asm = .off → exec (.frameAbandoned i cause) s = .next s)
    ∧ (∀ f, passesChecks f = false → (s.slot i).link.asm ≠ .off → exec (.linkFrameDiscarded i f) s = .next u)
    ∧ ∀ f, (s.slot i).link.asm = .off → exec (.linkFrameDiscarded i f) s = .next s)
  ∧ ∀ (s : State) (i : SlotId),
    ((s.slot i).link.asm = .off → (s.slot i).link.gap = none → exec (.syncReceived i []) s = .next s)
    ∧ ((s.slot i).link.asm = .hunt →
        exec (.syncReceived i []) s =
          .next (withSlot s i { s.slot i with link := { (s.slot i).link with asm := .length, gap := some 2 } }))
    ∧ ((s.slot i).link.asm ≠ .off → (s.slot i).link.gap = some 0 →
        exec (.syncReceived i []) s =
          .next (withSlot s i { s.slot i with link := { (s.slot i).link with asm := .length, gap := some 2 } }))
    ∧ ((s.slot i).link.asm = .length → (s.slot i).link.gap ≠ some 0 →
        exec (.syncReceived i []) s =
          .next (withSlot s i { s.slot i with link := { (s.slot i).link with asm := .hunt, gap := none } }))
    ∧ ∀ len bytes, (s.slot i).link.asm = .body len bytes → bytes.length + 1 < len + 3 → (s.slot i).link.gap ≠ some 0 →
        exec (.syncReceived i []) s =
          .next (withSlot s i
            { s.slot i with link := { (s.slot i).link with asm := .body len (bytes ++ [0xC3]), gap := some 2 } })

/-- MALFORMED: a request whose payload length does not suit its kind is answered REFUSE(MALFORMED) with its tag and reported, past the reply
cache, which keeps what it held; with the reply slot occupied it is lost; an ACK of a wrong length is discarded (R54, R55). -/
def Obligations.MalformedRequests : Prop :=
  ∀ (s : State) (i : SlotId) (kind : LinkKind) (tag : BitVec 3) (payload : List Byte), lengthSuits kind payload = false →
    (s.slot i).link.asm ≠ .off →
    (kind ≠ .ack → (s.slot i).link.replySlot = none →
      exec (.malformed i kind tag payload) s =
        .next ((withSlot s i
          { s.slot i with link := Link.placeReply tag (.refuse .malformed) (hunting (s.slot i).link) }).report .refused i 6
            (linkKindCode kind).toNat 0)
      ∧ (Link.placeReply tag (.refuse .malformed) (hunting (s.slot i).link)).cache = (s.slot i).link.cache)
    ∧ (kind = .ack ∨ (s.slot i).link.replySlot ≠ none →
        exec (.malformed i kind tag payload) s = .next (withSlot s i { s.slot i with link := hunting (s.slot i).link }))

/-- A request that arrives with the link off, or while a reply waits in the reply slot, is lost: it has no effect but the end of its frame
(R48, R55). A repeated request, of the kind and tag in the reply cache, draws the cached reply and is not executed again, whatever its
operands; the cache keeps its record (R56). The welcomed HELLO repeated in ACTIVE with its tag and payload,
when other replies have taken its record's place, draws the WELCOME first composed: it enters the cache, no second step table is stored, no
charge is claimed and nothing is reported (R57, R81; that it does so although it is new under R56 is the model's choice, log entry 17). -/
def Obligations.LostAndRepeatedRequests : Prop :=
  (∀ (s : State) (c : Instr) (i : SlotId) (kind : LinkKind) (tag : BitVec 3), requestOf c = some (i, kind, tag) →
    ((s.slot i).link.asm = .off → exec c s = .next s)
    ∧ ((s.slot i).link.asm ≠ .off → (s.slot i).link.replySlot ≠ none →
        exec c s = .next (withSlot s i { s.slot i with link := hunting (s.slot i).link }))
    ∧ ∀ reply, (s.slot i).link.asm ≠ .off → (s.slot i).link.replySlot = none →
        (s.slot i).link.cache = some { kind := kind, tag := tag, reply := reply } →
        exec c s = .next (withSlot s i { s.slot i with link := Link.placeReply tag reply (hunting (s.slot i).link) }))
  ∧ ∀ (s : State) (i : SlotId) (tag : BitVec 3) (cardId : BitVec 32) (floor : Byte) (draws : List Half) (c : Card),
    TakesNew s i .hello tag → ActiveWith s i c → c.helloTag = tag → c.cardId = cardId → c.declaredFloor = floor.toNat →
    c.draws = draws.map BitVec.toNat →
    exec (.hello i tag cardId floor draws) s = .next (withSlot s i { s.slot i with link := replied .hello tag c.welcome (s.slot i).link })

/-- Every new request is answered exactly once within its event: the cache holds its kind, its tag and one reply, and that reply is on the
line when the transmitter was free, else in the reply slot (R57, R67). -/
def Obligations.EveryNewRequestIsAnswered : Prop :=
  ∀ (s : State) (c : Instr) (i : SlotId) (kind : LinkKind) (tag : BitVec 3), BlockInv s → requestOf c = some (i, kind, tag) →
    TakesNew s i kind tag →
    ∃ t reply, exec c s = .next t ∧ (t.slot i).link.asm = .hunt
      ∧ (t.slot i).link.cache = some { kind := kind, tag := tag, reply := reply }
      ∧ ((s.slot i).link.tx = .idle → (t.slot i).link.tx = .reply tag reply ∧ (t.slot i).link.replySlot = none)
      ∧ ((s.slot i).link.tx ≠ .idle → (t.slot i).link.tx = (s.slot i).link.tx ∧ (t.slot i).link.replySlot = some (tag, reply))

/-- An ACK with the outstanding message's SEQ empties the record, and an idle transmitter begins the next queued message; any other ACK, of
another SEQ or with no message outstanding, has no effect but the end of its frame, and with the link off none at all. The reply slot does
not matter (R48, R55, R59, R61, R67). -/
def Obligations.Acknowledgement : Prop :=
  ∀ (s : State) (i : SlotId) (seq : Bool),
    ((s.slot i).link.asm = .off → exec (.ack i seq) s = .next s)
    ∧ ((s.slot i).link.asm ≠ .off → (s.slot i).link.outstanding = none →
        exec (.ack i seq) s = .next (withSlot s i { s.slot i with link := hunting (s.slot i).link }))
    ∧ ∀ o, (s.slot i).link.asm ≠ .off → (s.slot i).link.outstanding = some o →
    ∀ l, l = { hunting (s.slot i).link with outstanding := none } →
      (o.seq ≠ seq → exec (.ack i seq) s = .next (withSlot s i { s.slot i with link := hunting (s.slot i).link }))
      ∧ (o.seq = seq → l.tx ≠ .idle ∨ (l.queue = [] ∧ l.replySlot = none) →
          exec (.ack i seq) s = .next (withSlot s i { s.slot i with link := l }))
      ∧ ∀ m rest, o.seq = seq → l.tx = .idle → l.replySlot = none → l.queue = m :: rest →
          exec (.ack i seq) s =
            .next (withSlot s i
              { s.slot i with
                link :=
                  { l with
                    tx := .message m l.nextSeq, nextSeq := !l.nextSeq, queue := rest
                    outstanding := some { msg := m, seq := l.nextSeq, retries := 0, window := none, due := false } } })

/-- FRAME_TRANSMITTED: a message still outstanding starts its reply window, with the field as it stands then; the transmitter then begins
the reply, else the retransmission that is due, else the head of the queue when nothing is outstanding, else it is free, each within this
event (R59, R60, R67; log entry 7). With no frame on the line no such event occurs, and the row changes nothing (the model's choice, log
entries 2 and 7). -/
def Obligations.TransmitterOrder : Prop :=
  ∀ (s : State) (i : SlotId) (l : Link), (s.slot i).link.asm ≠ .off →
    ((s.slot i).link.tx = .idle → exec (.frameTransmitted i) s = .next s)
    ∧ ((∃ tag r, (s.slot i).link.tx = .reply tag r ∧ l = (s.slot i).link)
        ∨ (∃ m q, (s.slot i).link.tx = .message m q ∧
            l = { (s.slot i).link with
                  outstanding := (s.slot i).link.outstanding.map (fun o => { o with window := some (s.slot i).cfg.replyWindow }) }) →
        ∃ l', exec (.frameTransmitted i) s = .next (withSlot s i { s.slot i with link := l' })
          ∧ (∀ tag r, l.replySlot = some (tag, r) → l' = { l with tx := .reply tag r, replySlot := none })
          ∧ (∀ o, l.replySlot = none → l.outstanding = some o → o.due = true →
              l' = { l with tx := .message o.msg o.seq, outstanding := some { o with due := false } })
          ∧ (∀ o, l.replySlot = none → l.outstanding = some o → o.due = false → l' = { l with tx := .idle })
          ∧ (∀ m rest, l.replySlot = none → l.outstanding = none → l.queue = m :: rest →
              l' = { l with
                     tx := .message m l.nextSeq, nextSeq := !l.nextSeq, queue := rest
                     outstanding := some { msg := m, seq := l.nextSeq, retries := 0, window := none, due := false } })
          ∧ (l.replySlot = none → l.outstanding = none → l.queue = [] → l' = { l with tx := .idle }))

/-- REPLY_WINDOW_EXPIRY: up to three times the message goes out again with its SEQ, at once when the transmitter is free and no reply waits,
else when its turn comes; at the fourth expiry the link is silent and the slot is cut with reason SILENT (R60, R62). A window that has not
expired changes nothing (the model's choice, log entry 2). -/
def Obligations.ReplyWindowExpiry : Prop :=
  ∀ (s : State) (i : SlotId) (o : Outstanding), (s.slot i).link.asm ≠ .off → (s.slot i).link.outstanding = some o →
    (o.window ≠ some 0 → exec (.replyWindowExpiry i) s = .next s)
    ∧ (o.window = some 0 → o.retries < 3 → (s.slot i).link.tx ≠ .idle →
        exec (.replyWindowExpiry i) s =
          .next (withSlot s i
            { s.slot i with
              link := { (s.slot i).link with outstanding := some { o with retries := o.retries + 1, window := none, due := true } } }))
    ∧ (o.window = some 0 → o.retries < 3 → (s.slot i).link.tx = .idle → (s.slot i).link.replySlot = none →
        exec (.replyWindowExpiry i) s =
          .next (withSlot s i
            { s.slot i with
              link :=
                { (s.slot i).link with
                  tx := .message o.msg o.seq
                  outstanding := some { o with retries := o.retries + 1, window := none, due := false } } }))
    ∧ (o.window = some 0 → 3 ≤ o.retries → (s.slot i).state = .listening ∨ (s.slot i).state = .active →
        exec (.replyWindowExpiry i) s = .next (cutStarted s i .silent))

/-- Chip-originated messages in a transmit queue: a NOTICE joins the tail; a RECLAIM and an AWARD replace their like in its place, else join
the tail; when the queue is full the oldest NOTICE gives way; a full queue always holds one, so four messages are never exceeded. Said of a
link whose transmitter is busy, so that nothing leaves the queue (R63, R64, R65, R66). -/
def Obligations.QueuePlacement : Prop :=
  ∀ (l : Link) (target window step lease value : Nat) (kind : NoticeKind), l.tx ≠ .idle → queueFits l.queue = true →
    (l.queue.length < 4 → Link.placeNotice kind value l = { l with queue := l.queue ++ [.notice kind value] })
    ∧ (∀ front k v back, l.queue = front ++ .notice k v :: back → l.queue.length = 4 → (∀ m ∈ front, m.isNotice = false) →
        Link.placeNotice kind value l = { l with queue := front ++ back ++ [.notice kind value] })
    ∧ (∀ front g w back, l.queue = front ++ .reclaim g w :: back →
        Link.placeReclaim target window l = { l with queue := front ++ .reclaim target window :: back })
    ∧ (∀ front g w back, l.queue = front ++ .award g w :: back →
        Link.placeAward step lease l = { l with queue := front ++ .award step lease :: back })
    ∧ (l.queue.any Message.isReclaim = false → l.queue.length < 4 →
        Link.placeReclaim target window l = { l with queue := l.queue ++ [.reclaim target window] })
    ∧ (l.queue.any Message.isAward = false → l.queue.length < 4 →
        Link.placeAward step lease l = { l with queue := l.queue ++ [.award step lease] })
    ∧ (∀ front k v back, l.queue = front ++ .notice k v :: back → l.queue.length = 4 → (∀ m ∈ front, m.isNotice = false) →
        (l.queue.any Message.isReclaim = false →
          Link.placeReclaim target window l = { l with queue := front ++ back ++ [.reclaim target window] })
        ∧ (l.queue.any Message.isAward = false →
            Link.placeAward step lease l = { l with queue := front ++ back ++ [.award step lease] }))
    ∧ queueFits (Link.placeNotice kind value l).queue = true ∧ queueFits (Link.placeReclaim target window l).queue = true
    ∧ queueFits (Link.placeAward step lease l).queue = true

/-! Declarations and requests. -/

/-- A new request other than HELLO from a slot that is not ACTIVE is refused with NOT_DECLARED: REFUSE and REFUSED, and nothing else (R57,
R83). In ACTIVE the repeat of a request so refused, of its kind and tag, is refused with NOT_DECLARED in the same way and not executed (R57,
R83; that the refusal is reported, and how long it is given, is the model's choice, log entry 15). What decides this is kept by the replies:
NOT_DECLARED adds its request's kind and tag, and any other reply to a request drops what is kept of its kind. -/
def Obligations.RequestsBeforeDeclaration : Prop :=
  ∀ (s : State) (c : Instr) (i : SlotId) (kind : LinkKind) (tag : BitVec 3), requestOf c = some (i, kind, tag) → kind ≠ .hello →
    TakesNew s i kind tag →
    ((s.slot i).state ≠ .active ∨ (kind, tag) ∈ (s.slot i).link.undeclared → exec c s = .next (refused s i kind tag .notDeclared))
    ∧ ∀ (reply : Reply) (p : LinkKind × BitVec 3), p ∈ (Link.answer kind tag reply (s.slot i).link).undeclared ↔
        if reply = .refuse .notDeclared then p ∈ (s.slot i).link.undeclared ∨ p = (kind, tag)
        else p ∈ (s.slot i).link.undeclared ∧ p.1 ≠ kind

/-- A new HELLO in LISTENING whose shape is good, whose draw(0) is within the cap and either not above the charge held or, with no episode
open, within headroom, is accepted: the step table of R77 and R78 is stored at step 0, the charge becomes draw(0), the slot is ACTIVE with
RUN high and the hello timer stopped, WELCOME carries usable top, lease and class, DECLARED is reported, and a lowered charge is followed up
(R70 to R79). The tag and that WELCOME are kept with the step table for the repeats of R81 (the model's choice, log entry 17). -/
def Obligations.HelloAccepted : Prop :=
  ∀ (s : State) (i : SlotId) (tag : BitVec 3) (cardId : BitVec 32) (floor : Byte) (draws : List Half) (d : List Nat),
    TakesNew s i .hello tag → (s.slot i).state = .listening → d = draws.map BitVec.toNat →
    1 ≤ d.length → d.length ≤ 6 → 1 ≤ d.getD 0 0 → (∀ k, k + 1 < d.length → d.getD k 0 < d.getD (k + 1) 0) → floor.toNat < d.length →
    d.getD 0 0 ≤ (s.slot i).cfg.cap →
    d.getD 0 0 ≤ (s.slot i).charge ∨ (s.episode.kind = .none ∧ Fits s i (d.getD 0 0)) →
    ∃ top, top < d.length ∧ d.getD top 0 ≤ (s.slot i).cfg.cap ∧ (∀ k, top < k → k < d.length → (s.slot i).cfg.cap < d.getD k 0) ∧
      ∀ u, u =
          (withSlot s i
            { s.slot i with
              state := .active, charge := d.getD 0 0, hello := none, run := true
              card := some
                { cardId := cardId, draws := d, declaredFloor := floor.toNat, held := 0, usableTop := top, helloTag := tag
                  welcome := .welcome top (s.slot i).cfg.lease (s.slot i).cfg.cls
                  effFloor := match (s.slot i).cfg.floorOverride with
                    | none => floor.toNat
                    | some o => min o (d.length - 1) }
              link := replied .hello tag (.welcome top (s.slot i).cfg.lease (s.slot i).cfg.cls) (s.slot i).link }).report .declared i
                d.length (d.getD 0 0) top →
        (d.getD 0 0 < (s.slot i).charge → exec (.hello i tag cardId floor draws) s = .next u.followUp)
        ∧ ((s.slot i).charge ≤ d.getD 0 0 → exec (.hello i tag cardId floor draws) s = .next u)

/-- The refusals of a new HELLO, in their order: ALREADY_DECLARED in ACTIVE, but for the welcomed HELLO repeated with its tag and payload
(R81; the model's choice, log entry 17), then BAD_DECLARATION, OVER_CAP, NO_BUDGET; each leaves
everything but cache, reply slot and report queue as it was (R70 to R73). -/
def Obligations.HelloRefused : Prop :=
  ∀ (s : State) (i : SlotId) (tag : BitVec 3) (cardId : BitVec 32) (floor : Byte) (draws : List Half) (d : List Nat),
    TakesNew s i .hello tag → d = draws.map BitVec.toNat →
    ((s.slot i).state = .active → (∀ c, (s.slot i).card = some c →
          ¬ (c.helloTag = tag ∧ c.cardId = cardId ∧ c.declaredFloor = floor.toNat ∧ c.draws = d)) →
        exec (.hello i tag cardId floor draws) s = .next (refused s i .hello tag .alreadyDeclared))
    ∧ ((s.slot i).state ≠ .active →
        (d.length < 1 ∨ 6 < d.length ∨ d.getD 0 0 = 0 ∨ (∃ k, k + 1 < d.length ∧ d.getD (k + 1) 0 ≤ d.getD k 0) ∨ d.length ≤ floor.toNat →
          exec (.hello i tag cardId floor draws) s = .next (refused s i .hello tag .badDeclaration))
        ∧ (shapeOk floor.toNat d = true → (s.slot i).cfg.cap < d.getD 0 0 →
            exec (.hello i tag cardId floor draws) s = .next (refused s i .hello tag .overCap))
        ∧ (shapeOk floor.toNat d = true → d.getD 0 0 ≤ (s.slot i).cfg.cap → (s.slot i).charge < d.getD 0 0 →
            s.episode.kind ≠ .none ∨ ¬ Fits s i (d.getD 0 0) →
            exec (.hello i tag cardId floor draws) s = .next (refused s i .hello tag .noBudget)))

/-- An ASK that passes the slot's checks while no episode is open and ordering lets it pass is granted the highest step from the lower of
asked step and usable top down to its floor whose draw fits headroom: charge, held step, recency list, lease, GRANT, GRANTED, the overtaken
counts, the end of its own entry with the follow-up of that removal (R85, R86, R91, R97, R109, R110). -/
def Obligations.AskGranted : Prop :=
  ∀ (s : State) (i : SlotId) (tag : BitVec 3) (asked floor flags : Byte) (c : Card) (g : Nat),
    TakesFresh s i .ask tag → ActiveWith s i c → AskPasses s i c asked.toNat floor.toNat →
    floor.toNat ≤ g → g ≤ asked.toNat → g ≤ c.usableTop → AskFits s i c g →
    (∀ k, g < k → k ≤ asked.toNat → k ≤ c.usableTop → ¬ Fits s i (c.draw k)) →
    ∀ u, u =
        (withSlot { s with waitList := listAfterGrant s i, recency := i :: s.recency.filter (fun j => decide (j ≠ i)) } i
          { s.slot i with
            charge := c.draw g, card := some { c with held := g }
            lease := if (s.slot i).cfg.lease = 0 then none else some (1000 * (s.slot i).cfg.lease)
            link := replied .ask tag (.grant g (s.slot i).cfg.lease) (s.slot i).link }).report .granted i g (c.draw g) 0 →
      ((s.entryOf i).isSome = true → exec (.ask i tag asked floor flags) s = .next u.followUp)
      ∧ (s.entryOf i = none → exec (.ask i tag asked floor flags) s = .next u)

/-- The refusals of an ASK in their order: IN_RECLAIM, BAD_STEP, OVER_CAP, and NO_BUDGET when nothing can be granted and DEFERRABLE is clear;
each leaves everything but cache, reply slot and report queue as it was (R84, R88, R89). -/
def Obligations.AskRefused : Prop :=
  ∀ (s : State) (i : SlotId) (tag : BitVec 3) (asked floor flags : Byte) (c : Card), TakesFresh s i .ask tag → ActiveWith s i c →
    ((s.slot i).reclaim ≠ none → exec (.ask i tag asked floor flags) s = .next (refused s i .ask tag .inReclaim))
    ∧ ((s.slot i).reclaim = none → c.count ≤ asked.toNat ∨ asked.toNat < floor.toNat ∨ floor.toNat ≤ c.held →
        exec (.ask i tag asked floor flags) s = .next (refused s i .ask tag .badStep))
    ∧ ((s.slot i).reclaim = none → asked.toNat < c.count → floor.toNat ≤ asked.toNat → c.held < floor.toNat → c.usableTop < floor.toNat →
        exec (.ask i tag asked floor flags) s = .next (refused s i .ask tag .overCap))
    ∧ (AskPasses s i c asked.toNat floor.toNat → flags.getLsbD 0 = false →
        (∀ g, floor.toNat ≤ g → g ≤ asked.toNat → g ≤ c.usableTop → ¬ AskFits s i c g) →
        exec (.ask i tag asked floor flags) s = .next (refused s i .ask tag .noBudget))

/-- An ASK that can be granted nothing and is DEFERRABLE waits: its entry joins after the entries of its class and above, or the slot's own
STEP entry takes the new asked step and floor where it stands; DEFER and DEFERRED carry the position. With preemption off, or class 0, or an
episode open, that is all (R87, R89, R106, R108). -/
def Obligations.AskDeferred : Prop :=
  ∀ (s : State) (i : SlotId) (tag : BitVec 3) (asked floor flags : Byte) (c : Card), BlockInv s → TakesFresh s i .ask tag →
    ActiveWith s i c → AskPasses s i c asked.toNat floor.toNat → flags.getLsbD 0 = true →
    (∀ g, floor.toNat ≤ g → g ≤ asked.toNat → g ≤ c.usableTop → ¬ AskFits s i c g) →
    s.policy.preempt = false ∨ (s.slot i).cfg.cls = 0 ∨ s.episode.kind ≠ .none →
    ∃ list position,
      (s.entryOf i = none → position = (aheadOf s i).length + 1 ∧
        list = aheadOf s i
          ++ { slot := i, kind := .step asked.toNat floor.toNat, cls := (s.slot i).cfg.cls, overtaken := 0, anchored := false,
               beneficiary := false } :: s.waitList.filter (fun e => decide (e.cls < (s.slot i).cfg.cls)))
      ∧ (∀ e front back, s.waitList = front ++ e :: back → e.slot = i → position = front.length + 1 ∧
          list = front ++ { e with kind := .step asked.toNat floor.toNat } :: back)
      ∧ exec (.ask i tag asked floor flags) s =
          .next ((withSlot { s with waitList := list } i
            { s.slot i with link := replied .ask tag (.defer position) (s.slot i).link }).report .deferred i position asked.toNat
              floor.toNat)

/-- A YIELD below the held step, with no reclaim: the charge falls to draw(t), the held step is t, at step 0 the lease stops, DONE(0) and
YIELDED follow, and the account is followed up (R92). At or above the held step it is refused with BAD_STEP, and above the target of a
reclaim with IN_RECLAIM, with no other effect (R92, R93). -/
def Obligations.Yield : Prop :=
  ∀ (s : State) (i : SlotId) (tag : BitVec 3) (target : Byte) (c : Card), TakesFresh s i .yield tag → ActiveWith s i c →
    (c.held ≤ target.toNat → exec (.yield i tag target) s = .next (refused s i .yield tag .badStep))
    ∧ (∀ r, target.toNat < c.held → (s.slot i).reclaim = some r → r.target < target.toNat →
        exec (.yield i tag target) s = .next (refused s i .yield tag .inReclaim))
    ∧ (target.toNat < c.held → (s.slot i).reclaim = none → c.draw target.toNat < (s.slot i).charge →
        exec (.yield i tag target) s =
          .next ((withSlot s i
            { s.slot i with
              charge := c.draw target.toNat, card := some { c with held := target.toNat }
              lease := if target.toNat = 0 then none else (s.slot i).lease
              link := replied .yield tag (.done 0) (s.slot i).link }).report .yielded i target.toNat (c.draw target.toNat) 0).followUp)

/-- A WITHDRAW removes the slot's entry with WAIT_DROPPED, reason WITHDRAW, closes the PREEMPT it was the beneficiary of, is answered DONE(0)
and followed up; with no entry it is refused with NOTHING_WAITING (R95, R118, R119, R151). A RENEW with no LAPSE reclaim: above step 0 with a lease field L above 0 the lease timer starts afresh at L seconds and the reply is
DONE(L), otherwise the timer is left alone and the reply is DONE(0); nothing is reported. Under a LAPSE reclaim it is refused with LAPSED
(R98, R99). -/
def Obligations.WithdrawAndRenew : Prop :=
  (∀ (s : State) (i : SlotId) (tag : BitVec 3) (c : Card), TakesFresh s i .withdraw tag → ActiveWith s i c →
    (s.entryOf i = none → exec (.withdraw i tag) s = .next (refused s i .withdraw tag .nothingWaiting))
    ∧ ∀ e, s.entryOf i = some e →
        exec (.withdraw i tag) s =
          .next (entryDropped (withSlot s i { s.slot i with link := replied .withdraw tag (.done 0) (s.slot i).link }) e 1).followUp)
  ∧ ∀ (s : State) (i : SlotId) (tag : BitVec 3) (c : Card), TakesFresh s i .renew tag → ActiveWith s i c →
    (∀ r, (s.slot i).reclaim = some r → r.cause = .lapse → exec (.renew i tag) s = .next (refused s i .renew tag .lapsed))
    ∧ ((∀ r, (s.slot i).reclaim = some r → r.cause ≠ .lapse) →
        (0 < c.held → 0 < (s.slot i).cfg.lease →
          exec (.renew i tag) s =
            .next (withSlot s i
              { s.slot i with
                lease := some (1000 * (s.slot i).cfg.lease)
                link := replied .renew tag (.done (s.slot i).cfg.lease) (s.slot i).link }))
        ∧ (c.held = 0 ∨ (s.slot i).cfg.lease = 0 →
            exec (.renew i tag) s = .next (withSlot s i { s.slot i with link := replied .renew tag (.done 0) (s.slot i).link })))

/-- A CONFIRM, or a YIELD, at or below the target concludes the reclaim: pacing lifted and the record emptied, followed up when the charge
fell; where a paced charge lies below draw(t) the raise is made when it fits headroom, else the conclusion is held open (R93, R128, R129,
R130, R131). A victim leaves the victim list whatever the cause of its reclaim has become (the model's reading of R128 and R148, log
entry 9). -/
def Obligations.ReclaimConclusion : Prop :=
  ∀ (s : State) (i : SlotId) (tag : BitVec 3) (target : Byte) (c : Card) (r : Reclaim) (command : Instr) (kind : LinkKind),
    (command = .confirm i tag target ∧ kind = .confirm) ∨ (command = .yield i tag target ∧ kind = .yield) →
    TakesFresh s i kind tag → ActiveWith s i c → (s.slot i).reclaim = some r → target.toNat < c.held → target.toNat ≤ r.target →
    (c.draw target.toNat < (s.slot i).charge → exec command s = .next (reclaimConcluded s i c kind tag target.toNat).followUp)
    ∧ (c.draw target.toNat = (s.slot i).charge → exec command s = .next (reclaimConcluded s i c kind tag target.toNat))
    ∧ (r.phase = .paced → (s.slot i).charge < c.draw target.toNat → Fits s i (c.draw target.toNat) →
        exec command s = .next (reclaimConcluded s i c kind tag target.toNat))
    ∧ (r.phase = .paced → (s.slot i).charge < c.draw target.toNat → ¬ Fits s i (c.draw target.toNat) →
        exec command s = .next (reclaimHeldOpen s i c r kind tag target.toNat))

/-- A CONFIRM outside a reclaim is refused with NO_RECLAIM, and one at or above the held step with BAD_STEP, with no other effect (R127). A
CONFIRM above the target and below the held step is partial progress, by phase: RECLAIMING and PACE_PENDING lower the charge to draw(t)
and are followed up, PACE_PENDING takes t as its basis with a new pending width, PACED changes the held step alone; DONE(0) and CONFIRMED
with the charge after it; a victim's remaining reduction follows (R132, R148). -/
def Obligations.ConfirmRefusalsAndProgress : Prop :=
  ∀ (s : State) (i : SlotId) (tag : BitVec 3) (target : Byte) (c : Card), TakesFresh s i .confirm tag → ActiveWith s i c →
    ((s.slot i).reclaim = none → exec (.confirm i tag target) s = .next (refused s i .confirm tag .noReclaim))
    ∧ ((s.slot i).reclaim ≠ none → c.held ≤ target.toNat →
        exec (.confirm i tag target) s = .next (refused s i .confirm tag .badStep))
    ∧ ∀ r, (s.slot i).reclaim = some r → target.toNat < c.held → r.target < target.toNat →
    ∀ after : Slot → Nat → State, (∀ slot charge, after slot charge =
        { (withSlot s i { slot with card := some { c with held := target.toNat }, charge := charge,
                                    link := replied .confirm tag (.done 0) (s.slot i).link }).report
              .confirmed i target.toNat charge 0 with
          episode :=
            { s.episode with
              victims := s.episode.victims.map (fun v => if v.slot = i then { v with remaining := charge - c.draw v.target } else v) } }) →
      (r.phase = .reclaiming → exec (.confirm i tag target) s = .next (after (s.slot i) (c.draw target.toNat)).followUp)
      ∧ (r.phase = .pacePending →
          exec (.confirm i tag target) s =
            .next (after
              { s.slot i with
                reclaim := some { r with basis := some target.toNat }, pendWidth := some (c.width target.toNat r.target) }
              (c.draw target.toNat)).followUp)
      ∧ (r.phase = .paced → exec (.confirm i tag target) s = .next (after (s.slot i) (s.slot i).charge))

/-! The wait list and the shed episodes. -/

/-- The follow-up with no episode open is the release walk. In STRICT mode it tests the head, in FIT mode each entry up to and including the
first anchored one. Where none of those fits, nothing changes. The first that fits is granted, a STEP entry its best step by AWARD (R116),
an ADMIT entry its admission (R115); the entries in front are counted as overtaken (R110), and the walk goes on over the account and the list
it leaves. So it leaves nothing that it should have granted, and never brings K above A (R9, R109, R110, R113, R114). With an episode open
the follow-up is the episode check: an OVERDRAFT closes COVERED once K is at most A (R155), a PREEMPT grants its beneficiary its best step,
counts the entries ahead and closes GRANTED (R150), each with the walk behind it; otherwise nothing changes. -/
def Obligations.WalkLeavesNothingThatFits : Prop :=
  (∀ s : State, WaitForm s → EntryForm s → ChargeForm s → SlotForm s → s.episode.kind = .none →
    (s.policy.mode = .strict → ∀ e, s.followUp.waitList.head? = some e → ¬ couldGrant s.followUp e)
    ∧ (s.policy.mode = .fit → ∀ front e back, s.followUp.waitList = front ++ e :: back → (∀ x ∈ front, x.anchored = false) →
        ¬ couldGrant s.followUp e)
    ∧ (s.committed ≤ s.available → s.followUp.committed ≤ s.followUp.available)
    ∧ ((∀ front e back, s.waitList = front ++ e :: back → (∀ x ∈ front, s.policy.mode = .fit ∧ x.anchored = false) → ¬ couldGrant s e) →
        s.followUp = s)
    ∧ ∀ front e back, s.waitList = front ++ e :: back →
        (∀ x ∈ front, s.policy.mode = .fit ∧ x.anchored = false ∧ ¬ couldGrant s x) →
        ∀ u, u = { s with waitList := front.map (overtaken s.policy.limit) ++ back } →
          (e.kind = .admission → couldGrant s e → s.followUp = (admissionGranted u e.slot).followUp)
          ∧ ∀ asked floor c g, e.kind = .step asked floor → (s.slot e.slot).card = some c → BestStep s e.slot c asked floor g →
              s.followUp = (stepAwarded u e.slot c g).followUp)
  ∧ (∀ s : State, s.episode.kind = .overdraft →
      (s.available < s.committed → s.followUp = s)
      ∧ (s.committed ≤ s.available → s.followUp = (episodeClosed s 2 3).followUp))
  ∧ ∀ (s : State) (i : SlotId) (e : WaitEntry) (asked floor : Nat) (c : Card),
      s.episode.kind = .preempt → s.episode.beneficiary = some i → s.entryOf i = some e → e.kind = .step asked floor →
      (s.slot i).card = some c →
      ((∀ g, floor ≤ g → g ≤ asked → g ≤ c.usableTop → ¬ Fits s i (c.draw g)) → s.followUp = s)
      ∧ ∀ g, BestStep s i c asked floor g →
          s.followUp = (episodeClosed (stepAwarded { s with waitList := listAfterGrant s i } i c g) 1 1).followUp

/-- An open OVERDRAFT has always ordered enough: from every state of the invariant in which its expected reduction covers K - A, or no slot
is powered any more, every step leaves it so; an opening, an enlargement and a takeover order what is missing from the candidates and then
from the cut tier (R146, R147, R148, R152, R153, R154). -/
def Obligations.OverdraftStaysCovered : Prop :=
  ∀ s t : State, BlockInv s → OverdraftCovered s → step s = .next t → OverdraftCovered t

/-- An ASK that is deferred with preemption on, in a class above 0 and with no episode open: its entry takes its place, DEFER and DEFERRED carry
the position, and no charge changes (R87, R106, R108). Where its floor does not fit and the slots of lower classes can give what is missing,
a PREEMPT opens for it with that target, EPISODE_OPEN behind DEFERRED where there is room, and marks the entry; it orders at least that much
from such slots, in the order of R145 with the last victim taken to the highest step that completes it, and the victims' own entries leave
the list; nothing else changes. Otherwise no episode opens, and the deferral is all (R145, R146, R149). -/
def Obligations.DeferredAskPreempts : Prop :=
  ∀ (s : State) (i : SlotId) (tag : BitVec 3) (asked floor flags : Byte) (c : Card), BlockInv s → TakesFresh s i .ask tag →
    ActiveWith s i c → AskPasses s i c asked.toNat floor.toNat → flags.getLsbD 0 = true →
    (∀ g, floor.toNat ≤ g → g ≤ asked.toNat → g ≤ c.usableTop → ¬ AskFits s i c g) →
    s.policy.preempt = true → 0 < (s.slot i).cfg.cls → s.episode.kind = .none →
    ∃ t list position, exec (.ask i tag asked floor flags) s = .next t ∧ DeferredPlace s i asked.toNat floor.toNat list position
      ∧ (∀ j, (t.slot j).charge = (s.slot j).charge)
      ∧ (¬ Fits s i (c.draw floor.toNat) →
          c.draw floor.toNat + s.committed - (s.available + (s.slot i).charge) ≤
            (slotIds.map (canGive s (s.slot i).cfg.cls)).sum →
          t.episode.kind = .preempt ∧ t.episode.beneficiary = some i ∧ t.episode.cuts = []
          ∧ t.episode.target = c.draw floor.toNat + s.committed - (s.available + (s.slot i).charge)
          ∧ t.episode.target ≤ t.episode.expected ∧ ShedChoice s (s.slot i).cfg.cls t.episode.target t.episode.victims
          ∧ (∀ v ∈ t.episode.victims, 0 < canGive s (s.slot i).cfg.cls v.slot ∧
              ∃ r, (t.slot v.slot).reclaim = some r ∧ r.target = v.target ∧ r.cause = .shed)
          ∧ (∃ e, t.entryOf i = some e ∧ e.beneficiary = true)
          ∧ t.waitList = (list.map (fun e => if e.slot = i then { e with beneficiary := true } else e)).filter
              (fun e => decide (e.slot ∉ t.episode.victims.map Victim.slot))
          ∧ t.slot i = { s.slot i with link := replied .ask tag (.defer position) (s.slot i).link }
          ∧ (∀ j, j ≠ i → j ∉ t.episode.victims.map Victim.slot → t.slot j = s.slot j)
          ∧ (s.reports.length < 30 →
              s.reports ++ [slotReport .deferred i position asked.toNat floor.toNat, chipReport .episodeOpen 1 t.episode.target i.val]
                <+: t.reports)
          ∧ { t with slots := s.slots, waitList := s.waitList, episode := s.episode, reports := s.reports, gapSeen := s.gapSeen } = s)
      ∧ (Fits s i (c.draw floor.toNat) ∨
          (slotIds.map (canGive s (s.slot i).cfg.cls)).sum <
            c.draw floor.toNat + s.committed - (s.available + (s.slot i).charge) →
          t.episode = s.episode
          ∧ t = (withSlot { s with waitList := list } i
              { s.slot i with link := replied .ask tag (.defer position) (s.slot i).link }).report .deferred i position asked.toNat
                floor.toNat)

/-! The Host Window, the command queue and the report queue. -/

/-- A write to CMD_CODE pushes the code with what CMD_P0 to CMD_P2 hold; into a full queue it is discarded and sets CMD_OVERRUN. A write to
a parameter register changes no entry already pushed, the registers keep their values, and what a command does not need is ignored.
CMD_LEVEL shows the number of entries, and CMD_FULL is set at four. A taken entry leaves the queue, and no command, RESTART either, takes the
entries behind it along. The queue is empty after pin reset (R163). -/
def Obligations.CommandPush : Prop :=
  ∀ (s : State) (code value : Half),
    (s.cmdQueue.length < 4 →
      exec (.cmdCodeWrite code) s =
        .next { s with cmdQueue := s.cmdQueue ++ [{ code := code, p0 := s.cmdP0, p1 := s.cmdP1, p2 := s.cmdP2 }] })
    ∧ (4 ≤ s.cmdQueue.length → exec (.cmdCodeWrite code) s = .next { s with cmdOverrun := true })
    ∧ exec (.registerWrite ⟨0x08, false⟩ value) s = .next { s with cmdP0 := value }
    ∧ exec (.registerWrite ⟨0x09, false⟩ value) s = .next { s with cmdP1 := value }
    ∧ exec (.registerWrite ⟨0x0A, false⟩ value) s = .next { s with cmdP2 := value }
    ∧ (s.cmdQueue.length ≤ 4 → (s.read 0x0C).toNat = s.cmdQueue.length)
    ∧ (s.cmdQueue.length = 3 → ∀ t, exec (.cmdCodeWrite code) s = .next t → (t.read 0x02).getLsbD 3 = true)
    ∧ (∀ c t e, TakesCommand s c e → exec c s = .next t → t.cmdQueue = s.cmdQueue.tail)
    ∧ (∀ (e : CmdEntry) (p1 p2 : Half),
        (e.code.toNat ∈ [2, 3, 4, 6, 10] → entryCommand { e with p1 := p1, p2 := p2 } = entryCommand e)
        ∧ (e.code.toNat ∈ [5, 7, 8] → entryCommand { e with p2 := p2 } = entryCommand e))
    ∧ ∀ t, exec .pinReset s = .next t → t.cmdQueue = []

/-- A write to a register: TABLE_SEL stores the value, IRQ_ENABLE its seven enable bits (the model's reading, log entry 11), EVENTS clears each
flag written with 1; a write to a register with a row of its own acts as that row (the model's choice, log entry 6); every other write but
one to CMD_P0 to CMD_P2 is ignored, and while RESET# is asserted every write is (R159, R161, R162, R170). -/
def Obligations.RegisterWrites : Prop :=
  ∀ (s : State) (v : Half),
    exec (.eventsWrite v) s =
      .next { s with
        gapSeen := s.gapSeen && !v.getLsbD 0, cmdOverrun := s.cmdOverrun && !v.getLsbD 1
        capacityChanged := s.capacityChanged && !v.getLsbD 2 }
    ∧ exec (.irqEnableWrite v) s = .next { s with irqEnable := v.extractLsb' 0 7 }
    ∧ exec (.registerWrite ⟨0x03, false⟩ v) s = exec (.eventsWrite v) s ∧ exec (.registerWrite ⟨0x04, false⟩ v) s = exec (.irqEnableWrite v) s
    ∧ exec (.registerWrite ⟨0x0B, false⟩ v) s = exec (.cmdCodeWrite v) s ∧ exec (.registerWrite ⟨0x15, false⟩ v) s = exec .reportPop s
    ∧ exec (.registerWrite ⟨0x21, false⟩ v) s = exec (.slotRecordSnapshot v) s
    ∧ exec (.registerWrite ⟨0x20, false⟩ v) s = .next { s with tableSel := v }
    ∧ (∀ a : BitVec 6, a ∉ [0x03, 0x04, 0x08, 0x09, 0x0A, 0x0B, 0x15, 0x20, 0x21] → exec (.registerWrite ⟨a, false⟩ v) s = .next s)
    ∧ ∀ a : BitVec 6, exec (.registerWrite ⟨a, true⟩ v) s = .next s

/-- What the host reads: ID its two halfwords; STATUS its four flags and EVENTS GAP_SEEN, CMD_OVERRUN and CAPACITY_CHANGED, in the bits of
12.2; CMD_LEVEL the entries queued; the five live registers C, H, A, K and the active profile index; REPORT_COUNT the number of records;
REPORT_HEAD0 to 3 the head record in the bits of 12.3, and zeros for an empty queue; TABLE_DATA0 to 7 the latched record; the read-write
registers what they hold, IRQ_ENABLE 0 above its seven bits (the model's reading, log entry 11); every index that 12.2 does not list, and
the action registers, read 0. A write to a live register changes nothing. While RESET# is asserted a read returns 0 and a write changes
nothing (R2, R18, R159, R160, R161, R170, R175, R178). First the numbers of 12.1, 12.2 and 12.3 for the codes that records carry: report
kinds, results, refuse reasons, link kinds, destinations, WAIT_DROPPED reasons, episode kinds and outcomes. -/
def Obligations.RegisterReads : Prop :=
  ([ReportKind.result, .powered, .declared, .granted, .deferred, .refused, .yielded, .confirmed, .reclaimStart, .paced, .lapsed,
      .waitDropped, .cutStart, .cutDone, .episodeOpen, .episodeClose, .capacity, .gap].map reportKindCode
      = [1, 2, 3, 4, 5, 6, 7, 8, 9, 10, 11, 12, 13, 14, 15, 16, 17, 18]
    ∧ [ResultCode.ok, .badCode, .badSlot, .badValue, .badState, .overdraw].map resultCode = [0, 1, 2, 3, 4, 5]
    ∧ [RefuseReason.notDeclared, .alreadyDeclared, .badDeclaration, .badStep, .overCap, .malformed, .noBudget, .inReclaim, .noReclaim,
        .lapsed, .nothingWaiting].map refuseCode = [1, 2, 3, 4, 5, 6, 7, 8, 9, 10, 11]
    ∧ [LinkKind.hello, .ask, .yield, .withdraw, .renew, .confirm, .ack].map linkKindCode = [0x01, 0x02, 0x03, 0x04, 0x05, 0x06, 0x07]
    ∧ [Destination.empty, .disabled, .locked, .admission].map destinationCode = [1, 2, 3, 4]
    ∧ [DropReason.withdraw, .host, .cut, .reclaim, .restart, .grantedNot].map dropCode = [1, 2, 3, 4, 5, 6]
    ∧ [EpisodeKind.none, .preempt, .overdraft].map episodeKindCode = [0, 1, 2]
    ∧ [EpisodeOutcome.granted, .abandoned, .covered, .restart].map outcomeCode = [1, 2, 3, 4])
  ∧ ∀ s : State, BlockInv s →
    s.read 0x00 = 0xB8A1 ∧ s.read 0x01 = 0x0001
    ∧ ((s.read 0x02).getLsbD 0 = !s.reports.isEmpty) ∧ (s.read 0x02).getLsbD 1 = decide (s.episode.kind ≠ .none)
    ∧ ((s.read 0x02).getLsbD 2 = true ↔ ∃ i : SlotId, (s.slot i).state = .locked)
    ∧ (s.read 0x02).getLsbD 3 = decide (s.cmdQueue.length = 4) ∧ (s.read 0x02).toNat < 16
    ∧ (s.read 0x03).getLsbD 0 = s.gapSeen ∧ (s.read 0x03).getLsbD 1 = s.cmdOverrun ∧ (s.read 0x03).getLsbD 2 = s.capacityChanged
    ∧ (s.read 0x03).toNat < 8 ∧ (s.read 0x0C).toNat = s.cmdQueue.length
    ∧ (∀ k : Fin 8, s.read (BitVec.ofNat 6 (0x28 + k.val)) = s.tableData[k])
    ∧ (∀ (a : BitVec 6) (v : Half), s.busRead ⟨a, true⟩ = 0 ∧ s.busRead ⟨a, false⟩ = s.read a ∧ exec (.registerWrite ⟨a, true⟩ v) s = .next s)
    ∧ (s.read 0x18).toNat = s.capacity ∧ (s.read 0x19).toNat = s.reserve
    ∧ (s.read 0x1A).toNat = (if s.reserve < s.capacity then s.capacity - s.reserve else 0)
    ∧ (s.read 0x1B).toNat = (slotIds.map (fun i => (s.slot i).charge)).sum ∧ (s.read 0x1C).toNat = s.src.value.val
    ∧ (s.read 0x10).toNat = s.reports.length
    ∧ (s.reports = [] → s.read 0x11 = 0 ∧ s.read 0x12 = 0 ∧ s.read 0x13 = 0 ∧ s.read 0x14 = 0)
    ∧ (∀ r rest, s.reports = r :: rest →
        (s.read 0x11).extractLsb' 0 8 = r.slot.setWidth 8 ∧ ((s.read 0x11).extractLsb' 8 8).toNat = reportKindCode r.kind
        ∧ s.read 0x12 = r.a ∧ s.read 0x13 = r.b ∧ s.read 0x14 = r.c)
    ∧ s.read 0x08 = s.cmdP0 ∧ s.read 0x09 = s.cmdP1 ∧ s.read 0x0A = s.cmdP2 ∧ s.read 0x20 = s.tableSel ∧ s.read 0x21 = s.tableIndex
    ∧ s.read 0x04 = s.irqEnable.setWidth 16
    ∧ (∀ a : BitVec 6, a ∈ [0x05, 0x06, 0x07, 0x0B, 0x0D, 0x0E, 0x0F, 0x15, 0x16, 0x17, 0x1D, 0x1E, 0x1F] ∨ (0x21 < a.toNat ∧ a.toNat < 0x28)
          ∨ 0x30 ≤ a.toNat → s.read a = 0)
    ∧ ∀ (a : BitVec 6) (v : Half), 0x18 ≤ a.toNat → a.toNat ≤ 0x1C → exec (.registerWrite ⟨a, false⟩ v) s = .next s

/-- STATUS follows its four conditions in every state, and a write to it changes nothing; IRQ# is low exactly while a flag of STATUS or
EVENTS stands at 1 whose enable bit is 1, STATUS bits 3:0 under enables 3:0 and EVENTS bits 2:0 under enables 6:4; a write of IRQ_ENABLE
stores the enables (R160, R162). -/
def Obligations.FlagsAndInterrupt : Prop :=
  ∀ s : State,
    ((s.read 0x02).getLsbD 0 = true ↔ s.reports ≠ []) ∧ ((s.read 0x02).getLsbD 1 = true ↔ s.episode.kind ≠ .none)
    ∧ ((s.read 0x02).getLsbD 2 = true ↔ ∃ i : SlotId, (s.slot i).state = .locked)
    ∧ (s.cmdQueue.length ≤ 4 → ((s.read 0x02).getLsbD 3 = true ↔ s.cmdQueue.length = 4)) ∧ (s.read 0x02).toNat < 16
    ∧ (∀ v, exec (.registerWrite ⟨0x02, false⟩ v) s = .next s)
    ∧ (s.irqLow = true ↔
        (∃ k < 4, s.irqEnable.getLsbD k = true ∧ (s.read 0x02).getLsbD k = true)
        ∨ ∃ k < 3, s.irqEnable.getLsbD (4 + k) = true ∧ (s.read 0x03).getLsbD k = true)
    ∧ (∀ v t, exec (.irqEnableWrite v) s = .next t → ∀ k < 7, t.irqEnable.getLsbD k = v.getLsbD k)
    ∧ ∀ t, exec .pinReset s = .next t → t.irqEnable = 0 ∧ t.irqLow = false

/-- An append by the table of R176: below 31 records the report is stored; at 31 with no GAP at the tail a GAP of count 1 takes its place and
GAP_SEEN is set; with a GAP at the tail its count rises, up to 65535; a queue of 32 records always has a GAP at its tail. A write to REPORT_POP removes the head record, does nothing to an empty
queue, and lets the head command be tested again; a read of it returns 0 (R176, R179). -/
def Obligations.ReportQueueAppendAndPop : Prop :=
  ∀ s : State,
    (∀ r, s.reports.length < 31 → s.append r = { s with reports := s.reports ++ [r] })
    ∧ (∀ r, s.reports.length = 31 → (∀ x, s.reports.getLast? = some x → x.kind ≠ .gap) →
        s.append r =
          { s with reports := s.reports ++ [{ kind := .gap, slot := 15, a := 1, b := 0, c := 0 }], gapSeen := true })
    ∧ (∀ r front x, 31 ≤ s.reports.length → s.reports = front ++ [x] → x.kind = .gap →
        s.append r = { s with reports := front ++ [{ x with a := if x.a = 0xFFFF then 0xFFFF else x.a + 1 }] })
    ∧ (∀ r rest, s.reports = r :: rest → exec .reportPop s = .next { s with reports := rest }
        ∧ (rest = [] → ∀ t, exec .reportPop s = .next t → (t.read 0x02).getLsbD 0 = false)
        ∧ ∀ c, s.headCommand = some c → rest.length < 24 → ∀ t, exec .reportPop s = .next t → t.canTake c = true)
    ∧ (∀ r, s.reports.length ≤ 32 → (s.reports.length = 32 → tailIsGap s.reports = true) →
        (s.append r).reports.length ≤ 32 ∧ ((s.append r).reports.length = 32 → tailIsGap (s.append r).reports = true))
    ∧ (s.reports = [] → exec .reportPop s = .next s) ∧ s.read 0x15 = 0
    ∧ ∀ v, exec (.registerWrite ⟨0x15, false⟩ v) s = exec .reportPop s

/-- Commands wait their turn: while 24 or more reports are held no command is taken, and none but the one at the head of the queue is (R164).
The entry of each command row spells that row, and every entry spells a row. With an empty queue a command row stands for its push and its
taking at once (the model's choice, log entry 3). -/
def Obligations.CommandOrder : Prop :=
  (∀ (s : State) (c : Instr) (e : CmdEntry), commandEntry c = some e →
    (24 ≤ s.reports.length → exec c s = .next s) ∧ (∀ head, s.cmdQueue.head? = some head → entryCommand head ≠ c → exec c s = .next s))
  ∧ (∀ (c : Instr) (e : CmdEntry), WellFormed c = true → commandEntry c = some e → entryCommand e = c)
  ∧ (∀ e : CmdEntry, WellFormed (entryCommand e) = true ∧ ∃ e', commandEntry (entryCommand e) = some e' ∧ e'.code = e.code)
  ∧ ∀ (s : State) (c : Instr) (e : CmdEntry), entryCommand e = c → (c = .restart → e.p0 = s.cmdP0) → s.cmdQueue = [] →
      s.reports.length < 24 → exec c s = exec c { s with cmdQueue := [e] }

/-- Every command that leaves the command queue leaves its RESULT in the report queue, as itself, directly behind the records held when it
was taken, with its code, its result by the checks of R41, R44, R121, R165, R166 and R167 and of section 1.5, and P0 as pushed; whatever its
effects report stands behind it (R164, R165, R175, R181). The rows: the eleven SLOT_CONFIG fields and SLOT_CONFIG_UNKNOWN_FIELD, ENABLE,
DISABLE, RESTORE, RECLAIM, DROP_WAIT, SET_PROFILE, SET_RESERVE, SET_POLICY, RESTART and UNKNOWN_COMMAND_CODE, with every operand. -/
def Obligations.TakenCommandLeavesResult : Prop :=
  ∀ (s : State) (c : Instr) (e : CmdEntry), TakesCommand s c e →
    ∃ t, exec c s = .next t ∧ t.cmdQueue = s.cmdQueue.tail ∧ (s.reports ++ [resultRecord s c e]) <+: t.reports

/-- A refused command changes nothing but the command queue and its own RESULT: a code that names none, an unknown field, a slot above 7, a
value out of range, a state that does not allow it, an overdraw (R41, R44, R165). -/
def Obligations.RefusedCommandLeavesOnlyItsResult : Prop :=
  ∀ (s : State) (c : Instr) (e : CmdEntry), TakesCommand s c e → expectedResult s c ≠ .ok → exec c s = .next (taken s c e)

/-- A SLOT_CONFIG of a field in its range stores the field and changes nothing else of the state: a running timer or window goes on as it was
(R41, R42); a class change also moves the slot's entry after the last entry of its new class, with a follow-up (R43, R107); a floor
override also recomputes the effective floor of an ACTIVE card (R46, R78), and leaves that of a card in CUTTING as it was (the model's
reading of R78 and R82, log entry 8). -/
def Obligations.ConfigFields : Prop :=
  ∀ (s : State) (p0 v : Half) (i : SlotId) (e : CmdEntry), slotOf p0 = some i →
    let t := s.slot i
    (1 ≤ v.toNat → v.toNat ≤ 255 →
      (TakesCommand s (.slotConfigAdmissionCharge p0 v) e → exec (.slotConfigAdmissionCharge p0 v) s =
          .next (withSlot (taken s (.slotConfigAdmissionCharge p0 v) e) i { t with cfg := { t.cfg with admission := v.toNat } }))
      ∧ (TakesCommand s (.slotConfigSettle p0 v) e → exec (.slotConfigSettle p0 v) s =
          .next (withSlot (taken s (.slotConfigSettle p0 v) e) i { t with cfg := { t.cfg with settle := v.toNat } }))
      ∧ (TakesCommand s (.slotConfigDischarge p0 v) e → exec (.slotConfigDischarge p0 v) s =
          .next (withSlot (taken s (.slotConfigDischarge p0 v) e) i { t with cfg := { t.cfg with discharge := v.toNat } }))
      ∧ (TakesCommand s (.slotConfigReclaimWindow p0 v) e → exec (.slotConfigReclaimWindow p0 v) s =
          .next (withSlot (taken s (.slotConfigReclaimWindow p0 v) e) i { t with cfg := { t.cfg with reclaimWindow := v.toNat } })))
    ∧ (v.toNat ≤ 255 → TakesCommand s (.slotConfigLease p0 v) e → exec (.slotConfigLease p0 v) s =
        .next (withSlot (taken s (.slotConfigLease p0 v) e) i { t with cfg := { t.cfg with lease := v.toNat } }))
    ∧ (10 ≤ v.toNat → v.toNat ≤ 255 → TakesCommand s (.slotConfigHelloTimeout p0 v) e → exec (.slotConfigHelloTimeout p0 v) s =
        .next (withSlot (taken s (.slotConfigHelloTimeout p0 v) e) i { t with cfg := { t.cfg with helloTimeout := v.toNat } }))
    ∧ (2 ≤ v.toNat → v.toNat ≤ 255 → TakesCommand s (.slotConfigReplyWindow p0 v) e → exec (.slotConfigReplyWindow p0 v) s =
        .next (withSlot (taken s (.slotConfigReplyWindow p0 v) e) i { t with cfg := { t.cfg with replyWindow := v.toNat } }))
    ∧ (v.toNat ≤ 3 → TakesCommand s (.slotConfigClass p0 v) e →
        ∀ u, u = withSlot (taken s (.slotConfigClass p0 v) e) i { t with cfg := { t.cfg with cls := v.toNat } } →
          ((∀ x ∈ s.waitList, x.slot = i → x.cls = v.toNat) → exec (.slotConfigClass p0 v) s = .next u)
          ∧ ∀ x, WaitForm s → s.entryOf i = some x → x.cls ≠ v.toNat →
              exec (.slotConfigClass p0 v) s =
                .next (State.followUp
                  { u with
                    waitList := s.waitList.filter (fun y => decide (y.slot ≠ i ∧ v.toNat ≤ y.cls)) ++ { x with cls := v.toNat }
                      :: s.waitList.filter (fun y => decide (y.slot ≠ i ∧ y.cls < v.toNat)) }))
    ∧ (v.toNat ≤ 5 ∨ v.toNat = 255 → TakesCommand s (.slotConfigFloorOverride p0 v) e →
        ∀ o, o = (if v.toNat = 255 then none else some v.toNat) →
        ∀ u, u = withSlot (taken s (.slotConfigFloorOverride p0 v) e) i { t with cfg := { t.cfg with floorOverride := o } } →
          (t.state ≠ .active → exec (.slotConfigFloorOverride p0 v) s = .next u)
          ∧ ∀ c, ActiveWith s i c →
              exec (.slotConfigFloorOverride p0 v) s =
                .next (withSlot u i
                  { u.slot i with
                    card := some
                      { c with
                        effFloor := match o with
                          | none => c.declaredFloor
                          | some k => if k < c.count then k else c.count - 1 } }))

/-- A cap in range and not below draw(0) of an ACTIVE card is stored. For an ACTIVE card the usable top becomes the highest step within the
cap; when the held draw is above the cap a CAP reclaim to that step starts, retargets or is ignored; else a STEP entry whose floor lies
above it is removed as GRANTED_NOT, with its NOTICE and a follow-up (R44, R45, R77, R124, R136). In CUTTING the usable top stays as it was
(the model's reading of R77 and R82, log entry 8). -/
def Obligations.ConfigCap : Prop :=
  ∀ (s : State) (p0 v : Half) (i : SlotId) (e : CmdEntry), slotOf p0 = some i → 1 ≤ v.toNat → v.toNat ≤ 1023 →
    TakesCommand s (.slotConfigCap p0 v) e →
    (∀ u, u = withSlot (taken s (.slotConfigCap p0 v) e) i { s.slot i with cfg := { (s.slot i).cfg with cap := v.toNat } } →
      (s.slot i).state ≠ .active → exec (.slotConfigCap p0 v) s = .next u)
    ∧ ∀ c top, ActiveWith s i c → c.draw 0 ≤ v.toNat → top < c.count → c.draw top ≤ v.toNat →
        (∀ k, top < k → k < c.count → v.toNat < c.draw k) →
        ∀ c' u, c' = { c with usableTop := top } →
          u = withSlot (taken s (.slotConfigCap p0 v) e) i
            { s.slot i with cfg := { (s.slot i).cfg with cap := v.toNat }, card := some c' } →
          (v.toNat < c.draw c.held → (s.slot i).reclaim = none →
            exec (.slotConfigCap p0 v) s = .next (reclaimStarted u i top .cap))
          ∧ (∀ r, v.toNat < c.draw c.held → (s.slot i).reclaim = some r →
              (top < r.target → exec (.slotConfigCap p0 v) s = .next (reclaimRetargeted u i c' r top .cap))
              ∧ (r.target ≤ top → exec (.slotConfigCap p0 v) s = .next u))
          ∧ (c.draw c.held ≤ v.toNat →
              (∀ x asked floor, s.entryOf i = some x → x.kind = .step asked floor → top < floor →
                exec (.slotConfigCap p0 v) s = .next ((entryDropped u x 6).modLink i (Link.placeNotice .dropped asked)).followUp)
              ∧ ((∀ x ∈ s.waitList, x.slot = i → ∀ asked floor, x.kind = .step asked floor → floor ≤ top) →
                  exec (.slotConfigCap p0 v) s = .next u))

/-- ENABLE, and SLOT_CONFIG of the enabled field with 1, set the flag and start admission of a DISABLED slot; DISABLE, and the field with 0,
clear it, cut a powered slot with reason HOST and end an ADMITTING in DISABLED with its entry removed; RESTORE of a LOCKED slot starts
admission when the flag is 1 and otherwise goes to DISABLED (R24, R31, R32, R33, R41). -/
def Obligations.EnableDisableRestore : Prop :=
  ∀ (s : State) (p0 : Half) (i : SlotId) (e : CmdEntry), BlockInv s → slotOf p0 = some i →
    (∀ c, c = .enable p0 ∨ c = .slotConfigEnabled p0 1 → TakesCommand s c e →
      ∀ u, u = withSlot (taken s c e) i { s.slot i with enabled := true } →
        ((s.slot i).state = .disabled → exec c s = .next (admitted u i)) ∧ ((s.slot i).state ≠ .disabled → exec c s = .next u))
    ∧ (∀ c, c = .disable p0 ∨ c = .slotConfigEnabled p0 0 → TakesCommand s c e →
        ∀ u, u = withSlot (taken s c e) i { s.slot i with enabled := false } →
          ((s.slot i).state = .settling ∨ (s.slot i).state = .listening ∨ (s.slot i).state = .active →
            exec c s = .next (cutStarted u i .host))
          ∧ (∀ x, (s.slot i).state = .admitting → s.entryOf i = some x →
              exec c s = .next (entryDropped (withSlot u i { u.slot i with state := .disabled }) x 2).followUp)
          ∧ ((s.slot i).state = .empty ∨ (s.slot i).state = .disabled ∨ (s.slot i).state = .locked ∨ (s.slot i).state = .cutting →
              exec c s = .next u))
    ∧ (TakesCommand s (.restore p0) e → (s.slot i).state = .locked →
        ((s.slot i).enabled = true → exec (.restore p0) s = .next (admitted (taken s (.restore p0) e) i))
        ∧ ((s.slot i).enabled = false →
            exec (.restore p0) s = .next (withSlot (taken s (.restore p0) e) i { s.slot i with state := .disabled })))

/-- The host RECLAIM of an ACTIVE slot to a step below the held one starts a HOST reclaim, retargets one in progress to a lower target, and
is otherwise only reported as OK. DROP_WAIT removes a STEP entry with reason HOST and its NOTICE, or an ADMIT entry with the enabled flag
cleared and the slot DISABLED; each removal is followed up (R26, R118, R121, R135, R136, R166). -/
def Obligations.HostReclaimAndDropWait : Prop :=
  ∀ (s : State) (p0 step : Half) (i : SlotId) (e : CmdEntry), slotOf p0 = some i →
    (∀ c, TakesCommand s (.reclaim p0 step) e → ActiveWith s i c → step.toNat < c.held →
      ∀ u, u = taken s (.reclaim p0 step) e →
        ((s.slot i).reclaim = none → exec (.reclaim p0 step) s = .next (reclaimStarted u i step.toNat .host))
        ∧ ∀ r, (s.slot i).reclaim = some r →
            (step.toNat < r.target → exec (.reclaim p0 step) s = .next (reclaimRetargeted u i c r step.toNat .host))
            ∧ (r.target ≤ step.toNat → exec (.reclaim p0 step) s = .next u))
    ∧ ∀ x, TakesCommand s (.dropWait p0) e → s.entryOf i = some x →
        ∀ u, u = taken s (.dropWait p0) e →
          (∀ asked floor, x.kind = .step asked floor →
            exec (.dropWait p0) s = .next ((entryDropped u x 2).modLink i (Link.placeNotice .dropped asked)).followUp)
          ∧ (x.kind = .admission →
              exec (.dropWait p0) s =
                .next (entryDropped (withSlot u i { s.slot i with enabled := false, state := .disabled }) x 2).followUp)

/-- SET_PROFILE writes its record, and where it is the active one with another capacity it changes C with a CAPACITY report; SET_RESERVE taken
with OK writes H; SET_POLICY writes mode, limit and preemption, and a lower limit anchors the entries whose count has reached it. A rise of A
and a policy write are followed up; a fall that leaves K within A is not; a fall of C and a forced raise of H that leave K above A open or
enlarge an OVERDRAFT, or take a PREEMPT over, behind CAPACITY or the RESULT (R12, R13, R14, R15, R16, R17, R111, R112, R145, R146, R147, R152,
R153, R154, R167). Which profile is active is read from the debounced SRC value alone (log entry 14). -/
def Obligations.ProfileReserveAndPolicy : Prop :=
  ∀ (s : State) (a b d : Half) (e : CmdEntry),
    (∀ p : Fin 4, a.toNat = p.val → b.toNat ≤ 4095 → TakesCommand s (.setProfile a b) e →
      ∀ u v, u = { taken s (.setProfile a b) e with profiles := s.profiles.set p b.toNat } →
        v = State.append { u with capacity := b.toNat, capacityChanged := true }
          { kind := .capacity, slot := 15, a := half s.capacity, b := b, c := half p.val } →
        (p ≠ s.src.value ∨ b.toNat = s.capacity → exec (.setProfile a b) s = .next u)
        ∧ (p = s.src.value → s.capacity < b.toNat → exec (.setProfile a b) s = .next v.followUp)
        ∧ (p = s.src.value → b.toNat < s.capacity → s.committed ≤ b.toNat - s.reserve → exec (.setProfile a b) s = .next v)
        ∧ (BlockInv s → p = s.src.value → b.toNat < s.capacity → b.toNat - s.reserve < s.committed →
            ∃ t, exec (.setProfile a b) s = .next t ∧ OverdraftTaken v t))
    ∧ (TakesCommand s (.setReserve a b) e → expectedResult s (.setReserve a b) = .ok →
        ∀ u, u = { taken s (.setReserve a b) e with reserve := a.toNat } →
          (a.toNat < s.reserve → exec (.setReserve a b) s = .next u.followUp)
          ∧ (a.toNat = s.reserve → exec (.setReserve a b) s = .next u)
          ∧ (s.reserve < a.toNat → s.committed ≤ s.capacity - a.toNat → exec (.setReserve a b) s = .next u)
          ∧ (BlockInv s → s.reserve < a.toNat → s.capacity - a.toNat < s.committed →
              ∃ t, exec (.setReserve a b) s = .next t ∧ OverdraftTaken u t))
    ∧ (TakesCommand s (.setPolicy a b d) e → a.toNat ≤ 1 → 1 ≤ b.toNat → b.toNat ≤ 7 → d.toNat ≤ 1 →
        exec (.setPolicy a b d) s =
          .next (State.followUp
            { taken s (.setPolicy a b d) e with
              policy := { mode := if a.toNat = 0 then .fit else .strict, limit := b.toNat, preempt := decide (d.toNat = 1) }
              waitList :=
                if b.toNat < s.policy.limit then
                  s.waitList.map (fun x => { x with anchored := x.anchored || decide (b.toNat ≤ x.overtaken) })
                else s.waitList }))

/-- RESTART, behind its RESULT: the wait list is cleared from head to tail, every powered slot is cut with reason RESTART, and every slot that
was ADMITTING then starts admission afresh over the account as the cuts leave it, each in ascending slot number, with the reports in that
order where there is room. So every powered slot is CUTTING, its charge and step table as they were; a former ADMITTING slot is SETTLING with
its admission charge, SWEN and settle timer, or ADMITTING with a new ADMIT entry; every other slot is as it was; the wait list holds such
entries alone, the recency list nobody; a PREEMPT is over; an OVERDRAFT goes on with its target, its victims now on the cut list with their
charges, and every admission deferred with a count of 0; configuration, enabled flags, figures, policy and the window's registers are kept
(R27, R120, R156, R168, R169). -/
def Obligations.Restart : Prop :=
  ∀ (s : State) (e : CmdEntry), BlockInv s → TakesCommand s .restart e →
    ∃ t, exec .restart s = .next t ∧ t = restarted (taken s .restart e)
      ∧ (∀ i : SlotId,
          ((s.slot i).powered = true →
            (t.slot i).state = .cutting ∧ (t.slot i).cutReason = some .restart ∧ (t.slot i).charge = (s.slot i).charge
            ∧ (t.slot i).card = (s.slot i).card ∧ (t.slot i).discharge = some (s.slot i).cfg.discharge ∧ (t.slot i).swen = false)
          ∧ ((s.slot i).state = .admitting →
              (t.entryOf i = none ∧ t.slot i =
                { s.slot i with
                  state := .settling, charge := (s.slot i).cfg.admission, swen := true, settle := some (10 * (s.slot i).cfg.settle) })
              ∨ (t.slot i = s.slot i ∧ ∃ x, t.entryOf i = some x ∧ x.kind = .admission ∧ x.cls = (s.slot i).cfg.cls))
          ∧ ((s.slot i).powered = false → (s.slot i).state ≠ .admitting → t.slot i = s.slot i)
          ∧ (t.slot i).cfg = (s.slot i).cfg ∧ (t.slot i).enabled = (s.slot i).enabled ∧ (t.slot i).pres = (s.slot i).pres)
      ∧ (∀ x ∈ t.waitList, x.kind = .admission ∧ x.beneficiary = false ∧ (s.slot x.slot).state = .admitting) ∧ t.recency = []
      ∧ (s.episode.kind ≠ .overdraft → t.episode.kind = .none)
      ∧ (s.episode.kind = .overdraft →
          t.episode.kind = .overdraft ∧ t.episode.target = s.episode.target ∧ t.episode.victims = []
          ∧ t.episode.cuts = s.episode.cuts ++
              (slotIds.filter (fun i => decide (i ∈ s.episode.victims.map Victim.slot))).map
                (fun i => { slot := i, counted := (s.slot i).charge })
          ∧ (∀ x ∈ t.waitList, x.overtaken = 0 ∧ x.anchored = false)
          ∧ ∀ i : SlotId, (s.slot i).state = .admitting → (t.slot i).state = .admitting)
      ∧ (s.reports.length + 1 + (restartReports s).length ≤ 31 → s.reports ++ resultRecord s .restart e :: restartReports s <+: t.reports)
      ∧ (s.reports.length + 1 + (restartReports s).length + s.waitList.length ≤ 31 →
          ∃ last, t.reports = s.reports ++ resultRecord s .restart e :: restartReports s ++ last
            ∧ last.map Report.slot = (slotIds.filter (fun i => decide ((s.slot i).state = .admitting))).map slotField
            ∧ ∀ i : SlotId, (s.slot i).state = .admitting →
                ((t.slot i).state = .settling → slotReport .powered i (s.slot i).cfg.admission 0 0 ∈ last)
                ∧ ((t.slot i).state = .admitting → ∃ n, slotReport .deferred i n 0 0 ∈ last))
      ∧ { t with slots := s.slots, waitList := s.waitList, recency := s.recency, episode := s.episode, reports := s.reports,
                 gapSeen := s.gapSeen } = { s with cmdQueue := s.cmdQueue.tail }

/-- Each snapshot row, and the write that names no table, stores the index and latches the record that TABLE_SEL and the index select, whatever
table the row is named after (the model's choice, log entry 6); a
record that does not exist latches 0xFFFF and zeros, and TABLE_DATA0 reads 0xFFFF for no record that exists; nothing else changes
(R170, R171, R183). -/
def Obligations.SnapshotLatch : Prop :=
  ∀ (s : State) (index : Half) (c : Instr), BlockInv s →
    c ∈ [.slotRecordSnapshot index, .stepTableSnapshot index, .waitEntrySnapshot index, .episodeRecordSnapshot index,
         .profileSnapshot index, .recencyListSnapshot index, .tableIndexWriteNoTable index] →
    ∃ t, exec c s = .next t ∧ t.tableIndex = index ∧ { t with tableIndex := s.tableIndex, tableData := s.tableData } = s
      ∧ (t.read 0x28 = 0xFFFF ↔ recordExists s s.tableSel index = false)
      ∧ (recordExists s s.tableSel index = false →
          ∀ a ∈ ([0x29, 0x2A, 0x2B, 0x2C, 0x2D, 0x2E, 0x2F] : List (BitVec 6)), t.read a = 0)
      ∧ (s.tableSel.toNat = 4 → ∀ p : Fin 4, index.toNat = p.val →
          (t.read 0x28).toNat = s.profiles[p] ∧ ((t.read 0x29).toNat = if p = s.src.value then 1 else 0))
      ∧ (s.tableSel.toNat = 5 → index = 0 → ∀ k : Fin 8,
          (t.tableData[k]).toNat = ((s.recency.map Fin.val)[k.val]?).getD 15)
      ∧ (s.tableSel.toNat = 3 → ∀ v, 1 ≤ index.toNat → index.toNat ≤ 8 → s.episode.victims[index.toNat - 1]? = some v →
          (t.read 0x28).toNat = v.slot.val ∧ (t.read 0x29).toNat = v.target ∧ (t.read 0x2A).toNat = v.remaining)
      ∧ (s.tableSel.toNat = 3 → ∀ v, 9 ≤ index.toNat → index.toNat ≤ 16 → s.episode.cuts[index.toNat - 9]? = some v →
          (t.read 0x28).toNat = v.slot.val ∧ (t.read 0x29).toNat = v.counted)

/-- The fields of a slot's live record, its configuration record, its step table, a wait entry and the episode header with the policy stand in
the bits that 12.5 gives them, each latched by its own row with TABLE_SEL at its table; a byte without a value reads 0xFF, a slot number
without a slot 15. The effective floor stands in bits 15:8 of DATA5 of the configuration record (R46; the place is the model's choice, log
entry 16), and the bits that 12.5 does not show read 0, as the introduction of chapter 12 says (R122, R144, R171, R183). First the numbers
of 12.3 for the slot state, the reclaim phase, the reclaim cause and the cut reason. -/
def Obligations.SnapshotLayouts : Prop :=
  ([SlotState.empty, .disabled, .locked, .admitting, .settling, .listening, .active, .cutting].map slotStateCode
      = [0, 1, 2, 3, 4, 5, 6, 7]
    ∧ [ReclaimPhase.reclaiming, .pacePending, .paced].map phaseCode = [1, 2, 3]
    ∧ [ReclaimCause.shed, .lapse, .host, .cap].map causeCode = [1, 2, 3, 4]
    ∧ [CutReason.removed, .fault, .silent, .helloTimeout, .host, .shed, .restart].map cutReasonCode = [1, 2, 3, 4, 5, 6, 7])
  ∧ ∀ (s t : State) (index : Half), BlockInv s →
    (exec (.slotRecordSnapshot index) s = .next t → ∀ i : SlotId, s.tableSel.toNat = 0 → index.toNat = i.val →
      ((t.read 0x28).extractLsb' 0 3).toNat = slotStateCode (s.slot i).state
      ∧ (t.read 0x28).getLsbD 3 = (s.slot i).enabled
      ∧ ((t.read 0x28).extractLsb' 4 2).toNat = ((s.slot i).reclaim.map (fun r => phaseCode r.phase)).getD 0
      ∧ (t.read 0x28).getLsbD 6 = (s.slot i).reclaim.any Reclaim.liftPending ∧ (t.read 0x28).getLsbD 7 = (s.slot i).destEmpty
      ∧ ((t.read 0x28).extractLsb' 8 4).toNat = ((s.slot i).cutReason.map cutReasonCode).getD 0
      ∧ (t.read 0x29).toNat = (s.slot i).charge
      ∧ ((t.read 0x2A).extractLsb' 0 8).toNat = ((s.slot i).card.map Card.held).getD 255
      ∧ ((t.read 0x2A).extractLsb' 8 8).toNat = ((s.slot i).reclaim.map Reclaim.target).getD 255
      ∧ (t.read 0x2B).toNat = ((s.slot i).reclaim.map (fun r => causeCode r.cause)).getD 0
      ∧ ((t.read 0x2C).extractLsb' 0 8).toNat = (s.slot i).curWidth.getD 255
      ∧ ((t.read 0x2C).extractLsb' 8 8).toNat = (s.slot i).pendWidth.getD 255
      ∧ (t.read 0x28).extractLsb' 12 4 = 0 ∧ t.read 0x2D = 0 ∧ t.read 0x2E = 0 ∧ t.read 0x2F = 0)
    ∧ (exec (.slotRecordSnapshot index) s = .next t → ∀ i : SlotId, s.tableSel.toNat = 0 → index.toNat = i.val + 8 →
        ((t.read 0x28).extractLsb' 0 8).toNat = (s.slot i).cfg.cls
        ∧ ((t.read 0x28).extractLsb' 8 8).toNat = (s.slot i).cfg.floorOverride.getD 255 ∧ (t.read 0x29).toNat = (s.slot i).cfg.cap
        ∧ ((t.read 0x2A).extractLsb' 0 8).toNat = (s.slot i).cfg.admission
        ∧ ((t.read 0x2A).extractLsb' 8 8).toNat = (s.slot i).cfg.lease
        ∧ ((t.read 0x2B).extractLsb' 0 8).toNat = (s.slot i).cfg.settle
        ∧ ((t.read 0x2B).extractLsb' 8 8).toNat = (s.slot i).cfg.discharge
        ∧ ((t.read 0x2C).extractLsb' 0 8).toNat = (s.slot i).cfg.helloTimeout
        ∧ ((t.read 0x2C).extractLsb' 8 8).toNat = (s.slot i).cfg.replyWindow
        ∧ ((t.read 0x2D).extractLsb' 0 8).toNat = (s.slot i).cfg.reclaimWindow
        ∧ ((t.read 0x2D).extractLsb' 8 8).toNat = ((s.slot i).card.map Card.effFloor).getD 255
        ∧ t.read 0x2E = 0 ∧ t.read 0x2F = 0)
    ∧ (exec (.stepTableSnapshot index) s = .next t →
        ∀ (i : SlotId) (c : Card), s.tableSel.toNat = 1 → index.toNat = i.val → (s.slot i).card = some c →
        ((t.read 0x28).extractLsb' 12 3).toNat = c.count ∧ ((t.read 0x29).extractLsb' 12 3).toNat = c.declaredFloor
        ∧ ((t.read 0x2A).extractLsb' 12 3).toNat = c.effFloor ∧ ((t.read 0x2B).extractLsb' 12 3).toNat = c.usableTop
        ∧ (∀ k : Fin 6, ((t.tableData[k.val]).extractLsb' 0 12).toNat = min (c.draw k.val) 4095)
        ∧ t.read 0x2F ++ t.read 0x2E = c.cardId
        ∧ (∀ k : Fin 6, (t.tableData[k.val]).getLsbD 15 = false)
        ∧ (t.read 0x2C).extractLsb' 12 4 = 0 ∧ (t.read 0x2D).extractLsb' 12 4 = 0)
    ∧ (exec (.waitEntrySnapshot index) s = .next t →
        ∀ e : WaitEntry, s.tableSel.toNat = 2 → 1 ≤ index.toNat → s.waitList[index.toNat - 1]? = some e →
        ((t.read 0x28).extractLsb' 0 4).toNat = e.slot.val ∧ (t.read 0x28).getLsbD 4 = decide (e.kind ≠ .admission)
        ∧ ((t.read 0x28).extractLsb' 5 2).toNat = e.cls ∧ (t.read 0x28).getLsbD 8 = e.anchored
        ∧ (t.read 0x28).getLsbD 9 = e.beneficiary ∧ (t.read 0x2B).toNat = e.overtaken
        ∧ (∀ asked floor, e.kind = .step asked floor → (t.read 0x29).toNat = asked ∧ (t.read 0x2A).toNat = floor)
        ∧ (e.kind = .admission → t.read 0x29 = 0 ∧ t.read 0x2A = 0)
        ∧ (t.read 0x28).getLsbD 7 = false ∧ (t.read 0x28).extractLsb' 10 6 = 0
        ∧ t.read 0x2C = 0 ∧ t.read 0x2D = 0 ∧ t.read 0x2E = 0 ∧ t.read 0x2F = 0)
    ∧ (exec (.episodeRecordSnapshot index) s = .next t → s.tableSel.toNat = 3 → index = 0 →
        (t.read 0x28).toNat = (match s.episode.kind with
          | .none => 0
          | .preempt => 1
          | .overdraft => 2)
        ∧ (t.read 0x29).toNat = (s.episode.beneficiary.map Fin.val).getD 15 ∧ (t.read 0x2A).toNat = s.episode.target
        ∧ (t.read 0x2B).toNat = s.episode.expected ∧ ((t.read 0x2C).extractLsb' 0 8).toNat = s.episode.victims.length
        ∧ ((t.read 0x2C).extractLsb' 8 8).toNat = s.episode.cuts.length ∧ (t.read 0x2D).toNat = (if s.policy.mode = .fit then 0 else 1)
        ∧ (t.read 0x2E).toNat = s.policy.limit ∧ (t.read 0x2F).toNat = (if s.policy.preempt then 1 else 0))
end

