-- ==== Sys2Proof/Laws/State.lean ====
section
/-! SUPPORT. What each record update of Machine/Ops.lean leaves in each field, for simp. -/

namespace Sys2Proof.Machine

variable (s : State)

/-! modSlot -/

@[simp] theorem State.modSlot_tickDivider (i : SlotId) (f : Slot → Slot) : (s.modSlot i f).tickDivider = s.tickDivider := rfl
@[simp] theorem State.modSlot_frameCounter (i : SlotId) (f : Slot → Slot) : (s.modSlot i f).frameCounter = s.frameCounter := rfl
@[simp] theorem State.modSlot_profiles (i : SlotId) (f : Slot → Slot) : (s.modSlot i f).profiles = s.profiles := rfl
@[simp] theorem State.modSlot_src (i : SlotId) (f : Slot → Slot) : (s.modSlot i f).src = s.src := rfl
@[simp] theorem State.modSlot_capacity (i : SlotId) (f : Slot → Slot) : (s.modSlot i f).capacity = s.capacity := rfl
@[simp] theorem State.modSlot_reserve (i : SlotId) (f : Slot → Slot) : (s.modSlot i f).reserve = s.reserve := rfl
@[simp] theorem State.modSlot_policy (i : SlotId) (f : Slot → Slot) : (s.modSlot i f).policy = s.policy := rfl
@[simp] theorem State.modSlot_waitList (i : SlotId) (f : Slot → Slot) : (s.modSlot i f).waitList = s.waitList := rfl
@[simp] theorem State.modSlot_recency (i : SlotId) (f : Slot → Slot) : (s.modSlot i f).recency = s.recency := rfl
@[simp] theorem State.modSlot_episode (i : SlotId) (f : Slot → Slot) : (s.modSlot i f).episode = s.episode := rfl
theorem State.modSlot_slots (i : SlotId) (f : Slot → Slot) : (s.modSlot i f).slots = s.slots.set i (f s.slots[i]) := rfl
@[simp] theorem State.modSlot_reports (i : SlotId) (f : Slot → Slot) : (s.modSlot i f).reports = s.reports := rfl
@[simp] theorem State.modSlot_cmdQueue (i : SlotId) (f : Slot → Slot) : (s.modSlot i f).cmdQueue = s.cmdQueue := rfl
@[simp] theorem State.modSlot_cmdP0 (i : SlotId) (f : Slot → Slot) : (s.modSlot i f).cmdP0 = s.cmdP0 := rfl
@[simp] theorem State.modSlot_cmdP1 (i : SlotId) (f : Slot → Slot) : (s.modSlot i f).cmdP1 = s.cmdP1 := rfl
@[simp] theorem State.modSlot_cmdP2 (i : SlotId) (f : Slot → Slot) : (s.modSlot i f).cmdP2 = s.cmdP2 := rfl
@[simp] theorem State.modSlot_gapSeen (i : SlotId) (f : Slot → Slot) : (s.modSlot i f).gapSeen = s.gapSeen := rfl
@[simp] theorem State.modSlot_cmdOverrun (i : SlotId) (f : Slot → Slot) : (s.modSlot i f).cmdOverrun = s.cmdOverrun := rfl
@[simp] theorem State.modSlot_capacityChanged (i : SlotId) (f : Slot → Slot) : (s.modSlot i f).capacityChanged = s.capacityChanged := rfl
@[simp] theorem State.modSlot_irqEnable (i : SlotId) (f : Slot → Slot) : (s.modSlot i f).irqEnable = s.irqEnable := rfl
@[simp] theorem State.modSlot_tableSel (i : SlotId) (f : Slot → Slot) : (s.modSlot i f).tableSel = s.tableSel := rfl
@[simp] theorem State.modSlot_tableIndex (i : SlotId) (f : Slot → Slot) : (s.modSlot i f).tableIndex = s.tableIndex := rfl
@[simp] theorem State.modSlot_tableData (i : SlotId) (f : Slot → Slot) : (s.modSlot i f).tableData = s.tableData := rfl
@[simp] theorem State.modSlot_pending (i : SlotId) (f : Slot → Slot) : (s.modSlot i f).pending = s.pending := rfl

/-! setWait -/

@[simp] theorem State.setWait_tickDivider (l : List WaitEntry) : (s.setWait l).tickDivider = s.tickDivider := rfl
@[simp] theorem State.setWait_frameCounter (l : List WaitEntry) : (s.setWait l).frameCounter = s.frameCounter := rfl
@[simp] theorem State.setWait_profiles (l : List WaitEntry) : (s.setWait l).profiles = s.profiles := rfl
@[simp] theorem State.setWait_src (l : List WaitEntry) : (s.setWait l).src = s.src := rfl
@[simp] theorem State.setWait_capacity (l : List WaitEntry) : (s.setWait l).capacity = s.capacity := rfl
@[simp] theorem State.setWait_reserve (l : List WaitEntry) : (s.setWait l).reserve = s.reserve := rfl
@[simp] theorem State.setWait_policy (l : List WaitEntry) : (s.setWait l).policy = s.policy := rfl
@[simp] theorem State.setWait_waitList (l : List WaitEntry) : (s.setWait l).waitList = l := rfl
@[simp] theorem State.setWait_recency (l : List WaitEntry) : (s.setWait l).recency = s.recency := rfl
@[simp] theorem State.setWait_episode (l : List WaitEntry) : (s.setWait l).episode = s.episode := rfl
@[simp] theorem State.setWait_slots (l : List WaitEntry) : (s.setWait l).slots = s.slots := rfl
@[simp] theorem State.setWait_reports (l : List WaitEntry) : (s.setWait l).reports = s.reports := rfl
@[simp] theorem State.setWait_cmdQueue (l : List WaitEntry) : (s.setWait l).cmdQueue = s.cmdQueue := rfl
@[simp] theorem State.setWait_cmdP0 (l : List WaitEntry) : (s.setWait l).cmdP0 = s.cmdP0 := rfl
@[simp] theorem State.setWait_cmdP1 (l : List WaitEntry) : (s.setWait l).cmdP1 = s.cmdP1 := rfl
@[simp] theorem State.setWait_cmdP2 (l : List WaitEntry) : (s.setWait l).cmdP2 = s.cmdP2 := rfl
@[simp] theorem State.setWait_gapSeen (l : List WaitEntry) : (s.setWait l).gapSeen = s.gapSeen := rfl
@[simp] theorem State.setWait_cmdOverrun (l : List WaitEntry) : (s.setWait l).cmdOverrun = s.cmdOverrun := rfl
@[simp] theorem State.setWait_capacityChanged (l : List WaitEntry) : (s.setWait l).capacityChanged = s.capacityChanged := rfl
@[simp] theorem State.setWait_irqEnable (l : List WaitEntry) : (s.setWait l).irqEnable = s.irqEnable := rfl
@[simp] theorem State.setWait_tableSel (l : List WaitEntry) : (s.setWait l).tableSel = s.tableSel := rfl
@[simp] theorem State.setWait_tableIndex (l : List WaitEntry) : (s.setWait l).tableIndex = s.tableIndex := rfl
@[simp] theorem State.setWait_tableData (l : List WaitEntry) : (s.setWait l).tableData = s.tableData := rfl
@[simp] theorem State.setWait_pending (l : List WaitEntry) : (s.setWait l).pending = s.pending := rfl

/-! setEpisode -/

@[simp] theorem State.setEpisode_tickDivider (e : Episode) : (s.setEpisode e).tickDivider = s.tickDivider := rfl
@[simp] theorem State.setEpisode_frameCounter (e : Episode) : (s.setEpisode e).frameCounter = s.frameCounter := rfl
@[simp] theorem State.setEpisode_profiles (e : Episode) : (s.setEpisode e).profiles = s.profiles := rfl
@[simp] theorem State.setEpisode_src (e : Episode) : (s.setEpisode e).src = s.src := rfl
@[simp] theorem State.setEpisode_capacity (e : Episode) : (s.setEpisode e).capacity = s.capacity := rfl
@[simp] theorem State.setEpisode_reserve (e : Episode) : (s.setEpisode e).reserve = s.reserve := rfl
@[simp] theorem State.setEpisode_policy (e : Episode) : (s.setEpisode e).policy = s.policy := rfl
@[simp] theorem State.setEpisode_waitList (e : Episode) : (s.setEpisode e).waitList = s.waitList := rfl
@[simp] theorem State.setEpisode_recency (e : Episode) : (s.setEpisode e).recency = s.recency := rfl
@[simp] theorem State.setEpisode_episode (e : Episode) : (s.setEpisode e).episode = e := rfl
@[simp] theorem State.setEpisode_slots (e : Episode) : (s.setEpisode e).slots = s.slots := rfl
@[simp] theorem State.setEpisode_reports (e : Episode) : (s.setEpisode e).reports = s.reports := rfl
@[simp] theorem State.setEpisode_cmdQueue (e : Episode) : (s.setEpisode e).cmdQueue = s.cmdQueue := rfl
@[simp] theorem State.setEpisode_cmdP0 (e : Episode) : (s.setEpisode e).cmdP0 = s.cmdP0 := rfl
@[simp] theorem State.setEpisode_cmdP1 (e : Episode) : (s.setEpisode e).cmdP1 = s.cmdP1 := rfl
@[simp] theorem State.setEpisode_cmdP2 (e : Episode) : (s.setEpisode e).cmdP2 = s.cmdP2 := rfl
@[simp] theorem State.setEpisode_gapSeen (e : Episode) : (s.setEpisode e).gapSeen = s.gapSeen := rfl
@[simp] theorem State.setEpisode_cmdOverrun (e : Episode) : (s.setEpisode e).cmdOverrun = s.cmdOverrun := rfl
@[simp] theorem State.setEpisode_capacityChanged (e : Episode) : (s.setEpisode e).capacityChanged = s.capacityChanged := rfl
@[simp] theorem State.setEpisode_irqEnable (e : Episode) : (s.setEpisode e).irqEnable = s.irqEnable := rfl
@[simp] theorem State.setEpisode_tableSel (e : Episode) : (s.setEpisode e).tableSel = s.tableSel := rfl
@[simp] theorem State.setEpisode_tableIndex (e : Episode) : (s.setEpisode e).tableIndex = s.tableIndex := rfl
@[simp] theorem State.setEpisode_tableData (e : Episode) : (s.setEpisode e).tableData = s.tableData := rfl
@[simp] theorem State.setEpisode_pending (e : Episode) : (s.setEpisode e).pending = s.pending := rfl

/-! setRecency -/

@[simp] theorem State.setRecency_tickDivider (l : List SlotId) : (s.setRecency l).tickDivider = s.tickDivider := rfl
@[simp] theorem State.setRecency_frameCounter (l : List SlotId) : (s.setRecency l).frameCounter = s.frameCounter := rfl
@[simp] theorem State.setRecency_profiles (l : List SlotId) : (s.setRecency l).profiles = s.profiles := rfl
@[simp] theorem State.setRecency_src (l : List SlotId) : (s.setRecency l).src = s.src := rfl
@[simp] theorem State.setRecency_capacity (l : List SlotId) : (s.setRecency l).capacity = s.capacity := rfl
@[simp] theorem State.setRecency_reserve (l : List SlotId) : (s.setRecency l).reserve = s.reserve := rfl
@[simp] theorem State.setRecency_policy (l : List SlotId) : (s.setRecency l).policy = s.policy := rfl
@[simp] theorem State.setRecency_waitList (l : List SlotId) : (s.setRecency l).waitList = s.waitList := rfl
@[simp] theorem State.setRecency_recency (l : List SlotId) : (s.setRecency l).recency = l := rfl
@[simp] theorem State.setRecency_episode (l : List SlotId) : (s.setRecency l).episode = s.episode := rfl
@[simp] theorem State.setRecency_slots (l : List SlotId) : (s.setRecency l).slots = s.slots := rfl
@[simp] theorem State.setRecency_reports (l : List SlotId) : (s.setRecency l).reports = s.reports := rfl
@[simp] theorem State.setRecency_cmdQueue (l : List SlotId) : (s.setRecency l).cmdQueue = s.cmdQueue := rfl
@[simp] theorem State.setRecency_cmdP0 (l : List SlotId) : (s.setRecency l).cmdP0 = s.cmdP0 := rfl
@[simp] theorem State.setRecency_cmdP1 (l : List SlotId) : (s.setRecency l).cmdP1 = s.cmdP1 := rfl
@[simp] theorem State.setRecency_cmdP2 (l : List SlotId) : (s.setRecency l).cmdP2 = s.cmdP2 := rfl
@[simp] theorem State.setRecency_gapSeen (l : List SlotId) : (s.setRecency l).gapSeen = s.gapSeen := rfl
@[simp] theorem State.setRecency_cmdOverrun (l : List SlotId) : (s.setRecency l).cmdOverrun = s.cmdOverrun := rfl
@[simp] theorem State.setRecency_capacityChanged (l : List SlotId) : (s.setRecency l).capacityChanged = s.capacityChanged := rfl
@[simp] theorem State.setRecency_irqEnable (l : List SlotId) : (s.setRecency l).irqEnable = s.irqEnable := rfl
@[simp] theorem State.setRecency_tableSel (l : List SlotId) : (s.setRecency l).tableSel = s.tableSel := rfl
@[simp] theorem State.setRecency_tableIndex (l : List SlotId) : (s.setRecency l).tableIndex = s.tableIndex := rfl
@[simp] theorem State.setRecency_tableData (l : List SlotId) : (s.setRecency l).tableData = s.tableData := rfl
@[simp] theorem State.setRecency_pending (l : List SlotId) : (s.setRecency l).pending = s.pending := rfl

/-! setReports -/

@[simp] theorem State.setReports_tickDivider (q : List Report) : (s.setReports q).tickDivider = s.tickDivider := rfl
@[simp] theorem State.setReports_frameCounter (q : List Report) : (s.setReports q).frameCounter = s.frameCounter := rfl
@[simp] theorem State.setReports_profiles (q : List Report) : (s.setReports q).profiles = s.profiles := rfl
@[simp] theorem State.setReports_src (q : List Report) : (s.setReports q).src = s.src := rfl
@[simp] theorem State.setReports_capacity (q : List Report) : (s.setReports q).capacity = s.capacity := rfl
@[simp] theorem State.setReports_reserve (q : List Report) : (s.setReports q).reserve = s.reserve := rfl
@[simp] theorem State.setReports_policy (q : List Report) : (s.setReports q).policy = s.policy := rfl
@[simp] theorem State.setReports_waitList (q : List Report) : (s.setReports q).waitList = s.waitList := rfl
@[simp] theorem State.setReports_recency (q : List Report) : (s.setReports q).recency = s.recency := rfl
@[simp] theorem State.setReports_episode (q : List Report) : (s.setReports q).episode = s.episode := rfl
@[simp] theorem State.setReports_slots (q : List Report) : (s.setReports q).slots = s.slots := rfl
@[simp] theorem State.setReports_reports (q : List Report) : (s.setReports q).reports = q := rfl
@[simp] theorem State.setReports_cmdQueue (q : List Report) : (s.setReports q).cmdQueue = s.cmdQueue := rfl
@[simp] theorem State.setReports_cmdP0 (q : List Report) : (s.setReports q).cmdP0 = s.cmdP0 := rfl
@[simp] theorem State.setReports_cmdP1 (q : List Report) : (s.setReports q).cmdP1 = s.cmdP1 := rfl
@[simp] theorem State.setReports_cmdP2 (q : List Report) : (s.setReports q).cmdP2 = s.cmdP2 := rfl
@[simp] theorem State.setReports_gapSeen (q : List Report) : (s.setReports q).gapSeen = s.gapSeen := rfl
@[simp] theorem State.setReports_cmdOverrun (q : List Report) : (s.setReports q).cmdOverrun = s.cmdOverrun := rfl
@[simp] theorem State.setReports_capacityChanged (q : List Report) : (s.setReports q).capacityChanged = s.capacityChanged := rfl
@[simp] theorem State.setReports_irqEnable (q : List Report) : (s.setReports q).irqEnable = s.irqEnable := rfl
@[simp] theorem State.setReports_tableSel (q : List Report) : (s.setReports q).tableSel = s.tableSel := rfl
@[simp] theorem State.setReports_tableIndex (q : List Report) : (s.setReports q).tableIndex = s.tableIndex := rfl
@[simp] theorem State.setReports_tableData (q : List Report) : (s.setReports q).tableData = s.tableData := rfl
@[simp] theorem State.setReports_pending (q : List Report) : (s.setReports q).pending = s.pending := rfl

/-! Reading a slot. -/

@[simp] theorem State.setWait_slot (l : List WaitEntry) (j : SlotId) : (s.setWait l).slot j = s.slot j := rfl
@[simp] theorem State.setEpisode_slot (e : Episode) (j : SlotId) : (s.setEpisode e).slot j = s.slot j := rfl
@[simp] theorem State.setRecency_slot (l : List SlotId) (j : SlotId) : (s.setRecency l).slot j = s.slot j := rfl
@[simp] theorem State.setReports_slot (q : List Report) (j : SlotId) : (s.setReports q).slot j = s.slot j := rfl

/-- A changed slot reads as changed and every other slot as before. -/
theorem State.modSlot_slot (i j : SlotId) (f : Slot → Slot) :
    (s.modSlot i f).slot j = if j = i then f (s.slot i) else s.slot j := by
  by_cases h : j = i
  · subst h; simp [State.slot, State.modSlot]
  · have : i.val ≠ j.val := fun e => h (Fin.ext e.symm)
    simp [State.slot, State.modSlot, h, this]

@[simp] theorem State.modSlot_slot_same (i : SlotId) (f : Slot → Slot) : (s.modSlot i f).slot i = f (s.slot i) := by
  simp [State.modSlot_slot]

theorem State.modSlot_slot_other {i j : SlotId} (f : Slot → Slot) (h : j ≠ i) : (s.modSlot i f).slot j = s.slot j := by
  simp [State.modSlot_slot, h]

/-- Two changes of one slot are one change. -/
@[simp] theorem State.modSlot_modSlot (i : SlotId) (f g : Slot → Slot) :
    (s.modSlot i f).modSlot i g = s.modSlot i (fun t => g (f t)) := by
  simp [State.modSlot]

/-- Changes of slots and of the other parts commute. -/
theorem State.setReports_modSlot (i : SlotId) (f : Slot → Slot) (q : List Report) :
    (s.setReports q).modSlot i f = (s.modSlot i f).setReports q := rfl

theorem State.setWait_modSlot (i : SlotId) (f : Slot → Slot) (l : List WaitEntry) :
    (s.setWait l).modSlot i f = (s.modSlot i f).setWait l := rfl

theorem State.setEpisode_modSlot (i : SlotId) (f : Slot → Slot) (e : Episode) :
    (s.setEpisode e).modSlot i f = (s.modSlot i f).setEpisode e := rfl

@[simp] theorem State.setWait_setWait (l m : List WaitEntry) : (s.setWait l).setWait m = s.setWait m := rfl
@[simp] theorem State.setEpisode_setEpisode (e f : Episode) : (s.setEpisode e).setEpisode f = s.setEpisode f := rfl
@[simp] theorem State.setRecency_setRecency (l m : List SlotId) : (s.setRecency l).setRecency m = s.setRecency m := rfl
@[simp] theorem State.setReports_setReports (p q : List Report) : (s.setReports p).setReports q = s.setReports q := rfl
@[simp] theorem State.setWait_self : s.setWait s.waitList = s := rfl
@[simp] theorem State.setEpisode_self : s.setEpisode s.episode = s := rfl
@[simp] theorem State.setRecency_self : s.setRecency s.recency = s := rfl
@[simp] theorem State.setReports_self : s.setReports s.reports = s := rfl

/-- Two states with the same slots and the same other fields are equal. -/
theorem State.slots_ext {u v : Vector Slot 8} (h : ∀ j : SlotId, u[j] = v[j]) : u = v := by
  apply Vector.ext
  intro k hk
  exact h ⟨k, hk⟩

/-! The report queue. -/

@[simp] theorem State.append_tickDivider (r : Report) : (s.append r).tickDivider = s.tickDivider := by unfold State.append; split <;> [rfl; (split <;> rfl)]
@[simp] theorem State.append_frameCounter (r : Report) : (s.append r).frameCounter = s.frameCounter := by unfold State.append; split <;> [rfl; (split <;> rfl)]
@[simp] theorem State.append_profiles (r : Report) : (s.append r).profiles = s.profiles := by unfold State.append; split <;> [rfl; (split <;> rfl)]
@[simp] theorem State.append_src (r : Report) : (s.append r).src = s.src := by unfold State.append; split <;> [rfl; (split <;> rfl)]
@[simp] theorem State.append_capacity (r : Report) : (s.append r).capacity = s.capacity := by unfold State.append; split <;> [rfl; (split <;> rfl)]
@[simp] theorem State.append_reserve (r : Report) : (s.append r).reserve = s.reserve := by unfold State.append; split <;> [rfl; (split <;> rfl)]
@[simp] theorem State.append_policy (r : Report) : (s.append r).policy = s.policy := by unfold State.append; split <;> [rfl; (split <;> rfl)]
@[simp] theorem State.append_waitList (r : Report) : (s.append r).waitList = s.waitList := by unfold State.append; split <;> [rfl; (split <;> rfl)]
@[simp] theorem State.append_recency (r : Report) : (s.append r).recency = s.recency := by unfold State.append; split <;> [rfl; (split <;> rfl)]
@[simp] theorem State.append_episode (r : Report) : (s.append r).episode = s.episode := by unfold State.append; split <;> [rfl; (split <;> rfl)]
@[simp] theorem State.append_slots (r : Report) : (s.append r).slots = s.slots := by unfold State.append; split <;> [rfl; (split <;> rfl)]
@[simp] theorem State.append_cmdQueue (r : Report) : (s.append r).cmdQueue = s.cmdQueue := by unfold State.append; split <;> [rfl; (split <;> rfl)]
@[simp] theorem State.append_cmdP0 (r : Report) : (s.append r).cmdP0 = s.cmdP0 := by unfold State.append; split <;> [rfl; (split <;> rfl)]
@[simp] theorem State.append_cmdP1 (r : Report) : (s.append r).cmdP1 = s.cmdP1 := by unfold State.append; split <;> [rfl; (split <;> rfl)]
@[simp] theorem State.append_cmdP2 (r : Report) : (s.append r).cmdP2 = s.cmdP2 := by unfold State.append; split <;> [rfl; (split <;> rfl)]
@[simp] theorem State.append_cmdOverrun (r : Report) : (s.append r).cmdOverrun = s.cmdOverrun := by unfold State.append; split <;> [rfl; (split <;> rfl)]
@[simp] theorem State.append_capacityChanged (r : Report) : (s.append r).capacityChanged = s.capacityChanged := by unfold State.append; split <;> [rfl; (split <;> rfl)]
@[simp] theorem State.append_irqEnable (r : Report) : (s.append r).irqEnable = s.irqEnable := by unfold State.append; split <;> [rfl; (split <;> rfl)]
@[simp] theorem State.append_tableSel (r : Report) : (s.append r).tableSel = s.tableSel := by unfold State.append; split <;> [rfl; (split <;> rfl)]
@[simp] theorem State.append_tableIndex (r : Report) : (s.append r).tableIndex = s.tableIndex := by unfold State.append; split <;> [rfl; (split <;> rfl)]
@[simp] theorem State.append_tableData (r : Report) : (s.append r).tableData = s.tableData := by unfold State.append; split <;> [rfl; (split <;> rfl)]
@[simp] theorem State.append_pending (r : Report) : (s.append r).pending = s.pending := by unfold State.append; split <;> [rfl; (split <;> rfl)]

@[simp] theorem State.append_slot (r : Report) (j : SlotId) : (s.append r).slot j = s.slot j := by simp [State.slot]
@[simp] theorem State.report_tickDivider (k : ReportKind) (i : SlotId) (a b c : Nat) : (s.report k i a b c).tickDivider = s.tickDivider := by simp [State.report]
@[simp] theorem State.report_frameCounter (k : ReportKind) (i : SlotId) (a b c : Nat) : (s.report k i a b c).frameCounter = s.frameCounter := by simp [State.report]
@[simp] theorem State.report_profiles (k : ReportKind) (i : SlotId) (a b c : Nat) : (s.report k i a b c).profiles = s.profiles := by simp [State.report]
@[simp] theorem State.report_src (k : ReportKind) (i : SlotId) (a b c : Nat) : (s.report k i a b c).src = s.src := by simp [State.report]
@[simp] theorem State.report_capacity (k : ReportKind) (i : SlotId) (a b c : Nat) : (s.report k i a b c).capacity = s.capacity := by simp [State.report]
@[simp] theorem State.report_reserve (k : ReportKind) (i : SlotId) (a b c : Nat) : (s.report k i a b c).reserve = s.reserve := by simp [State.report]
@[simp] theorem State.report_policy (k : ReportKind) (i : SlotId) (a b c : Nat) : (s.report k i a b c).policy = s.policy := by simp [State.report]
@[simp] theorem State.report_waitList (k : ReportKind) (i : SlotId) (a b c : Nat) : (s.report k i a b c).waitList = s.waitList := by simp [State.report]
@[simp] theorem State.report_recency (k : ReportKind) (i : SlotId) (a b c : Nat) : (s.report k i a b c).recency = s.recency := by simp [State.report]
@[simp] theorem State.report_episode (k : ReportKind) (i : SlotId) (a b c : Nat) : (s.report k i a b c).episode = s.episode := by simp [State.report]
@[simp] theorem State.report_slots (k : ReportKind) (i : SlotId) (a b c : Nat) : (s.report k i a b c).slots = s.slots := by simp [State.report]
@[simp] theorem State.report_cmdQueue (k : ReportKind) (i : SlotId) (a b c : Nat) : (s.report k i a b c).cmdQueue = s.cmdQueue := by simp [State.report]
@[simp] theorem State.report_cmdP0 (k : ReportKind) (i : SlotId) (a b c : Nat) : (s.report k i a b c).cmdP0 = s.cmdP0 := by simp [State.report]
@[simp] theorem State.report_cmdP1 (k : ReportKind) (i : SlotId) (a b c : Nat) : (s.report k i a b c).cmdP1 = s.cmdP1 := by simp [State.report]
@[simp] theorem State.report_cmdP2 (k : ReportKind) (i : SlotId) (a b c : Nat) : (s.report k i a b c).cmdP2 = s.cmdP2 := by simp [State.report]
@[simp] theorem State.report_cmdOverrun (k : ReportKind) (i : SlotId) (a b c : Nat) : (s.report k i a b c).cmdOverrun = s.cmdOverrun := by simp [State.report]
@[simp] theorem State.report_capacityChanged (k : ReportKind) (i : SlotId) (a b c : Nat) : (s.report k i a b c).capacityChanged = s.capacityChanged := by simp [State.report]
@[simp] theorem State.report_irqEnable (k : ReportKind) (i : SlotId) (a b c : Nat) : (s.report k i a b c).irqEnable = s.irqEnable := by simp [State.report]
@[simp] theorem State.report_tableSel (k : ReportKind) (i : SlotId) (a b c : Nat) : (s.report k i a b c).tableSel = s.tableSel := by simp [State.report]
@[simp] theorem State.report_tableIndex (k : ReportKind) (i : SlotId) (a b c : Nat) : (s.report k i a b c).tableIndex = s.tableIndex := by simp [State.report]
@[simp] theorem State.report_tableData (k : ReportKind) (i : SlotId) (a b c : Nat) : (s.report k i a b c).tableData = s.tableData := by simp [State.report]
@[simp] theorem State.report_pending (k : ReportKind) (i : SlotId) (a b c : Nat) : (s.report k i a b c).pending = s.pending := by simp [State.report]
@[simp] theorem State.report_slot (k : ReportKind) (i : SlotId) (a b c : Nat) (j : SlotId) : (s.report k i a b c).slot j = s.slot j := by simp [State.report]

/-! The account. -/

@[simp] theorem State.available_modSlot (i : SlotId) (f : Slot → Slot) : (s.modSlot i f).available = s.available := rfl
@[simp] theorem State.available_append (r : Report) : (s.append r).available = s.available := by simp [State.available]
@[simp] theorem State.available_report (k : ReportKind) (i : SlotId) (a b c : Nat) : (s.report k i a b c).available = s.available := by
  simp [State.available]
@[simp] theorem State.committed_append (r : Report) : (s.append r).committed = s.committed := by simp [State.committed]
@[simp] theorem State.committed_report (k : ReportKind) (i : SlotId) (a b c : Nat) : (s.report k i a b c).committed = s.committed := by
  simp [State.committed]
@[simp] theorem State.committed_setWait (l : List WaitEntry) : (s.setWait l).committed = s.committed := rfl
@[simp] theorem State.committed_setEpisode (e : Episode) : (s.setEpisode e).committed = s.committed := rfl
@[simp] theorem State.committed_setRecency (l : List SlotId) : (s.setRecency l).committed = s.committed := rfl
@[simp] theorem State.available_setWait (l : List WaitEntry) : (s.setWait l).available = s.available := rfl
@[simp] theorem State.available_setEpisode (e : Episode) : (s.setEpisode e).available = s.available := rfl
@[simp] theorem State.available_setRecency (l : List SlotId) : (s.setRecency l).available = s.available := rfl

/-- K is the sum over the slots. -/
theorem State.committed_eq_sum : s.committed = ∑ j : SlotId, (s.slot j).charge := by
  have h : s.slots.toList = (List.finRange 8).map (fun j => s.slots[j]) := by
    apply List.ext_getElem
    · simp
    · intro n h1 h2
      simp
  simp only [State.committed, h, List.map_map, Fin.sum_univ_def]
  rfl

/-- A change of one slot moves K by the change of its charge. -/
theorem State.committed_modSlot (i : SlotId) (f : Slot → Slot) :
    (s.modSlot i f).committed + (s.slot i).charge = s.committed + (f (s.slot i)).charge := by
  simp only [State.committed_eq_sum]
  rw [← Finset.add_sum_erase _ _ (Finset.mem_univ i), ← Finset.add_sum_erase (a := i) Finset.univ (fun j => (s.slot j).charge) (Finset.mem_univ i)]
  have : ∑ j ∈ Finset.univ.erase i, ((s.modSlot i f).slot j).charge = ∑ j ∈ Finset.univ.erase i, (s.slot j).charge := by
    apply Finset.sum_congr rfl
    intro j hj
    rw [s.modSlot_slot_other f (Finset.ne_of_mem_erase hj)]
  rw [this, State.modSlot_slot_same]
  omega

end Sys2Proof.Machine
end

