-- ==== Sys2Proof/Laws/Rest.lean ====
section
/-! SUPPORT. What the shared operations leave alone: everything but the slots, the wait list, the recency list, the episode record, the
report queue and GAP_SEEN. -/

namespace Sys2Proof.Machine

/-- The part of the state that events of slots, links and the Arbiter do not write. -/
def State.rest (s : State) : State :=
  { s with
    slots := State.reset.slots, waitList := [], recency := [], episode := Episode.closed, reports := [], gapSeen := false }

variable (s : State)

@[simp] theorem State.rest_modSlot (i : SlotId) (f : Slot → Slot) : (s.modSlot i f).rest = s.rest := rfl
@[simp] theorem State.rest_setWait (l : List WaitEntry) : (s.setWait l).rest = s.rest := rfl
@[simp] theorem State.rest_setEpisode (e : Episode) : (s.setEpisode e).rest = s.rest := rfl
@[simp] theorem State.rest_setRecency (l : List SlotId) : (s.setRecency l).rest = s.rest := rfl
@[simp] theorem State.rest_setReports (q : List Report) : (s.setReports q).rest = s.rest := rfl
@[simp] theorem State.rest_modLink (i : SlotId) (f : Link → Link) : (s.modLink i f).rest = s.rest := rfl
@[simp] theorem State.rest_setCharge (i : SlotId) (n : Nat) : (s.setCharge i n).rest = s.rest := rfl
@[simp] theorem State.rest_driveRun (i : SlotId) : (s.driveRun i).rest = s.rest := rfl

@[simp] theorem State.rest_append (r : Report) : (s.append r).rest = s.rest := by
  unfold State.append
  split
  · rfl
  · split <;> rfl

@[simp] theorem State.rest_report (k : ReportKind) (i : SlotId) (a b c : Nat) : (s.report k i a b c).rest = s.rest := by
  simp [State.report]

@[simp] theorem State.rest_notice (i : SlotId) (k : NoticeKind) (v : Nat) : (s.notice i k v).rest = s.rest := rfl
@[simp] theorem State.rest_sendReclaim (i : SlotId) (g : Nat) : (s.sendReclaim i g).rest = s.rest := rfl
@[simp] theorem State.rest_answer (i : SlotId) (k : LinkKind) (t : BitVec 3) (r : Reply) : (s.answer i k t r).rest = s.rest := rfl
@[simp] theorem State.rest_refuse (i : SlotId) (k : LinkKind) (t : BitVec 3) (r : RefuseReason) : (s.refuse i k t r).rest = s.rest := by
  simp [State.refuse]
@[simp] theorem State.rest_toHead (i : SlotId) : (s.toHead i).rest = s.rest := rfl
@[simp] theorem State.rest_leaveRecency (i : SlotId) : (s.leaveRecency i).rest = s.rest := rfl
@[simp] theorem State.rest_removeEntry (i : SlotId) : (s.removeEntry i).rest = s.rest := rfl

@[simp] theorem State.rest_countOvertaken (i : SlotId) (c : Nat) : (s.countOvertaken i c).rest = s.rest := by
  unfold State.countOvertaken
  split
  · rfl
  · split <;> rfl

@[simp] theorem State.rest_grantStep (i : SlotId) (c : Card) (g : Nat) : (s.grantStep i c g).rest = s.rest := rfl
@[simp] theorem State.rest_award (i : SlotId) (c : Card) (g : Nat) : (s.award i c g).rest = s.rest := by simp [State.award]
@[simp] theorem State.rest_powerUp (i : SlotId) : (s.powerUp i).rest = s.rest := by simp [State.powerUp]

@[simp] theorem State.rest_grantEntry (e : WaitEntry) (g : Nat) : (s.grantEntry e g).rest = s.rest := by
  unfold State.grantEntry
  split
  · simp
  · split <;> simp

theorem rest_walkOver (passed rest : List WaitEntry) (s : State) : (walkOver passed rest s).rest = s.rest := by
  induction rest generalizing passed s with
  | nil => rfl
  | cons e rest ih =>
    simp only [walkOver]
    split
    · split
      · simp [ih]
      · split <;> simp [ih]
    · split
      · rfl
      · split <;> simp [ih]

@[simp] theorem State.rest_walk : s.walk.rest = s.rest := rest_walkOver _ _ _

@[simp] theorem State.rest_endEpisode (o : EpisodeOutcome) : (s.endEpisode o).rest = s.rest := by simp [State.endEpisode]

@[simp] theorem State.rest_grantBeneficiary (e : WaitEntry) (g : Nat) : (s.grantBeneficiary e g).rest = s.rest := by
  simp [State.grantBeneficiary]

@[simp] theorem State.rest_episodeCheck : s.episodeCheck.rest = s.rest := by
  unfold State.episodeCheck
  split
  · rfl
  · split <;> simp
  · split
    · rfl
    · split <;> simp

@[simp] theorem State.rest_followUp : s.followUp.rest = s.rest := by unfold State.followUp; split <;> simp
@[simp] theorem State.rest_followUpIf (b : Bool) : (s.followUpIf b).rest = s.rest := by unfold State.followUpIf; split <;> simp
@[simp] theorem State.rest_abandonFor (i : SlotId) : (s.abandonFor i).rest = s.rest := by unfold State.abandonFor; split <;> simp
@[simp] theorem State.rest_dropEntry (e : WaitEntry) (r : DropReason) : (s.dropEntry e r).rest = s.rest := by simp [State.dropEntry]

@[simp] theorem State.rest_noticeDropped (e : WaitEntry) : (s.noticeDropped e).rest = s.rest := by
  unfold State.noticeDropped; split <;> simp

@[simp] theorem State.rest_reclassEntry (i : SlotId) (c : Nat) : (s.reclassEntry i c).1.rest = s.rest := by
  unfold State.reclassEntry
  split
  · rfl
  · split <;> rfl

@[simp] theorem State.rest_setVictims (l : List Victim) : (s.setVictims l).rest = s.rest := rfl
@[simp] theorem State.rest_setCuts (l : List CutEntry) : (s.setCuts l).rest = s.rest := rfl
@[simp] theorem State.rest_enterVictim (i : SlotId) (g : Nat) : (s.enterVictim i g).rest = s.rest := rfl
@[simp] theorem State.rest_refreshVictim (i : SlotId) : (s.refreshVictim i).rest = s.rest := rfl
@[simp] theorem State.rest_retargetVictim (i : SlotId) (g : Nat) : (s.retargetVictim i g).rest = s.rest := rfl
@[simp] theorem State.rest_leaveVictims (i : SlotId) : (s.leaveVictims i).rest = s.rest := rfl
@[simp] theorem State.rest_enterCut (i : SlotId) : (s.enterCut i).rest = s.rest := rfl
@[simp] theorem State.rest_leaveCuts (i : SlotId) : (s.leaveCuts i).rest = s.rest := rfl
@[simp] theorem State.rest_cutVictim (i : SlotId) : (s.cutVictim i).rest = s.rest := by unfold State.cutVictim; split <;> rfl

@[simp] theorem State.rest_startAdmission (i : SlotId) : (s.startAdmission i).rest = s.rest := by
  unfold State.startAdmission; dsimp only; split <;> simp

@[simp] theorem State.rest_startCut (i : SlotId) (r : CutReason) : (s.startCut i r).rest = s.rest := by
  unfold State.startCut; dsimp only; split <;> simp

@[simp] theorem State.rest_cutIfPowered (i : SlotId) (r : CutReason) : (s.cutIfPowered i r).rest = s.rest := by
  unfold State.cutIfPowered; split <;> simp

@[simp] theorem State.rest_arriveInEmpty (i : SlotId) : (s.arriveInEmpty i).rest = s.rest := by
  unfold State.arriveInEmpty; split <;> simp

@[simp] theorem State.rest_completeCut (i : SlotId) : (s.completeCut i).rest = s.rest := by
  unfold State.completeCut
  dsimp only
  split
  · simp
  · split <;> simp
  · simp
  · simp

@[simp] theorem State.rest_endAdmitting (i : SlotId) (r : DropReason) (st : SlotState) : (s.endAdmitting i r st).rest = s.rest := by
  unfold State.endAdmitting; dsimp only; split <;> simp

@[simp] theorem State.rest_presenceArrives (i : SlotId) : (s.presenceArrives i).rest = s.rest := by
  unfold State.presenceArrives; dsimp only; split <;> simp

@[simp] theorem State.rest_presenceLost (i : SlotId) : (s.presenceLost i).rest = s.rest := by
  unfold State.presenceLost; dsimp only; split <;> simp

@[simp] theorem State.rest_enableSlot (i : SlotId) : (s.enableSlot i).rest = s.rest := by
  unfold State.enableSlot; dsimp only; split <;> simp

@[simp] theorem State.rest_disableSlot (i : SlotId) : (s.disableSlot i).rest = s.rest := by
  unfold State.disableSlot; dsimp only; split <;> simp

@[simp] theorem State.rest_dropForReclaim (i : SlotId) : (s.dropForReclaim i).rest = s.rest := by
  unfold State.dropForReclaim; split <;> simp

@[simp] theorem State.rest_startReclaim (i : SlotId) (g : Nat) (c : ReclaimCause) : (s.startReclaim i g c).rest = s.rest := by
  simp [State.startReclaim]

@[simp] theorem State.rest_retargetReclaim (i : SlotId) (c : Card) (r : Reclaim) (g : Nat) (cause : ReclaimCause) :
    (s.retargetReclaim i c r g cause).rest = s.rest := by simp [State.retargetReclaim]

@[simp] theorem State.rest_reclaimTo (i : SlotId) (c : Card) (g : Nat) (cause : ReclaimCause) : (s.reclaimTo i c g cause).rest = s.rest := by
  unfold State.reclaimTo
  split
  · simp
  · split <;> simp

@[simp] theorem State.rest_concludeReclaim (i : SlotId) (c : Card) (r : Reclaim) (k : LinkKind) (tag : BitVec 3) (t : Nat) :
    (s.concludeReclaim i c r k tag t).rest = s.rest := by
  unfold State.concludeReclaim; dsimp only; split <;> simp

@[simp] theorem State.rest_partialReclaim (i : SlotId) (c : Card) (r : Reclaim) (tag : BitVec 3) (t : Nat) :
    (s.partialReclaim i c r tag t).rest = s.rest := by simp [State.partialReclaim]

@[simp] theorem State.rest_takeWidth (i : SlotId) (c : Card) (r : Reclaim) (w : Nat) : (s.takeWidth i c r w).rest = s.rest := by
  simp [State.takeWidth]

@[simp] theorem State.rest_claimLift (i : SlotId) (c : Card) : (s.claimLift i c).rest = s.rest := by
  unfold State.claimLift; split <;> simp

@[simp] theorem State.rest_startFrame (i : SlotId) : (s.startFrame i).rest = s.rest := by
  unfold State.startFrame
  dsimp only
  split
  · split
    · simp
    · split <;> simp
  · simp
  · simp
  · simp

@[simp] theorem State.rest_expireWindow (i : SlotId) : (s.expireWindow i).rest = s.rest := by
  unfold State.expireWindow; dsimp only; split <;> simp

@[simp] theorem State.rest_expireLease (i : SlotId) : (s.expireLease i).rest = s.rest := by
  unfold State.expireLease; dsimp only; split <;> simp

theorem rest_takeVictims (amount : Nat) (l : List SlotId) (sum : Nat) (s : State) : (takeVictims amount l sum s).2.rest = s.rest := by
  induction l generalizing sum s with
  | nil => rfl
  | cons i l ih =>
    simp only [takeVictims]
    split
    · exact ih _ _
    · split <;> simp [ih, State.makeVictim]

@[simp] theorem State.rest_chooseVictims (b : Option Nat) (amount : Nat) : (s.chooseVictims b amount).2.rest = s.rest :=
  rest_takeVictims _ _ _ _

@[simp] theorem State.rest_tierCut (i : SlotId) : (s.tierCut i).rest = s.rest := by unfold State.tierCut; split <;> simp

theorem rest_takeCuts (amount : Nat) (l : List SlotId) (sum : Nat) (s : State) : (takeCuts amount l sum s).rest = s.rest := by
  induction l generalizing sum s with
  | nil => rfl
  | cons i l ih =>
    simp only [takeCuts]
    split
    · rfl
    · simp [ih]

@[simp] theorem State.rest_cutTier (amount sum : Nat) : (s.cutTier amount sum).rest = s.rest := rest_takeCuts _ _ _ _

@[simp] theorem State.rest_cover (amount : Nat) : (s.cover amount).rest = s.rest := by
  unfold State.cover; dsimp only; split <;> simp

@[simp] theorem State.rest_reportOpen : s.reportOpen.rest = s.rest := by simp [State.reportOpen]
@[simp] theorem State.rest_openOverdraft : s.openOverdraft.rest = s.rest := by simp [State.openOverdraft]
@[simp] theorem State.rest_enlarge : s.enlarge.rest = s.rest := by unfold State.enlarge; dsimp only; split <;> simp
@[simp] theorem State.rest_takeOver : s.takeOver.rest = s.rest := by unfold State.takeOver; dsimp only; split <;> simp

@[simp] theorem State.rest_overdrawn : s.overdrawn.rest = s.rest := by
  unfold State.overdrawn
  split
  · rfl
  · split <;> simp

@[simp] theorem State.rest_considerPreempt (i : SlotId) (c : Card) (f : Nat) : (s.considerPreempt i c f).rest = s.rest := by
  unfold State.considerPreempt; dsimp only; split <;> simp

/-! Requests. -/

@[simp] theorem State.rest_frameDone (i : SlotId) : (s.frameDone i).rest = s.rest := rfl

/-- A request keeps the rest when what a new request does keeps it. -/
theorem State.rest_takeRequest (i : SlotId) (k : LinkKind) (tag : BitVec 3) (act : State → State) (h : ∀ u : State, (act u).rest = u.rest) :
    (s.takeRequest i k tag act).rest = s.rest := by
  unfold State.takeRequest
  dsimp only
  split
  · rfl
  · split
    · rfl
    · split
      · split
        · rfl
        · simp [h]
      · simp [h]

theorem State.rest_whenActive (i : SlotId) (k : LinkKind) (tag : BitVec 3) (act : Card → State) (h : ∀ c, (act c).rest = s.rest) :
    (s.whenActive i k tag act).rest = s.rest := by
  unfold State.whenActive
  split
  · split <;> simp [h]
  · simp

@[simp] theorem State.rest_acceptHello (i : SlotId) (tag : BitVec 3) (id : BitVec 32) (f : Nat) (d : List Nat) :
    (s.acceptHello i tag id f d).rest = s.rest := by simp [State.acceptHello]

@[simp] theorem State.rest_helloInActive (i : SlotId) (tag : BitVec 3) (id : BitVec 32) (f : Nat) (d : List Nat) :
    (s.helloInActive i tag id f d).rest = s.rest := by
  unfold State.helloInActive
  split
  · split <;> simp
  · simp

@[simp] theorem State.rest_newHello (i : SlotId) (tag : BitVec 3) (id : BitVec 32) (f : Nat) (d : List Nat) :
    (s.newHello i tag id f d).rest = s.rest := by
  unfold State.newHello; dsimp only
  split
  · simp
  · split
    · simp
    · split
      · simp
      · split <;> simp

@[simp] theorem State.rest_takeHello (i : SlotId) (tag : BitVec 3) (id : BitVec 32) (f : Byte) (d : List Half) :
    (s.takeHello i tag id f d).rest = s.rest := s.rest_takeRequest _ _ _ _ (by simp)

@[simp] theorem State.rest_grantAsk (i : SlotId) (c : Card) (tag : BitVec 3) (g : Nat) : (s.grantAsk i c tag g).rest = s.rest := by
  simp [State.grantAsk]

@[simp] theorem State.rest_deferAsk (i : SlotId) (c : Card) (tag : BitVec 3) (a f : Nat) : (s.deferAsk i c tag a f).rest = s.rest := by
  unfold State.deferAsk; dsimp only; split <;> simp

@[simp] theorem State.rest_claimAsk (i : SlotId) (c : Card) (tag : BitVec 3) (a f top : Nat) (d : Bool) :
    (s.claimAsk i c tag a f top d).rest = s.rest := by
  unfold State.claimAsk; dsimp only
  split
  · simp
  · split <;> simp

@[simp] theorem State.rest_newAsk (i : SlotId) (c : Card) (tag : BitVec 3) (a f : Nat) (d : Bool) :
    (s.newAsk i c tag a f d).rest = s.rest := by
  unfold State.newAsk; dsimp only
  split
  · simp
  · split
    · simp
    · split <;> simp

@[simp] theorem State.rest_takeAsk (i : SlotId) (tag : BitVec 3) (a f fl : Byte) : (s.takeAsk i tag a f fl).rest = s.rest :=
  s.rest_takeRequest _ _ _ _ (fun u => u.rest_whenActive _ _ _ _ (by simp))

@[simp] theorem State.rest_newYield (i : SlotId) (c : Card) (tag : BitVec 3) (t : Nat) : (s.newYield i c tag t).rest = s.rest := by
  unfold State.newYield; dsimp only
  split
  · simp
  · split
    · simp
    · split <;> simp

@[simp] theorem State.rest_takeYield (i : SlotId) (tag : BitVec 3) (t : Byte) : (s.takeYield i tag t).rest = s.rest :=
  s.rest_takeRequest _ _ _ _ (fun u => u.rest_whenActive _ _ _ _ (by simp))

@[simp] theorem State.rest_newWithdraw (i : SlotId) (tag : BitVec 3) : (s.newWithdraw i tag).rest = s.rest := by
  unfold State.newWithdraw; split <;> simp

@[simp] theorem State.rest_takeWithdraw (i : SlotId) (tag : BitVec 3) : (s.takeWithdraw i tag).rest = s.rest :=
  s.rest_takeRequest _ _ _ _ (fun u => u.rest_whenActive _ _ _ _ (by simp))

@[simp] theorem State.rest_renewLease (i : SlotId) (c : Card) (tag : BitVec 3) : (s.renewLease i c tag).rest = s.rest := by
  unfold State.renewLease; dsimp only; split <;> simp

@[simp] theorem State.rest_newRenew (i : SlotId) (c : Card) (tag : BitVec 3) : (s.newRenew i c tag).rest = s.rest := by
  unfold State.newRenew
  split
  · split <;> simp
  · simp

@[simp] theorem State.rest_takeRenew (i : SlotId) (tag : BitVec 3) : (s.takeRenew i tag).rest = s.rest :=
  s.rest_takeRequest _ _ _ _ (fun u => u.rest_whenActive _ _ _ _ (by simp))

@[simp] theorem State.rest_newConfirm (i : SlotId) (c : Card) (tag : BitVec 3) (t : Nat) : (s.newConfirm i c tag t).rest = s.rest := by
  unfold State.newConfirm
  split
  · simp
  · split
    · simp
    · split <;> simp

@[simp] theorem State.rest_takeConfirm (i : SlotId) (tag : BitVec 3) (t : Byte) : (s.takeConfirm i tag t).rest = s.rest :=
  s.rest_takeRequest _ _ _ _ (fun u => u.rest_whenActive _ _ _ _ (by simp))

@[simp] theorem State.rest_takeAck (i : SlotId) (q : Bool) : (s.takeAck i q).rest = s.rest := by
  unfold State.takeAck; split <;> simp

@[simp] theorem State.rest_takeMalformed (i : SlotId) (k : LinkKind) (tag : BitVec 3) : (s.takeMalformed i k tag).rest = s.rest := by
  unfold State.takeMalformed; dsimp only
  split
  · rfl
  · split <;> simp

@[simp] theorem State.rest_takeFrame (i : SlotId) (f : RxFrame) : (s.takeFrame i f).rest = s.rest := by
  unfold State.takeFrame; split <;> simp

@[simp] theorem State.rest_gapEvent (i : SlotId) : (s.gapEvent i).rest = s.rest := by unfold State.gapEvent; split <;> simp
@[simp] theorem State.rest_receive (i : SlotId) (b : Byte) : (s.receive i b).rest = s.rest := by
  unfold State.receive; dsimp only; split <;> simp

theorem rest_receiveAll (i : SlotId) (l : List Byte) (s : State) : (receiveAll i l s).rest = s.rest := by
  induction l generalizing s with
  | nil => rfl
  | cons b l ih => simp [receiveAll, ih]

/-! Events. -/

@[simp] theorem State.rest_arrivalEvent (i : SlotId) : (s.arrivalEvent i).rest = s.rest := by unfold State.arrivalEvent; split <;> simp
@[simp] theorem State.rest_lossEvent (i : SlotId) : (s.lossEvent i).rest = s.rest := by unfold State.lossEvent; split <;> simp
@[simp] theorem State.rest_settleEvent (i : SlotId) : (s.settleEvent i).rest = s.rest := by unfold State.settleEvent; split <;> simp
@[simp] theorem State.rest_helloEvent (i : SlotId) : (s.helloEvent i).rest = s.rest := by unfold State.helloEvent; split <;> simp
@[simp] theorem State.rest_dischargeEvent (i : SlotId) : (s.dischargeEvent i).rest = s.rest := by
  unfold State.dischargeEvent; split <;> simp
@[simp] theorem State.rest_leaseEvent (i : SlotId) : (s.leaseEvent i).rest = s.rest := by unfold State.leaseEvent; split <;> simp
@[simp] theorem State.rest_windowEvent (i : SlotId) : (s.windowEvent i).rest = s.rest := by unfold State.windowEvent; split <;> simp
@[simp] theorem State.rest_frameEvent (i : SlotId) : (s.frameEvent i).rest = s.rest := by unfold State.frameEvent; split <;> simp

@[simp] theorem State.rest_replyEvent (i : SlotId) : (s.replyEvent i).rest = s.rest := by
  unfold State.replyEvent
  split
  · split
    · split <;> simp
    · rfl
  · rfl

@[simp] theorem State.rest_settleSlot (i : SlotId) : (s.settleSlot i).rest = s.rest := by simp [State.settleSlot]

end Sys2Proof.Machine
end

