-- ==== Sys2Proof/Laws/Walk.lean ====
section
/-! SUPPORT. What a grant, the release walk and the follow-up can do to the wait list and to the slots. -/

namespace Sys2Proof.Machine

open List (Sublist)

/-- The part of a slot that a grant never writes. -/
def Slot.ungranted (t : Slot) : Slot :=
  { t with state := .empty, charge := 0, card := none, settle := none, lease := none, swen := false, link := Link.reset }

/-- Slot and class of each entry: the walk removes entries, and never moves or reclasses one. -/
def places (l : List WaitEntry) : List (SlotId × Nat) := l.map (fun e => (e.slot, e.cls))

@[simp] theorem State.modLink_waitList (s : State) (i : SlotId) (f : Link → Link) : (s.modLink i f).waitList = s.waitList := rfl
@[simp] theorem State.modLink_episode (s : State) (i : SlotId) (f : Link → Link) : (s.modLink i f).episode = s.episode := rfl
@[simp] theorem State.modLink_policy (s : State) (i : SlotId) (f : Link → Link) : (s.modLink i f).policy = s.policy := rfl

theorem State.modLink_slot_other {s : State} {i j : SlotId} (f : Link → Link) (h : j ≠ i) : (s.modLink i f).slot j = s.slot j :=
  s.modSlot_slot_other _ h

@[simp] theorem State.endEpisode_waitList (s : State) (o : EpisodeOutcome) : (s.endEpisode o).waitList = s.waitList := by
  simp [State.endEpisode]

@[simp] theorem State.endEpisode_slot (s : State) (o : EpisodeOutcome) (i : SlotId) : (s.endEpisode o).slot i = s.slot i := by
  simp [State.endEpisode]

@[simp] theorem State.removeEntry_slot (s : State) (i j : SlotId) : (s.removeEntry i).slot j = s.slot j := rfl

@[simp] theorem State.countOvertaken_slot (s : State) (i : SlotId) (c : Nat) (j : SlotId) : (s.countOvertaken i c).slot j = s.slot j := by
  unfold State.countOvertaken
  split
  · rfl
  · split <;> rfl

/-! A grant. -/

@[simp] theorem State.grantEntry_waitList (s : State) (e : WaitEntry) (g : Nat) : (s.grantEntry e g).waitList = s.waitList := by
  unfold State.grantEntry
  split
  · simp [State.powerUp]
  · split
    · simp [State.award, State.grantStep, State.toHead]
    · rfl

theorem State.grantEntry_slot_other (s : State) (e : WaitEntry) (g : Nat) {i : SlotId} (h : i ≠ e.slot) :
    (s.grantEntry e g).slot i = s.slot i := by
  unfold State.grantEntry
  split
  · simp [State.powerUp, State.modSlot_slot, h]
  · split
    · simp [State.award, State.grantStep, State.toHead, State.modLink_slot_other _ h, State.modSlot_slot, h]
    · rfl

@[simp] theorem State.grantEntry_ungranted (s : State) (e : WaitEntry) (g : Nat) (i : SlotId) :
    ((s.grantEntry e g).slot i).ungranted = (s.slot i).ungranted := by
  by_cases h : i = e.slot
  · subst h
    unfold State.grantEntry
    split
    · simp [State.powerUp, Slot.ungranted]
    · split
      · simp [State.award, State.grantStep, State.toHead, State.modLink, Slot.ungranted]
      · rfl
  · rw [State.grantEntry_slot_other s e g h]

/-! Places. -/

theorem places_overtake (n : Nat) (l : List WaitEntry) : places (l.map (WaitEntry.overtake n)) = places l := by
  simp [places, WaitEntry.overtake, Function.comp_def]

theorem places_append (l m : List WaitEntry) : places (l ++ m) = places l ++ places m := List.map_append

theorem places_withoutSlot (i : SlotId) (l : List WaitEntry) : places (withoutSlot i l) = (places l).filter (fun x => decide (x.1 ≠ i)) := by
  simp [places, withoutSlot, List.filter_map, Function.comp_def]

theorem places_countOvertaken (s : State) (i : SlotId) (c : Nat) : places (s.countOvertaken i c).waitList = places s.waitList := by
  unfold State.countOvertaken
  split
  · rfl
  · split
    · simp only [State.setWait_waitList, overtakeInFront, inFront]
      rw [places_append, places_overtake, ← places_append, List.takeWhile_append_dropWhile]
    · simp only [State.setWait_waitList, places, List.map_map]
      apply List.map_congr_left
      intro e _
      simp only [Function.comp]
      split <;> rfl

theorem places_walkOver (passed rest : List WaitEntry) (s : State) :
    Sublist (places (walkOver passed rest s).waitList) (places passed ++ places rest) := by
  induction rest generalizing passed s with
  | nil => simp [walkOver, places]
  | cons e rest ih =>
    have tail : Sublist (places passed ++ places rest) (places passed ++ places (e :: rest)) :=
      (List.sublist_cons_self _ _).append_left _
    unfold walkOver
    split
    · split
      · exact (ih _ _).trans tail
      · simp only
        split
        · simpa only [State.setWait_waitList, places_append, places_overtake] using tail
        · simpa only [places_overtake] using (ih _ _).trans (by simpa only [places_overtake] using tail)
    · split
      · simp [places]
      · split
        · simp [places]
        · refine (ih _ _).trans ?_
          simp [places]

theorem State.walk_places (s : State) : Sublist (places s.walk.waitList) (places s.waitList) := by
  exact places_walkOver [] s.waitList s

/-- The follow-up only takes entries out of the list. -/
theorem State.followUp_places (s : State) : Sublist (places s.followUp.waitList) (places s.waitList) := by
  unfold State.followUp
  split
  · unfold State.episodeCheck
    split
    · exact List.Sublist.refl _
    · split
      · simpa using (s.endEpisode .covered).walk_places
      · exact List.Sublist.refl _
    · split
      · exact List.Sublist.refl _
      · split
        · unfold State.grantBeneficiary
          refine (State.walk_places _).trans ?_
          rw [State.endEpisode_waitList, State.grantEntry_waitList]
          simp only [State.removeEntry, State.setWait_waitList, places_withoutSlot, places_countOvertaken]
          exact List.filter_sublist
        · exact List.Sublist.refl _
  · exact s.walk_places

theorem pairwise_places (l : List WaitEntry) :
    l.Pairwise (fun a b => b.cls ≤ a.cls) ↔ (places l).Pairwise (fun a b => b.2 ≤ a.2) := by
  simp [places, List.pairwise_map]

theorem slots_places (l : List WaitEntry) : l.map WaitEntry.slot = (places l).map Prod.fst := by
  simp [places, Function.comp_def]

theorem noEntry_places (l : List WaitEntry) (i : SlotId) : (∀ e ∈ l, e.slot ≠ i) ↔ ∀ k ∈ places l, k.1 ≠ i := by
  simp [places]

/-- The follow-up keeps the list ordered by class. -/
theorem State.followUp_sorted {s : State} (h : s.waitList.Pairwise (fun a b => b.cls ≤ a.cls)) :
    s.followUp.waitList.Pairwise (fun a b => b.cls ≤ a.cls) := by
  rw [pairwise_places] at *
  exact h.sublist s.followUp_places

/-- The follow-up adds no entry of a slot. -/
theorem State.followUp_noEntry {s : State} {i : SlotId} (h : ∀ e ∈ s.waitList, e.slot ≠ i) : ∀ e ∈ s.followUp.waitList, e.slot ≠ i := by
  rw [noEntry_places] at *
  exact fun k hk => h k (s.followUp_places.subset hk)

/-! Slots. -/

theorem walkOver_ungranted (passed rest : List WaitEntry) (s : State) (i : SlotId) :
    ((walkOver passed rest s).slot i).ungranted = (s.slot i).ungranted := by
  induction rest generalizing passed s with
  | nil => rfl
  | cons e rest ih =>
    unfold walkOver
    split
    · split
      · rw [ih, State.grantEntry_ungranted]
      · simp only
        split
        · simp
        · rw [ih, State.grantEntry_ungranted]
    · split
      · rfl
      · split
        · rfl
        · rw [ih]

/-- The follow-up writes nothing of a slot but what a grant writes. -/
@[simp] theorem State.followUp_ungranted (s : State) (i : SlotId) : (s.followUp.slot i).ungranted = (s.slot i).ungranted := by
  unfold State.followUp
  split
  · unfold State.episodeCheck
    split
    · rfl
    · split
      · rw [State.walk, walkOver_ungranted, State.endEpisode_slot]
      · rfl
    · split
      · rfl
      · split
        · simp [State.grantBeneficiary, State.walk, walkOver_ungranted]
        · rfl
  · exact walkOver_ungranted _ _ _ _

theorem walkOver_slot_noEntry (passed rest : List WaitEntry) (s : State) (i : SlotId) (h : ∀ e ∈ rest, e.slot ≠ i) :
    (walkOver passed rest s).slot i = s.slot i := by
  induction rest generalizing passed s with
  | nil => rfl
  | cons e rest ih =>
    have h1 : i ≠ e.slot := (h e (by simp)).symm
    have h2 : ∀ e ∈ rest, e.slot ≠ i := fun x hx => h x (by simp [hx])
    unfold walkOver
    split
    · split
      · rw [ih _ _ h2, State.grantEntry_slot_other _ _ _ h1]
      · simp only
        split
        · simp [State.grantEntry_slot_other _ _ _ h1]
        · rw [ih _ _ h2, State.grantEntry_slot_other _ _ _ h1]
    · split
      · rfl
      · split
        · rfl
        · rw [ih _ _ h2]

/-- The follow-up leaves a slot with no entry alone. -/
theorem State.followUp_slot_noEntry {s : State} {i : SlotId} (h : ∀ e ∈ s.waitList, e.slot ≠ i) : s.followUp.slot i = s.slot i := by
  unfold State.followUp
  split
  · unfold State.episodeCheck
    split
    · rfl
    · split
      · rw [State.walk, walkOver_slot_noEntry, State.endEpisode_slot]
        rw [State.endEpisode_waitList]
        exact h
      · rfl
    · split
      · rfl
      · rename_i e he
        split
        · have hi : i ≠ e.slot := by
            cases hb : s.beneficiary with
            | none => simp [hb] at he
            | some b =>
              simp only [hb, Option.bind_some, State.entryOf] at he
              exact (h e (List.mem_of_find?_eq_some he)).symm
          have hp : ∀ k ∈ places ((s.countOvertaken e.slot e.cls).removeEntry e.slot).waitList, k.1 ≠ i := by
            intro k hk
            simp only [State.removeEntry, State.setWait_waitList, places_withoutSlot, places_countOvertaken] at hk
            exact (noEntry_places _ _).mp h k (List.mem_of_mem_filter hk)
          rw [State.grantBeneficiary, State.walk, walkOver_slot_noEntry]
          · simp [State.grantEntry_slot_other _ _ _ hi]
          · rw [State.endEpisode_waitList, State.grantEntry_waitList]
            exact (noEntry_places _ _).mpr hp
        · rfl
  · exact walkOver_slot_noEntry _ _ _ _ h

end Sys2Proof.Machine
end

