-- ==== Sys2Proof/Laws/Shared.lean ====
section
/-! SUPPORT. What the shared operations do, each said once in the terms of the statements: cite these instead of unfolding the operations. -/

namespace Sys2Proof.Laws

open Machine Safety

set_option maxRecDepth 20000

/-- Slot i of a state whose slot i was replaced. -/
theorem withSlot_slot (s : State) (i : SlotId) (t : Slot) : (withSlot s i t).slot i = t := by simp [withSlot, State.slot]

/-- Replacing slot i twice keeps the last. -/
theorem withSlot_withSlot (s : State) (i : SlotId) (t u : Slot) : withSlot (withSlot s i t) i u = withSlot s i u := by
  simp [withSlot]

/-- Replacing slot i by itself changes nothing. -/
theorem withSlot_self (s : State) (i : SlotId) : withSlot s i (s.slot i) = s := by simp [withSlot, State.slot]

/-- A change of slot i as a replacement. -/
theorem modSlot_eq (s : State) (i : SlotId) (f : Slot → Slot) : s.modSlot i f = withSlot s i (f (s.slot i)) := rfl

/-- A change of the Link Engine of slot i as a replacement. -/
theorem modLink_eq (s : State) (i : SlotId) (f : Link → Link) : s.modLink i f = withSlot s i { s.slot i with link := f (s.slot i).link } := rfl

/-- The answer to a request as a replacement of the slot. -/
theorem answer_eq (s : State) (i : SlotId) (k : LinkKind) (tag : BitVec 3) (r : Reply) :
    s.answer i k tag r = withSlot s i { s.slot i with link := Link.answer k tag r (s.slot i).link } := rfl

/-- The removal of an entry (R118, R151), said at once. -/
theorem dropEntry_eq_entryDropped (s : State) (e : WaitEntry) (r : DropReason) : s.dropEntry e r = entryDropped s e (dropCode r) := by
  have key : ∀ u : State, u.episode = s.episode → u.abandonFor e.slot =
      if s.episode.kind = .preempt ∧ s.episode.beneficiary = some e.slot then
        { u.append (chipReport .episodeClose 1 2 0) with
          episode := { kind := .none, beneficiary := none, target := 0, victims := [], cuts := [] } }
      else u := by
    intro u hu
    unfold State.abandonFor State.beneficiary State.endEpisode
    rw [hu]
    cases hk : s.episode.kind
    · simp
    · simp only [true_and]; rfl
    · simp
  exact key _ (by simp [State.removeEntry])

/-- An operation that touches neither report queue nor GAP_SEEN, and builds on neither, commutes with an append. -/
theorem append_comm (F : State → State) (s : State) (r : Report) (hr : (F s).reports = s.reports)
    (hF : ∀ q, (F s).setReports q = F (s.setReports q)) (hG : ∀ q, { (F s).setReports q with gapSeen := true } = F { s.setReports q with gapSeen := true }) :
    (F s).append r = F (s.append r) := by
  unfold State.append
  rw [hr]
  by_cases h1 : s.reports.length < Config.reportLimit
  · rw [if_pos h1, if_pos h1, hF]
  · rw [if_neg h1, if_neg h1]
    by_cases h2 : tailIsGap s.reports = true
    · rw [if_pos h2, if_pos h2, hF]
    · rw [if_neg h2, if_neg h2]; exact hG _

theorem append_withSlot (s : State) (i : SlotId) (t : Slot) (r : Report) : (withSlot s i t).append r = withSlot (s.append r) i t :=
  append_comm (fun s => withSlot s i t) s r rfl (fun _ => rfl) (fun _ => rfl)

theorem append_setWait (s : State) (l : List WaitEntry) (r : Report) : State.append { s with waitList := l } r = { s.append r with waitList := l } :=
  append_comm (fun s => { s with waitList := l }) s r rfl (fun _ => rfl) (fun _ => rfl)

theorem append_setEpisode (s : State) (l : Episode) (r : Report) : State.append { s with episode := l } r = { s.append r with episode := l } :=
  append_comm (fun s => { s with episode := l }) s r rfl (fun _ => rfl) (fun _ => rfl)

theorem append_setRecency (s : State) (l : List SlotId) (r : Report) : State.append { s with recency := l } r = { s.append r with recency := l } :=
  append_comm (fun s => { s with recency := l }) s r rfl (fun _ => rfl) (fun _ => rfl)

theorem report_withSlot (s : State) (i : SlotId) (t : Slot) (k : ReportKind) (j : SlotId) (a b c : Nat) : (withSlot s i t).report k j a b c = withSlot (s.report k j a b c) i t := append_withSlot _ _ _ _

theorem entryDropped_withSlot (s : State) (i : SlotId) (t : Slot) (e : WaitEntry) (r : Nat) : entryDropped (withSlot s i t) e r = withSlot (entryDropped s e r) i t := by
  simp only [entryDropped]
  have h1 : State.report { withSlot s i t with waitList := (withSlot s i t).waitList.filter (fun x => decide (x.slot ≠ e.slot)) } .waitDropped e.slot r 0 0
    = withSlot (State.report { s with waitList := s.waitList.filter (fun x => decide (x.slot ≠ e.slot)) } .waitDropped e.slot r 0 0) i t :=
    report_withSlot { s with waitList := s.waitList.filter (fun x => decide (x.slot ≠ e.slot)) } i t _ _ _ _ _
  rw [h1]
  have h2 : (withSlot s i t).episode = s.episode := rfl
  rw [h2]
  split
  · rw [append_withSlot]; rfl
  · rfl

theorem entryDropped_slot (s : State) (e : WaitEntry) (r : Nat) (i : SlotId) : (entryDropped s e r).slot i = s.slot i := by
  simp only [entryDropped]
  split <;> simp [State.slot]

/-- The start of a cut (R34, R68, R91, R118, R148), said at once. -/
theorem startCut_eq_cutStarted (s : State) (i : SlotId) (r : CutReason) : s.startCut i r = cutStarted s i r := by
  unfold State.startCut cutStarted
  have e1 : (((s.modSlot i (Slot.cut r)).leaveRecency i).cutVictim i) =
    withSlot
      { s with
        recency := s.recency.filter (fun j => decide (j ≠ i))
        episode :=
          if s.episode.victims.any (fun v => decide (v.slot = i)) then
            { s.episode with
              victims := s.episode.victims.filter (fun v => decide (v.slot ≠ i))
              cuts := s.episode.cuts ++ [{ slot := i, counted := (s.slot i).charge }] }
          else s.episode }
      i
      { s.slot i with
        state := .cutting, cutReason := some r, destEmpty := false, reclaim := none, curWidth := none, pendWidth := none
        settle := none, hello := none, lease := none, discharge := some (s.slot i).cfg.discharge, swen := false, run := false
        link := { (s.slot i).link with asm := .off, gap := none, replySlot := none, outstanding := none, queue := [], tx := .idle } } := by
    unfold State.cutVictim
    have : ((s.modSlot i (Slot.cut r)).leaveRecency i).isVictim i = s.episode.victims.any (fun v => decide (v.slot = i)) := rfl
    rw [this]
    split
    · simp only [State.enterCut, State.leaveVictims, State.setVictims, State.setCuts, State.setEpisode, State.leaveRecency, State.setRecency]
      simp [State.modSlot, withSlot, State.slot, Slot.cut, Link.flush, Timer.start]
    · simp [State.modSlot, withSlot, State.slot, Slot.cut, Link.flush, Timer.start, State.leaveRecency, State.setRecency]
  rw [e1]
  have fin : ∀ u : State, u.waitList = s.waitList → (match u.entryOf i with | some e => (u.dropEntry e .cut).followUp | none => u) =
      (match s.waitList.find? (fun e => decide (e.slot = i)) with | none => u | some e => (entryDropped u e 3).followUp) := by
    intro u hu
    simp only [State.entryOf, hu, dropEntry_eq_entryDropped, dropCode]
    cases s.waitList.find? (fun e => decide (e.slot = i)) <;> rfl
  exact fin _ (by simp [withSlot])

/-- The clearing of the wait list at RESTART, entry by entry (R120). -/
theorem dropForRestart_eq (l : List WaitEntry) (s : State) : dropForRestart l s = l.foldl entryCleared s := by
  induction l generalizing s with
  | nil => rfl
  | cons e l ih =>
    have key : ∀ u : State, u.episode = s.episode → (if u.beneficiary = some e.slot then u.endEpisode .restart else u) =
        if s.episode.kind = .preempt ∧ s.episode.beneficiary = some e.slot then episodeClosed u 1 4 else u := by
      intro u hu
      unfold State.beneficiary State.endEpisode
      rw [hu]
      cases hk : s.episode.kind <;> simp [episodeClosed, episodeKindCode, outcomeCode, State.setEpisode, Episode.closed]
    have h : (((s.removeEntry e.slot).report .waitDropped e.slot (dropCode .restart) 0 0)).episode = s.episode := by simp [State.removeEntry]
    simp only [dropForRestart, List.foldl_cons, ih, key _ h]
    rfl

/-- The place of a new entry in an ordered list (R106). -/
theorem insertEntry_of_sorted (e : WaitEntry) (l : List WaitEntry) (h : l.Pairwise (fun a b => b.cls ≤ a.cls)) :
    insertEntry e l = l.filter (fun x => decide (e.cls ≤ x.cls)) ++ e :: l.filter (fun x => decide (x.cls < e.cls)) := by
  induction l with
  | nil => rfl
  | cons x l ih =>
    rw [List.pairwise_cons] at h
    unfold insertEntry
    by_cases hx : e.cls ≤ x.cls
    · have : ¬ x.cls < e.cls := by omega
      simp [hx, this, ih h.2]
    · have h1 : x.cls < e.cls := by omega
      have h2 : ∀ y ∈ l, ¬ e.cls ≤ y.cls := by intro y hy; have := h.1 y hy; omega
      have h3 : ∀ y ∈ l, y.cls < e.cls := by intro y hy; have := h2 y hy; omega
      have a1 : l.filter (fun x => decide (e.cls ≤ x.cls)) = [] := by simpa using h3
      have a2 : l.filter (fun x => decide (x.cls < e.cls)) = l := by rw [List.filter_eq_self]; intro y hy; simpa using h3 y hy
      have a3 : (x :: l).any (fun y => decide (e.cls ≤ y.cls)) = false := by simpa [h1] using h3
      rw [a3]
      simp [hx, h1, a1, a2]

theorem overtake_eq_overtaken : WaitEntry.overtake = overtaken := rfl

/-- The start of admission of a slot that holds no entry (R24), said at once. -/
theorem startAdmission_eq_admitted (s : State) (i : SlotId) (frameEnded : s.waitList.Pairwise (fun a b => b.cls ≤ a.cls)) (hn : ∀ e ∈ s.waitList, e.slot ≠ i) :
    s.startAdmission i = admitted s i := by
  have hne : s.entryOf i = none := by simpa [State.entryOf] using hn
  unfold State.startAdmission admitted
  have hc : (!s.episodeOpen && s.within (s.slot i).cfg.admission && s.passesOrdering i (s.slot i).cfg.cls) = true ↔
      (s.episode.kind = .none ∧ (s.slot i).cfg.admission + s.committed ≤ s.available ∧ ClearAhead s (s.waitList.filter (fun e => decide ((s.slot i).cfg.cls ≤ e.cls)))) := by
    simp only [Bool.and_eq_true, and_assoc]
    refine and_congr (by simp [State.episodeOpen]) (and_congr ?_ ?_)
    · rw [State.within, decide_eq_true_iff, State.headroom]; omega
    · unfold State.passesOrdering State.ahead
      rw [hne]
      cases hm : s.policy.mode <;> simp [ClearAhead, hm]
  by_cases hh : (!s.episodeOpen && s.within (s.slot i).cfg.admission && s.passesOrdering i (s.slot i).cfg.cls) = true
  · simp only
    rw [if_pos hh, if_pos (hc.mp hh)]
    unfold State.powerUp
    have e1 : s.countOvertaken i (s.slot i).cfg.cls = { s with waitList := overtakenAbove s (s.slot i).cfg.cls } := by
      unfold State.countOvertaken
      rw [hne]
      cases hm : s.policy.mode <;> simp [overtakenAbove, hm, State.setWait, overtake_eq_overtaken]
    rw [e1]; rfl
  · simp only
    rw [if_neg hh, if_neg (fun h => hh (hc.mpr h))]
    rw [insertEntry_of_sorted _ _ frameEnded]
    simp only [newEntry]
    rw [modSlot_eq]
    have hp : State.position (withSlot (s.setWait (s.waitList.filter (fun e => decide ((s.slot i).cfg.cls ≤ e.cls))
          ++ { slot := i, kind := .admission, cls := (s.slot i).cfg.cls, overtaken := 0, anchored := false, beneficiary := false }
          :: s.waitList.filter (fun e => decide (e.cls < (s.slot i).cfg.cls)))) i { s.slot i with state := .admitting }) i = (s.waitList.filter (fun e => decide ((s.slot i).cfg.cls ≤ e.cls))).length + 1 := by
      simp only [State.position, withSlot, State.setWait]
      rw [List.findIdx_append]
      have : List.findIdx (fun e => decide (e.slot = i)) (s.waitList.filter (fun e => decide ((s.slot i).cfg.cls ≤ e.cls))) = (s.waitList.filter (fun e => decide ((s.slot i).cfg.cls ≤ e.cls))).length := by
        rw [List.findIdx_eq_length]; intro x hx; simpa using hn x (List.mem_filter.mp hx).1
      rw [this]; simp [List.findIdx_cons]
    exact congrArg (fun p => State.report _ .deferred i p 0 0) hp

/-- Under the invariant only slots in ADMITTING and ACTIVE hold entries (R105). -/
theorem noEntry_of_inv {s : State} (h : BlockInv s) {i : SlotId} (h1 : (s.slot i).state ≠ .admitting) (h2 : (s.slot i).state ≠ .active) : ∀ e ∈ s.waitList, e.slot ≠ i := by
  intro e he hi
  have := h.entries.1 e he
  subst hi
  simp only [entryFits, Bool.and_eq_true] at this
  cases hk : e.kind <;> simp_all

/-- The state after a frame on slot i has completed (R48, R49). -/
def frameEnded (s : State) (i : SlotId) : State := withSlot s i { s.slot i with link := hunting (s.slot i).link }

theorem frameEnded_slot (s : State) (i : SlotId) : (frameEnded s i).slot i = { s.slot i with link := hunting (s.slot i).link } := withSlot_slot _ _ _

/-- The end of a frame while the link is on. -/
theorem frameDone_eq {s : State} {i : SlotId} (h : (s.slot i).link.asm ≠ .off) : s.frameDone i = frameEnded s i := by
  simp [State.frameDone, modLink_eq, Link.rehunt, h, frameEnded, hunting]

/-- A gap timer that has not expired is left alone (R49). -/
theorem gapEvent_running {s : State} {i : SlotId} (h : (s.slot i).link.gap ≠ some 0) : s.gapEvent i = s := by
  simp [State.gapEvent, Timer.due, h]

/-- A gap timer that has expired ends its frame (R49). -/
theorem gapEvent_expired {s : State} {i : SlotId} (h : (s.slot i).link.asm ≠ .off) (hg : (s.slot i).link.gap = some 0) :
    s.gapEvent i = frameEnded s i := by
  simp [State.gapEvent, Timer.due, hg, frameDone_eq h]

/-- A byte after the expiry of the gap timer is received in HUNT (R49). -/
theorem receive_expired {s : State} {i : SlotId} (b : Byte) (h : (s.slot i).link.asm ≠ .off) (hg : (s.slot i).link.gap = some 0) :
    s.receive i b = (frameEnded s i).receive i b := by
  have e : (frameEnded s i).gapEvent i = frameEnded s i := gapEvent_running (by simp [frameEnded_slot, hunting])
  simp only [State.receive, gapEvent_expired h hg, e]

/-- A new request is handed to its owner after the end of its frame (R55, R56). -/
theorem takeRequest_new {s : State} {i : SlotId} {k : LinkKind} {tag : BitVec 3} (h : TakesNew s i k tag) (act : State → State) :
    s.takeRequest i k tag act = act (frameEnded s i) := by
  obtain ⟨h1, h2, h3⟩ := h
  unfold State.takeRequest
  rw [if_neg h1, frameDone_eq h1]
  simp only [frameEnded, withSlot_slot, hunting, h2, Option.isSome_none]
  cases hc : (s.slot i).link.cache with
  | none => simp
  | some r =>
    simp only [hc, Option.any_some] at h3
    simp only [Bool.false_eq_true, if_false]
    rw [if_neg]
    simpa using h3

theorem answer_hunting_eq_replied (k : LinkKind) (tag : BitVec 3) (r : Reply) (l : Link) : Link.answer k tag r (hunting l) = replied k tag r l := rfl

/-- Rows executed after rows that all answer a next state. -/
theorem execRows_append {l : List Instr} {s t : State} (h : execRows l s = .next t) (r : List Instr) : execRows (l ++ r) s = execRows r t := by
  induction l generalizing s with
  | nil =>
    simp only [execRows, Host.Outcome.next.injEq] at h
    rw [List.nil_append, h]
  | cons c l ih =>
    simp only [List.cons_append, execRows] at h ⊢
    split at h <;> simp_all

/-- What the transmitter begins leaves the requests refused before the declaration. -/
@[simp] theorem Link.pump_undeclared (l : Link) : l.pump.undeclared = l.undeclared := by
  unfold Link.pump
  repeat' split
  all_goals rfl

/-- A reply notes its request for the repeats of R83. -/
@[simp] theorem Link.answer_undeclared (k : LinkKind) (tag : BitVec 3) (r : Reply) (l : Link) :
    (Link.answer k tag r l).undeclared = noteUndeclared k tag r l.undeclared := by
  simp [Link.answer, Link.placeReply]

/-- A refusal after the end of the frame (R57), said at once. -/
theorem refuse_eq_refused (s : State) (i : SlotId) (k : LinkKind) (tag : BitVec 3) (r : RefuseReason) :
    (frameEnded s i).refuse i k tag r = refused s i k tag r := by
  simp only [State.refuse, refused, answer_eq, frameEnded_slot]
  simp only [frameEnded, withSlot_withSlot, answer_hunting_eq_replied]

/-- A request of an ACTIVE slot is judged with its card (R83). -/
theorem whenActive_eq {s : State} {i : SlotId} {c : Card} {k : LinkKind} {tag : BitVec 3} (h : ActiveWith s i c) (hn : TakesFresh s i k tag)
    (act : Card → State) : (frameEnded s i).whenActive i k tag act = act c := by
  have hu : (k, tag) ∉ (hunting (s.slot i).link).undeclared := hn.2
  unfold State.whenActive
  simp only [frameEnded_slot, h.1, h.2]
  rw [if_pos ⟨trivial, hu⟩]

/-- A request of a slot that is not ACTIVE, and in ACTIVE the repeat of one refused before the declaration, is refused (R83). -/
theorem whenActive_refused {s : State} {i : SlotId} {k : LinkKind} {tag : BitVec 3}
    (h : (s.slot i).state ≠ .active ∨ (k, tag) ∈ (s.slot i).link.undeclared) (act : Card → State) :
    (frameEnded s i).whenActive i k tag act = refused s i k tag .notDeclared := by
  have hn : ¬ ((s.slot i).state = .active ∧ (k, tag) ∉ (hunting (s.slot i).link).undeclared) := fun hh => h.elim (· hh.1) hh.2
  unfold State.whenActive
  simp only [frameEnded_slot]
  rw [if_neg hn, refuse_eq_refused]

/-- A follow-up under a condition. -/
theorem followUpIf_eq (s : State) (p : Prop) [Decidable p] : s.followUpIf (decide p) = if p then s.followUp else s := by
  simp [State.followUpIf]

theorem frameEnded_entryOf (s : State) (i : SlotId) : (frameEnded s i).entryOf i = s.entryOf i := rfl

/-- The test of a claim against headroom (R4). -/
theorem within_iff_fits (s : State) (i : SlotId) (n : Nat) : s.within (s.increase i n) = decide (Fits s i n) := by
  rw [State.within]
  congr 1
  simp only [State.increase, State.headroom, Fits, eq_iff_iff]
  omega

/-- K does not follow changes of a slot that leave its charge (R2). -/
theorem committed_withSlot (s : State) (i : SlotId) (t : Slot) (h : t.charge = (s.slot i).charge) : (withSlot s i t).committed = s.committed := by
  have := State.committed_modSlot
  simp only [State.committed, withSlot]
  congr 1
  apply List.ext_getElem
  · simp
  · intro n h1 h2
    simp only [List.getElem_map, Vector.getElem_toList, Vector.getElem_set]
    split
    · rename_i hh; subst hh; exact h
    · rfl

theorem fits_frameEnded (s : State) (i : SlotId) (n : Nat) : Fits (frameEnded s i) i n ↔ Fits s i n := by
  have : (frameEnded s i).committed = s.committed := committed_withSlot _ _ _ rfl
  simp only [Fits, this, frameEnded_slot]
  rfl

theorem leaveVictims_eq_filter (s : State) (i : SlotId) : s.leaveVictims i = { s with episode := { s.episode with victims := s.episode.victims.filter (fun v => decide (v.slot ≠ i)) } } := rfl

theorem strictlyIncreasing_iff (l : List Nat) : strictlyIncreasing l = true ↔ ∀ k, k + 1 < l.length → l.getD k 0 < l.getD (k+1) 0 := by
  induction l with
  | nil => simp [strictlyIncreasing]
  | cons x l ih =>
    cases l with
    | nil => simp [strictlyIncreasing]
    | cons y l =>
      simp only [strictlyIncreasing, Bool.and_eq_true, decide_eq_true_eq, ih]
      constructor
      · rintro ⟨h1, h2⟩ k hk
        cases k with
        | zero => simpa using h1
        | succ k => have := h2 k (by simpa using hk); simpa using this
      · intro h
        refine ⟨by simpa using h 0 (by simp), ?_⟩
        intro k hk; have := h (k+1) (by simpa using hk); simpa using this

/-- What the shape check of a HELLO asks (R71). -/
theorem shapeOk_iff (f : Nat) (d : List Nat) : shapeOk f d = true ↔ 1 ≤ d.length ∧ d.length ≤ 6 ∧ 1 ≤ d.getD 0 0 ∧ (∀ k, k + 1 < d.length → d.getD k 0 < d.getD (k + 1) 0) ∧ f < d.length := by
  simp only [shapeOk, Bool.and_eq_true, decide_eq_true_eq, strictlyIncreasing_iff, and_assoc]
  have : d.getD 0 0 ≠ 0 ↔ 1 ≤ d.getD 0 0 := by omega
  rw [this]

/-- The highest number of a range that passes a test, or that none does (R85, R116). -/
theorem highest_spec (ok : Nat → Bool) (lo hi : Nat) :
    (∀ g, highest ok lo hi = some g ↔ (lo ≤ g ∧ g ≤ hi ∧ ok g = true ∧ ∀ k, g < k → k ≤ hi → ok k = false)) ∧
    (highest ok lo hi = none ↔ ∀ g, lo ≤ g → g ≤ hi → ok g = false) := by
  have gen : ∀ n, (∀ g, ((List.range n).filter (fun g => decide (lo ≤ g) && ok g)).getLast? = some g ↔ (lo ≤ g ∧ g < n ∧ ok g = true ∧ ∀ k, g < k → k < n → ok k = false)) ∧
      (((List.range n).filter (fun g => decide (lo ≤ g) && ok g)).getLast? = none ↔ ∀ g, lo ≤ g → g < n → ok g = false) := by
    intro n
    induction n with
    | zero => simp
    | succ n ih =>
      rw [List.range_succ, List.filter_append]
      by_cases h : lo ≤ n ∧ ok n = true
      · have : List.filter (fun g => decide (lo ≤ g) && ok g) [n] = [n] := by simp [h]
        rw [this]
        simp only [List.getLast?_append, List.getLast?_singleton, Option.some_or]
        refine ⟨?_, ?_⟩
        · intro g
          simp only [Option.some.injEq]
          constructor
          · rintro rfl; exact ⟨h.1, by omega, h.2, fun k h1 h2 => by omega⟩
          · rintro ⟨h1, h2, h3, h4⟩
            by_contra hne
            have := h4 n (by omega) (by omega)
            rw [h.2] at this; exact absurd this (by simp)
        · simp only [reduceCtorEq, false_iff]
          intro hh
          have := hh n h.1 (by omega)
          rw [h.2] at this; exact absurd this (by simp)
      · have : List.filter (fun g => decide (lo ≤ g) && ok g) [n] = [] := by
          simp only [List.filter_cons, List.filter_nil]
          rw [if_neg]
          simpa using h
        rw [this, List.append_nil]
        refine ⟨?_, ?_⟩
        · intro g
          rw [ih.1]
          constructor
          · rintro ⟨h1, h2, h3, h4⟩
            refine ⟨h1, by omega, h3, ?_⟩
            intro k h5 h6
            by_cases hk : k = n
            · subst hk
              by_contra hc
              exact h ⟨by omega, by simpa using hc⟩
            · exact h4 k h5 (by omega)
          · rintro ⟨h1, h2, h3, h4⟩
            have : g ≠ n := by rintro rfl; exact h ⟨h1, h3⟩
            exact ⟨h1, by omega, h3, fun k h5 h6 => h4 k h5 (by omega)⟩
        · rw [ih.2]
          constructor
          · intro h1 g h2 h3
            by_cases hk : g = n
            · subst hk
              by_contra hc
              exact h ⟨by omega, by simpa using hc⟩
            · exact h1 g h2 (by omega)
          · intro h1 g h2 h3; exact h1 g h2 (by omega)
  have g := gen (hi + 1)
  refine ⟨fun x => (g.1 x).trans ?_, g.2.trans ?_⟩
  · constructor
    · rintro ⟨a, b, c, d⟩; exact ⟨a, by omega, c, fun k h1 h2 => d k h1 (by omega)⟩
    · rintro ⟨a, b, c, d⟩; exact ⟨a, by omega, c, fun k h1 h2 => d k h1 (by omega)⟩
  · constructor
    · intro h g h1 h2; exact h g h1 (by omega)
    · intro h g h1 h2; exact h g h1 (by omega)

theorem any_slot_iff_entryOf (s : State) (i : SlotId) : s.waitList.any (fun e => decide (e.slot = i)) = (s.entryOf i).isSome := by
  unfold State.entryOf
  rw [Bool.eq_iff_iff, List.any_eq_true, List.find?_isSome]

theorem aheadOf_eq (s : State) (i : SlotId) : s.ahead i (s.slot i).cfg.cls = aheadOf s i := by
  unfold State.ahead aheadOf
  rw [any_slot_iff_entryOf]; rfl

/-- What ordering asks of a request (R109, R110). -/
theorem passesOrdering_iff (s : State) (i : SlotId) : s.passesOrdering i (s.slot i).cfg.cls = true ↔ ClearAhead s (aheadOf s i) := by
  unfold State.passesOrdering
  rw [aheadOf_eq]
  cases hm : s.policy.mode with
  | strict =>
    simp only [ClearAhead, hm]
    simp [List.isEmpty_iff, List.eq_nil_iff_forall_not_mem]
  | fit =>
    simp [ClearAhead, hm]

/-- The wait list after a grant (R86, R110), said at once. -/
theorem listAfterGrant_eq (s : State) (i : SlotId) : ((s.countOvertaken i (s.slot i).cfg.cls).removeEntry i) = { s with waitList := listAfterGrant s i } := by
  unfold listAfterGrant
  rw [any_slot_iff_entryOf]
  unfold State.countOvertaken State.removeEntry withoutSlot
  cases hm : s.policy.mode with
  | strict =>
    simp only [reduceCtorEq, if_false]
    by_cases h : (s.entryOf i).isSome = true
    · rw [if_pos h]; simp [State.setWait]
    · rw [if_neg h]; simp [State.setWait, overtakenAbove, hm]
  | fit =>
    simp only [if_true]
    by_cases h : (s.entryOf i).isSome = true
    · rw [if_pos h, if_pos h]; rfl
    · rw [if_neg h, if_neg h]; simp only [overtakenAbove, hm, true_and, State.setWait, overtake_eq_overtaken]

theorem frameEnded_aheadOf (s : State) (i : SlotId) : aheadOf (frameEnded s i) i = aheadOf s i := by
  unfold aheadOf
  rw [frameEnded_slot]; rfl

theorem frameEnded_clearAhead (s : State) (i : SlotId) (l : List WaitEntry) : ClearAhead (frameEnded s i) l ↔ ClearAhead s l := Iff.rfl

theorem frameEnded_listAfterGrant (s : State) (i : SlotId) : listAfterGrant (frameEnded s i) i = listAfterGrant s i := by
  unfold listAfterGrant overtakenAbove
  rw [frameEnded_slot]; rfl

/-- What the claim of an ASK answers (R85). -/
theorem askClaim_iff (s : State) (i : SlotId) (c : Card) (floor top : Nat) :
    (∀ g, (if (frameEnded s i).episodeOpen || !(frameEnded s i).passesOrdering i ((frameEnded s i).slot i).cfg.cls then none else (frameEnded s i).bestStep i c floor top) = some g ↔
      (floor ≤ g ∧ g ≤ top ∧ AskFits s i c g ∧ ∀ k, g < k → k ≤ top → ¬ Fits s i (c.draw k))) ∧
    ((if (frameEnded s i).episodeOpen || !(frameEnded s i).passesOrdering i ((frameEnded s i).slot i).cfg.cls then none else (frameEnded s i).bestStep i c floor top) = none ↔
      ∀ g, floor ≤ g → g ≤ top → ¬ AskFits s i c g) := by
  have hep : (frameEnded s i).episodeOpen = true ↔ s.episode.kind ≠ .none := decide_eq_true_iff
  have hpa : (frameEnded s i).passesOrdering i ((frameEnded s i).slot i).cfg.cls = true ↔ ClearAhead s (aheadOf s i) := by
    rw [passesOrdering_iff, frameEnded_aheadOf, frameEnded_clearAhead]
  have hb := highest_spec (fun g => (frameEnded s i).within ((frameEnded s i).increase i (c.draw g))) floor top
  have hb' : (frameEnded s i).bestStep i c floor top = highest (fun g => (frameEnded s i).within ((frameEnded s i).increase i (c.draw g))) floor top := rfl
  by_cases h : s.episode.kind = .none ∧ ClearAhead s (aheadOf s i)
  · have hif : ((frameEnded s i).episodeOpen || !(frameEnded s i).passesOrdering i ((frameEnded s i).slot i).cfg.cls) = false := by
      rw [Bool.or_eq_false_iff]
      refine ⟨?_, by simp [hpa.mpr h.2]⟩
      by_contra hc
      exact (hep.mp (by simpa using hc)) h.1
    rw [hif, hb']
    simp only [Bool.false_eq_true, if_false]
    refine ⟨fun g => ?_, ?_⟩
    · rw [hb.1 g]
      simp only [within_iff_fits, decide_eq_true_eq, decide_eq_false_iff_not, fits_frameEnded]
      constructor
      · rintro ⟨a, b, c, d⟩; exact ⟨a, b, ⟨h.1, h.2, c⟩, d⟩
      · rintro ⟨a, b, c, d⟩; exact ⟨a, b, c.2.2, d⟩
    · rw [hb.2]
      simp only [within_iff_fits, decide_eq_false_iff_not, fits_frameEnded]
      constructor
      · intro hh g a b hf; exact hh g a b hf.2.2
      · intro hh g a b hf; exact hh g a b ⟨h.1, h.2, hf⟩
  · have hif : ((frameEnded s i).episodeOpen || !(frameEnded s i).passesOrdering i ((frameEnded s i).slot i).cfg.cls) = true := by
      rw [Bool.or_eq_true]
      by_contra hc
      rw [not_or] at hc
      apply h
      refine ⟨?_, ?_⟩
      · by_contra h1; exact hc.1 (hep.mpr h1)
      · by_contra h1
        apply hc.2
        simp only [Bool.not_eq_true']
        rw [Bool.eq_false_iff]
        intro h2; exact h1 (hpa.mp h2)
    rw [hif]
    simp only [if_true]
    refine ⟨fun g => ?_, ?_⟩
    · simp only [reduceCtorEq, false_iff]; rintro ⟨_, _, c, _⟩; exact h ⟨c.1, c.2.1⟩
    · simp only [true_iff]; intro g _ _ c; exact h ⟨c.1, c.2.1⟩

theorem find_slot_eq_entryOf (s : State) (i : SlotId) : s.waitList.find? (fun e => decide (e.slot = i)) = s.entryOf i := rfl

/-- The start of a reclaim (R125), said at once. -/
theorem startReclaim_eq_reclaimStarted (s : State) (i : SlotId) (target : Nat) (cause : ReclaimCause) : s.startReclaim i target cause = reclaimStarted s i target cause := by
  unfold State.startReclaim reclaimStarted
  simp only [modSlot_eq, Timer.start, SlotConfig.windowTicks, Config.ticksPerUnit]
  generalize hu : (withSlot s i
      { s.slot i with
        lease := none
        reclaim := some { target := target, cause := cause, phase := .reclaiming, window := some (10 * (s.slot i).cfg.reclaimWindow),
                          basis := none, liftPending := false } }).report .reclaimStart i target (causeCode cause) 0 = u
  have hcfg : (u.slot i).cfg = (s.slot i).cfg := by rw [← hu]; simp [withSlot_slot]
  have hent : u.entryOf i = s.entryOf i := by rw [← hu]; simp [State.entryOf, withSlot]
  rw [find_slot_eq_entryOf]
  unfold State.dropForReclaim
  rw [hent]
  cases he : s.entryOf i with
  | none => simp [State.followUpIf, State.sendReclaim, hcfg]
  | some e =>
    have hei : e.slot = i := by simpa using List.find?_some he
    simp only [Option.isSome_some, State.followUpIf, if_true, dropEntry_eq_entryDropped, dropCode, State.sendReclaim]
    unfold State.noticeDropped
    cases hk : e.kind with
    | admission => simp [entryDropped_slot, hcfg]
    | step a f =>
      simp only [State.notice, hei]
      congr 2
      simp [modLink_eq, withSlot_slot, entryDropped_slot, hcfg]

/-- The retarget of a reclaim (R135, R148), said at once. -/
theorem retargetReclaim_eq_reclaimRetargeted (s : State) (i : SlotId) (c : Card) (r : Reclaim) (target : Nat) (cause : ReclaimCause)
    (hc : (s.slot i).card = some c ∨ ∃ c', (s.slot i).card = some c' ∧ ∀ k, c'.draw k = c.draw k) :
    s.retargetReclaim i c r target cause = reclaimRetargeted s i c r target cause := by
  unfold State.retargetReclaim reclaimRetargeted
  have hrem : ∀ u : State, (u.slot i).card = (s.slot i).card → (u.slot i).charge = (s.slot i).charge → u.remainingFor i target = (s.slot i).charge - c.draw target := by
    intro u h1 h2
    unfold State.remainingFor
    rw [h1, h2]
    rcases hc with hc | ⟨c', hc, hd⟩
    · rw [hc]
    · rw [hc]; simp [hd]
  have key : ∀ sl : Slot, sl.card = (s.slot i).card → sl.charge = (s.slot i).charge → sl.cfg = (s.slot i).cfg → sl.link = (s.slot i).link →
     ((((withSlot s i sl).report .reclaimStart i target (causeCode cause) 0).sendReclaim i target).retargetVictim i target) =
     (let u := (withSlot s i { sl with link := Link.placeReclaim target (s.slot i).cfg.reclaimWindow (s.slot i).link }).report .reclaimStart i target (causeCode cause) 0
      { u with
        episode :=
          { u.episode with
            victims := u.episode.victims.map (fun v =>
              if v.slot = i then { v with target := target, remaining := (s.slot i).charge - c.draw target } else v) } }) := by
    intro sl h1 h2 h3 h4
    have e1 : (((withSlot s i sl).report .reclaimStart i target (causeCode cause) 0).sendReclaim i target) = (withSlot s i { sl with link := Link.placeReclaim target (s.slot i).cfg.reclaimWindow (s.slot i).link }).report .reclaimStart i target (causeCode cause) 0 := by
      simp only [State.sendReclaim, modLink_eq, withSlot_slot, report_withSlot, withSlot_withSlot, h3, h4]
    rw [e1]
    unfold State.retargetVictim State.setVictims State.setEpisode
    rw [hrem _ (by simp [withSlot_slot, h1]) (by simp [withSlot_slot, h2])]
  rw [modSlot_eq]
  unfold Slot.retarget
  cases hp : r.phase
  · exact key _ rfl rfl rfl rfl
  · exact key _ rfl rfl rfl rfl
  · exact key _ rfl rfl rfl rfl

/-- Start, retarget or neither (R136). -/
theorem reclaimTo_eq (s : State) (i : SlotId) (c : Card) (target : Nat) (cause : ReclaimCause)
    (hc : (s.slot i).card = some c ∨ ∃ c', (s.slot i).card = some c' ∧ ∀ k, c'.draw k = c.draw k) :
    s.reclaimTo i c target cause = match (s.slot i).reclaim with
      | none => reclaimStarted s i target cause
      | some r => if target < r.target then reclaimRetargeted s i c r target cause else s := by
  unfold State.reclaimTo
  cases (s.slot i).reclaim with
  | none => exact startReclaim_eq_reclaimStarted _ _ _ _
  | some r => simp only [retargetReclaim_eq_reclaimRetargeted s i c r target cause hc]

/-- A strobe under RESET# reads 0 (R159). -/
@[simp] theorem busRead_asserted (s : State) (addr : BitVec 6) : s.busRead ⟨addr, true⟩ = 0 := rfl

/-- A strobe with RESET# released reads its register (R159). -/
@[simp] theorem busRead_released (s : State) (addr : BitVec 6) : s.busRead ⟨addr, false⟩ = s.read addr := rfl

/-- A write under RESET# is ignored (R159). -/
@[simp] theorem busWrite_asserted (s : State) (addr : BitVec 6) (v : Half) : s.busWrite ⟨addr, true⟩ v = s := rfl

/-- A write with RESET# released goes to its register (R159). -/
@[simp] theorem busWrite_released (s : State) (addr : BitVec 6) (v : Half) : s.busWrite ⟨addr, false⟩ v = s.write addr v := rfl

/-- The gap timer at a tick with a byte under way: both ticks are to come (R49). -/
@[simp] theorem gapAtTick_underWay (ended : Bool) (gap : Timer) : gapAtTick ended true gap = some 2 := rfl

/-- The gap timer at the first tick after a byte: one tick is left (R49). -/
@[simp] theorem gapAtTick_ended (gap : Timer) : gapAtTick true false gap = some 1 := rfl

/-- The gap timer at a tick without a byte counts (R49). -/
@[simp] theorem gapAtTick_silent (gap : Timer) : gapAtTick false false gap = gap.tick := rfl

/-- The welcomed HELLO, repeated as a new request in ACTIVE, draws its WELCOME (R81). -/
theorem helloInActive_repeated {s : State} {i : SlotId} {c : Card} (h : (s.slot i).card = some c) :
    s.helloInActive i c.helloTag c.cardId c.declaredFloor c.draws = s.answer i .hello c.helloTag c.welcome := by
  simp [State.helloInActive, Card.repeats, h]

/-- Any other new HELLO in ACTIVE is refused (R72). -/
theorem helloInActive_other {s : State} {i : SlotId} {tag : BitVec 3} {cardId : BitVec 32} {floor : Nat} {draws : List Nat}
    (h : ∀ c, (s.slot i).card = some c → ¬ (c.helloTag = tag ∧ c.cardId = cardId ∧ c.declaredFloor = floor ∧ c.draws = draws)) :
    s.helloInActive i tag cardId floor draws = s.refuse i .hello tag .alreadyDeclared := by
  unfold State.helloInActive
  split
  · rename_i c hc
    rw [if_neg]
    simpa [Card.repeats, and_assoc] using h c hc
  · rfl

/-- A completed frame acts as the row it is judged to be (R53, R54). -/
theorem exec_frameCommand (s : State) (i : SlotId) (f : RxFrame) :
   exec (frameCommand i f) s = .next (s.takeFrame i f) := by
  unfold State.takeFrame
  unfold frameCommand
  split
  · rename_i hk
    simp [exec, execLinkFrameDiscarded, passesChecks, hk]
  · rename_i k hk
    dsimp only
    cases hp : passesChecks f
    · simp [exec, execLinkFrameDiscarded, hp]
    · cases hl : lengthSuits k f.payload
      · simp [exec, execMalformed, hl]
      · cases k <;> simp [exec, execHello, execAsk, execYield, execWithdraw, execRenew, execConfirm, execAck]

end Sys2Proof.Laws
end

