-- ==== Sys2Proof/Tests/Slice0.lean ====
section
/-! SUPPORT. Small tests of the model, with expected values from the manual, and a witness for each statement that has hypotheses. -/

namespace Sys2Proof.Tests

open Machine Safety

set_option maxRecDepth 20000

/-! The shelf of chapter 11. -/

/-- A card that has declared `draws` with floor 0 and holds step `held`. -/
def cardAt (draws : List Nat) (held : Nat) : Card :=
  { cardId := 0, draws := draws, declaredFloor := 0, held := held, effFloor := 0, usableTop := draws.length - 1
    helloTag := 7, welcome := .welcome (draws.length - 1) 0 1 }

/-- An ACTIVE slot of class `cls` with that card. -/
def seat (cls held : Nat) (draws : List Nat) : Slot :=
  { Slot.reset with
    state := .active, enabled := true, cfg := { SlotConfig.reset with cls := cls }, charge := draws.getD held 0
    card := some (cardAt draws held), pres := Debounce.rest true, swen := true, run := true
    link := { Link.reset with asm := .hunt } }

/-- The shelf of chapter 11 with the held steps of slots 0 to 3. -/
def shelf (h0 h1 h2 h3 : Nat) : State :=
  { State.reset with
    profiles := #v[250, 70, 0, 0], capacity := 250, policy := { mode := .fit, limit := 2, preempt := false }
    slots := #v[seat 1 h0 [20, 60, 100], seat 0 h1 [10, 50, 90], seat 2 h2 [30, 80, 160], seat 1 h3 [15, 40],
                Slot.reset, Slot.reset, Slot.reset, Slot.reset] }

/-- The state with slot i changed by f. -/
def inSlot (i : SlotId) (f : Slot → Slot) (s : State) : State := withSlot s i (f (s.slot i))

/-- The state after a command; the same state if the command stopped. -/
def after (c : Instr) (s : State) : State :=
  match exec c s with
  | .next t => t
  | .fault _ => s
  | .refused _ => s

/-- A command queue entry. -/
def entry (code p0 p1 p2 : Half) : CmdEntry := { code := code, p0 := p0, p1 := p1, p2 := p2 }

/-- The state with one entry in the command queue. -/
def queued (e : CmdEntry) (s : State) : State := { s with cmdQueue := [e] }

/-- The state with a wait list. -/
def waiting (l : List WaitEntry) (s : State) : State := { s with waitList := l }

/-- A STEP entry. -/
def stepEntry (i : SlotId) (cls asked floor : Nat) : WaitEntry :=
  { slot := i, kind := .step asked floor, cls := cls, overtaken := 0, anchored := false, beneficiary := false }

/-- An ADMIT entry. -/
def admitEntry (i : SlotId) (cls : Nat) : WaitEntry :=
  { slot := i, kind := .admission, cls := cls, overtaken := 0, anchored := false, beneficiary := false }

/-- A slot without a card record in a powered state or in CUTTING. -/
def bare (state : SlotState) (charge : Nat) : Slot :=
  { Slot.reset with state := state, enabled := true, charge := charge, pres := Debounce.rest true, swen := true }

/-- A slot in SETTLING, LISTENING, ADMITTING, CUTTING. -/
def settling : Slot := { bare .settling 20 with settle := some 0 }
def listening : Slot := { bare .listening 20 with hello := some 0, link := { Link.reset with asm := .hunt } }
def admitting : Slot := { bare .admitting 0 with swen := false }
def cutting (reason : CutReason) : Slot := { bare .cutting 90 with swen := false, cutReason := some reason, discharge := some 0 }

/-- A reclaim of the slot in its first phase. -/
def reclaiming (target : Nat) (cause : ReclaimCause) (t : Slot) : Slot :=
  { t with
    reclaim := some { target := target, cause := cause, phase := .reclaiming, window := some 0, basis := none, liftPending := false } }

/-- Slot 2 of the shelf held at step 2 and paced at width 11 to step 1, charge 30 + ceil(130 * 11 / 31) = 77. -/
def pacedSlot : Slot :=
  { seat 2 2 [30, 80, 160] with
    charge := 77, curWidth := some 11, run := true
    reclaim := some { target := 1, cause := .host, phase := .paced, window := none, basis := some 2, liftPending := false } }

/-! Well-formedness refuses each ill-formed operand, and takes the values at its bounds. -/

theorem test_wf_badLength : WellFormed (.frameAbandoned 0 (.badLength 20)) = false ∧ WellFormed (.frameAbandoned 0 (.badLength 21)) = true := by
  decide
theorem test_wf_discarded : WellFormed (.linkFrameDiscarded 0 { kind := 0x07, ctl := 0x08, payload := [], crc := 0x53 }) = false
    ∧ WellFormed (.linkFrameDiscarded 0 { kind := 0x22, ctl := 0, payload := List.replicate 21 0, crc := 0 }) = false := by decide
theorem test_wf_malformed : WellFormed (.malformed 0 .yield 0 [1]) = false
    ∧ WellFormed (.malformed 0 .yield 0 (List.replicate 21 0)) = false ∧ WellFormed (.malformed 0 .yield 0 []) = true := by decide
theorem test_wf_hello : WellFormed (.hello 0 0 0 0 (List.replicate 8 1)) = false ∧ WellFormed (.hello 0 0 0 0 (List.replicate 7 1)) = true := by
  decide
theorem test_wf_registerWrite : ∀ a ∈ ([0x03, 0x04, 0x0B, 0x15, 0x21] : List (BitVec 6)), WellFormed (.registerWrite ⟨a, false⟩ 0) = false
    ∧ WellFormed (.registerWrite ⟨a, true⟩ 0) = true := by
  decide
theorem test_wf_syncReceived : WellFormed (.syncReceived 0 [21]) = false ∧ WellFormed (.syncReceived 0 [0, 1, 2, 3]) = false
    ∧ WellFormed (.syncReceived 0 [0, 1, 2]) = true := by decide
theorem test_wf_unknownCode : WellFormed (.unknownCommandCode 1 0) = false ∧ WellFormed (.unknownCommandCode 10 0) = false
    ∧ WellFormed (.unknownCommandCode 11 0) = true := by decide
theorem test_wf_unknownField : WellFormed (.slotConfigUnknownField 0 10 0) = false
    ∧ WellFormed (.slotConfigUnknownField 0 11 0) = true := by decide

/-! Frames, with bytes and CRCs worked by hand from 12.1 and R50. -/

theorem test_crc_check_string : crc8 [0x31, 0x32, 0x33, 0x34, 0x35, 0x36, 0x37, 0x38, 0x39] = 0xF4 := by decide
theorem test_frame_ask : frameCommand 3 { kind := 0x02, ctl := 0x05, payload := [2, 2, 1], crc := 0x0A } = .ask 3 5 2 2 1 := by decide
theorem test_frame_ack : frameCommand 1 { kind := 0x07, ctl := 0x08, payload := [], crc := 0x53 } = .ack 1 true := by decide
theorem test_frame_ack_tag_ignored : frameCommand 1 { kind := 0x07, ctl := 0x0D, payload := [], crc := 0x48 } = .ack 1 true := by decide
theorem test_frame_withdraw : frameCommand 0 { kind := 0x04, ctl := 0x06, payload := [], crc := 0x46 } = .withdraw 0 6 := by decide
theorem test_frame_hello :
    frameCommand 0 { kind := 0x01, ctl := 0x01, payload := [4, 3, 2, 1, 2, 0, 0x14, 0, 0x3C, 0], crc := 0x6C }
      = .hello 0 1 0x01020304 0 [20, 60] := by decide
theorem test_frame_malformed : frameCommand 0 { kind := 0x03, ctl := 0x02, payload := [0], crc := 0x81 } = .yield 0 2 0
    ∧ frameCommand 0 { kind := 0x03, ctl := 0x02, payload := [0], crc := 0x82 }
        = .linkFrameDiscarded 0 { kind := 0x03, ctl := 0x02, payload := [0], crc := 0x82 } := by decide
theorem test_frame_grant : ltxFrame (.reply 5 (.grant 1 0)) = [0xC3, 0x02, 0x82, 0x05, 0x01, 0x00, 0x0C] := by decide
theorem test_no_word_spells_a_command : decodeTableWord 16 0 = none := by decide

/-! The tick and the timers. -/

theorem test_tick_counts : (after (.tick true false 0x01 ⟨0, 0⟩) State.reset).frameCounter = 1
    ∧ (after (.tick true false 0x01 ⟨0, 0⟩) State.reset).src = { value := 0, pending := some (2, 1) } := by decide
theorem test_tick_wraps : (after (.tick false false 0 ⟨0, 0⟩) { State.reset with frameCounter := 30 }).frameCounter = 0 := by decide
theorem test_tick_run_pattern :
    ((after (.tick false false 0xFF ⟨0, 0⟩) { inSlot 2 (fun _ => pacedSlot) (shelf 0 0 2 0) with frameCounter := 17 }).slot 2).run = true
    ∧ ((after (.tick false false 0xFF ⟨0, 0⟩) { inSlot 2 (fun _ => pacedSlot) (shelf 0 0 2 0) with frameCounter := 18 }).slot 2).run = false := by
  decide
/-- R49: an ended byte starts the timer and this tick is its first; a byte under way starts it when it ends; otherwise it counts on. -/
theorem test_tick_gap :
    let s := inSlot 0 (fun t => { t with link := { t.link with asm := .length, gap := some 1 } }) (shelf 0 0 0 0)
    ((after (.tick false false 0xFF ⟨0x01, 0⟩) s).slot 0).link.gap = some 1 ∧ ((after (.tick false false 0xFF ⟨0, 0x01⟩) s).slot 0).link.gap = some 2
      ∧ ((after (.tick false false 0xFF ⟨0, 0⟩) s).slot 0).link.gap = some 0 ∧ ((after (.tick false false 0xFF ⟨0, 0x03⟩) s).slot 1).link.gap = none := by
  decide
/-- R49: a SYNC after the expiry of the gap timer is taken in HUNT like any other. -/
theorem test_sync_after_gap_expiry :
    let s := inSlot 0 (fun t => { t with link := { t.link with asm := .body 4 [2], gap := some 0 } }) (shelf 0 0 0 0)
    ((after (.syncReceived 0 []) s).slot 0).link.asm = .length ∧ ((after (.syncReceived 0 []) s).slot 0).link.gap = some 2 := by decide
/-- R159: writes strobed while RESET# is asserted are ignored. -/
theorem test_reset_ignores_writes : (after (.registerWrite ⟨0x08, true⟩ 7) (after .pinReset (shelf 1 0 0 0))).cmdP0 = 0
    ∧ (after (.registerWrite ⟨0x0B, true⟩ 2) (after .pinReset (shelf 1 0 0 0))).cmdQueue = []
    ∧ (shelf 1 0 0 0).busRead ⟨0x00, true⟩ = 0 ∧ (shelf 1 0 0 0).busRead ⟨0x00, false⟩ = 0xB8A1 := by decide
theorem test_src_takes_profile : (after .srcDebounceTaken { shelf 0 0 0 0 with src := { value := 0, pending := some (1, 20) } }).capacity = 70 := by
  decide
theorem test_arrival_powers : ((after (.arrivalOfPresence 4) (inSlot 4 (fun t => { t with enabled := true, pres := { value := false, pending := some (true, 50) } })
    (shelf 0 0 0 0))).slot 4).charge = 20 := by decide
theorem test_loss_cuts : ((after (.lossOfPresence 0) (inSlot 0 (fun t => { t with pres := { value := true, pending := some (false, 50) } })
    (shelf 0 0 0 0))).slot 0).cutReason = some .removed := by decide
theorem test_settle_listens : ((after (.settleTimerExpiry 4) (inSlot 4 (fun _ => settling) (shelf 0 0 0 0))).slot 4).hello = some 500 := by decide
theorem test_hello_timeout_cuts : ((after (.helloTimerExpiry 4) (inSlot 4 (fun _ => listening) (shelf 0 0 0 0))).slot 4).discharge = some 50 := by
  decide
theorem test_fault_cuts : ((after (.switchFault 1) (shelf 0 2 0 0)).slot 1).charge = 90 ∧ ((after (.switchFault 1) (shelf 0 2 0 0)).slot 1).swen = false := by
  decide
theorem test_cut_done_locks : ((after (.cutCompletion 4) (inSlot 4 (fun _ => cutting .fault) (shelf 0 0 0 0))).slot 4).state = .locked := by decide
/-- R37 item 6: the card of a REMOVED cut is back, and its arrival starts admission. -/
theorem test_cut_done_card_back : ((after (.cutCompletion 4) (inSlot 4 (fun _ => cutting .removed) (shelf 0 0 0 0))).slot 4).state = .settling := by decide
theorem test_lease_starts_lapse : (((after (.leaseExpiry 0) (inSlot 0 (fun t => { t with lease := some 0 }) (shelf 2 0 0 0))).slot 0).reclaim.map
    Reclaim.cause) = some .lapse := by decide
/-- Chapter 11, t = 200: basis step 1, target 0, so the width is 0. -/
theorem test_window_width : ((after (.reclaimWindowExpiry 2) (inSlot 2 (reclaiming 0 .shed) (shelf 0 0 1 0))).slot 2).pendWidth = some 0 := by decide
/-- Chapter 11, t = 225: the paced charge of width 0 is draw(0), 30. -/
theorem test_frame_start_paces : ((after (.frameStart 2) (inSlot 2 (fun t => { reclaiming 0 .shed t with
    reclaim := some { target := 0, cause := .shed, phase := .pacePending, window := none, basis := some 1, liftPending := false }
    pendWidth := some 0, frameDue := true }) (shelf 0 0 1 0))).slot 2).charge = 30 := by decide
/-- The two worked checks of R133. -/
theorem test_paced_width : pacedWidth 5 45 25 = 15 ∧ pacedCharge 5 45 15 = 25 ∧ pacedWidth 10 130 40 = 7 ∧ pacedCharge 10 130 7 = 38 := by
  decide

/-! The link. -/

theorem test_sync_then_bytes : ((after (.syncReceived 0 [3, 0x02]) (shelf 0 0 0 0)).slot 0).link.asm = .body 3 [0x02] := by decide
theorem test_gap_abandons : ((after (.gapTimerExpiry 0) (inSlot 0 (fun t => { t with link := { t.link with asm := .body 3 [2], gap := some 0 } })
    (shelf 0 0 0 0))).slot 0).link.asm = .hunt := by decide
theorem test_malformed_refused : ((after (.malformed 0 .ask 5 [1]) (shelf 0 0 0 0)).slot 0).link.tx = .reply 5 (.refuse .malformed) := by decide
theorem test_ack_empties : ((after (.ack 0 true) (inSlot 0 (fun t => { t with link := { t.link with
    outstanding := some { msg := .notice .paced 0, seq := true, retries := 1, window := some 3, due := false } } }) (shelf 0 0 0 0))).slot 0).link.outstanding
      = none := by decide
theorem test_transmitted_starts_window : (((after (.frameTransmitted 0) (inSlot 0 (fun t => { t with link := { t.link with
    tx := .message (.notice .paced 0) true
    outstanding := some { msg := .notice .paced 0, seq := true, retries := 0, window := none, due := false } } }) (shelf 0 0 0 0))).slot 0).link.outstanding.map
      Outstanding.window) = some (some 20) := by decide
theorem test_fourth_expiry_silent : ((after (.replyWindowExpiry 0) (inSlot 0 (fun t => { t with link := { t.link with
    outstanding := some { msg := .notice .paced 0, seq := true, retries := 3, window := some 0, due := false } } }) (shelf 0 0 0 0))).slot 0).cutReason
      = some .silent := by decide

/-! The requests, with the figures of chapter 11. -/

/-- Chapter 11, t = 154: slot 2 declares 30 BU over its admission charge of 20. -/
theorem test_hello_declares : ((after (.hello 2 1 0 0 [30, 80, 160]) (inSlot 2 (fun _ => listening) (shelf 0 0 0 0))).slot 2).charge = 30
    ∧ ((after (.hello 2 1 0 0 [30, 80, 160]) (inSlot 2 (fun _ => listening) (shelf 0 0 0 0))).slot 2).link.tx = .reply 1 (.welcome 2 0 1) := by decide
/-- R81: after a granted ASK the welcomed HELLO, tag 1, still draws its WELCOME, and a HELLO of another tag is refused. -/
theorem test_hello_repeated :
    let s := { after (.hello 2 1 0 0 [30, 80, 160]) (inSlot 2 (fun _ => listening) (shelf 0 0 0 0)) with reports := [] }
    let t := after (.frameTransmitted 2) (after (.ask 2 2 2 2 1) (after (.frameTransmitted 2) s))
    ((after (.hello 2 1 0 0 [30, 80, 160]) t).slot 2).link.tx = .reply 1 (.welcome 2 0 1)
      ∧ ((after (.hello 2 3 0 0 [30, 80, 160]) t).slot 2).link.tx = .reply 3 (.refuse .alreadyDeclared)
      ∧ ((after (.hello 2 1 0 0 [30, 80, 161]) t).slot 2).link.tx = .reply 1 (.refuse .alreadyDeclared) := by decide
/-- R83: an ASK refused in LISTENING and repeated in ACTIVE draws NOT_DECLARED again, reported; with a new tag it is granted. -/
theorem test_undeclared_repeated :
    let s := after (.frameTransmitted 2) (after (.ask 2 4 1 1 0) (inSlot 2 (fun _ => listening) (shelf 0 0 0 0)))
    let t := after (.frameTransmitted 2) (after (.hello 2 1 0 0 [30, 80, 160]) s)
    ((after (.ask 2 4 1 1 0) t).slot 2).link.tx = .reply 4 (.refuse .notDeclared) 
      ∧ ((after (.ask 2 4 1 1 0) t).reports.getLast?.map Report.kind) = some .refused ∧ (after (.ask 2 4 1 1 0) t).committed = t.committed
      ∧ ((after (.ask 2 5 1 1 0) t).slot 2).link.tx = .reply 5 (.grant 1 0)
      ∧ ((after (.ask 2 5 1 1 0) t).slot 2).link.undeclared = [] := by decide
/-- Chapter 11, t = 160: slot 2 asks for step 2 and is granted 160. -/
theorem test_ask_granted : (after (.ask 2 2 2 2 1) (shelf 0 0 0 0)).committed = 205
    ∧ ((after (.ask 2 2 2 2 1) (shelf 0 0 0 0)).slot 2).link.tx = .reply 2 (.grant 2 0) := by decide
/-- Chapter 11: slot 0 needs 80 against 45 and is deferred at position 1. -/
theorem test_ask_deferred : (after (.ask 0 2 2 2 1) (shelf 0 0 2 0)).waitList = [stepEntry 0 1 2 2]
    ∧ ((after (.ask 0 2 2 2 1) (shelf 0 0 2 0)).slot 0).link.tx = .reply 2 (.defer 1) := by decide
/-- Chapter 11: slot 3's YIELD lets the walk grant slot 1 step 1 past slot 0, which becomes anchored at the limit of 2. -/
theorem test_yield_walk :
    let s := after (.yield 3 1 0) (waiting [{ stepEntry 0 1 2 2 with overtaken := 1 }, stepEntry 1 0 1 1] (shelf 0 0 2 1))
    (s.slot 1).charge = 50 ∧ s.waitList = [{ stepEntry 0 1 2 2 with overtaken := 2, anchored := true }] := by decide
theorem test_withdraw : (after (.withdraw 0 1) (waiting [stepEntry 0 1 2 2] (shelf 0 0 2 0))).waitList = [] := by decide
theorem test_renew : ((after (.renew 0 1) (inSlot 0 (fun t => { t with cfg := { t.cfg with lease := 3 } }) (shelf 1 0 0 0))).slot 0).lease = some 3000 := by
  decide
/-- Chapter 11: slot 0's CONFIRM(1) closes the preemption, and slot 2 is granted 160. -/
theorem test_confirm_closes_preempt :
    let s := after (.confirm 0 1 1)
      { waiting [{ stepEntry 2 2 2 2 with beneficiary := true }, stepEntry 3 1 1 1] (inSlot 0 (reclaiming 1 .shed) (shelf 2 0 1 0)) with
        episode := { kind := .preempt, beneficiary := some 2, target := 35, victims := [{ slot := 0, target := 1, remaining := 40 }], cuts := [] } }
    s.committed = 245 ∧ (s.slot 2).charge = 160 ∧ s.episode.kind = .none ∧ s.waitList = [stepEntry 3 1 1 1] := by decide

/-! The host. -/

/-- Chapter 11: the supply drop takes over the preemption; slot 1 is cut, slots 0 and 2 are victims, E is 180. -/
theorem test_takeover :
    let s := after .srcDebounceTaken
      { waiting [{ stepEntry 2 2 2 2 with beneficiary := true }] (inSlot 1 (reclaiming 0 .shed) (shelf 1 2 1 0)) with
        src := { value := 0, pending := some (1, 20) }
        episode := { kind := .preempt, beneficiary := some 2, target := 75, victims := [{ slot := 1, target := 0, remaining := 80 }], cuts := [] } }
    s.episode.victims = [{ slot := 0, target := 0, remaining := 40 }, { slot := 2, target := 0, remaining := 50 }]
      ∧ s.episode.cuts = [{ slot := 1, counted := 90 }] ∧ s.waitList = [] := by decide
theorem test_push : (after (.cmdCodeWrite 2) { State.reset with cmdP0 := 3 }).cmdQueue = [entry 2 3 0 0] := by decide
theorem test_push_overrun : (after (.cmdCodeWrite 2) { State.reset with cmdQueue := List.replicate 4 (entry 2 0 0 0) }).cmdOverrun = true := by decide
theorem test_pop : (after .reportPop { State.reset with reports := [chipReport .gap 1 0 0] }).reports = [] := by decide
theorem test_events_write : (after (.eventsWrite 2) { State.reset with gapSeen := true, cmdOverrun := true }).events = 1 := by decide
theorem test_irq_enable_write : (after (.irqEnableWrite 0xFFFF) State.reset).irqEnable = 0x7F := by decide
theorem test_register_write : (after (.registerWrite ⟨0x08, false⟩ 7) State.reset).cmdP0 = 7 ∧ after (.registerWrite ⟨0x0C, false⟩ 7) State.reset = State.reset := by
  decide
theorem test_enabled_field : ((after (.slotConfigEnabled 4 1) State.reset).slot 4).enabled = true := by decide
theorem test_class_field : ((after (.slotConfigClass 4 4) State.reset).reports.map Report.b) = [3] := by decide
theorem test_cap_field : ((after (.slotConfigCap 0 19) (shelf 0 0 0 0)).reports.map Report.b) = [4]
    ∧ (((after (.slotConfigCap 0 20) (shelf 2 0 0 0)).slot 0).reclaim.map Reclaim.target) = some 0 := by decide
theorem test_admission_field : ((after (.slotConfigAdmissionCharge 4 255) State.reset).slot 4).cfg.admission = 255 := by decide
theorem test_lease_field : ((after (.slotConfigLease 4 0) State.reset).reports.map Report.b) = [0] := by decide
theorem test_settle_field : ((after (.slotConfigSettle 4 0) State.reset).reports.map Report.b) = [3] := by decide
theorem test_discharge_field : ((after (.slotConfigDischarge 4 1) State.reset).slot 4).cfg.discharge = 1 := by decide
theorem test_hello_field : ((after (.slotConfigHelloTimeout 4 9) State.reset).reports.map Report.b) = [3] := by decide
theorem test_reply_field : ((after (.slotConfigReplyWindow 4 2) State.reset).slot 4).cfg.replyWindow = 2 := by decide
theorem test_window_field : ((after (.slotConfigReclaimWindow 8 2) State.reset).reports.map Report.b) = [2] := by decide
/-- R46: the configuration record shows the effective floor, clipped, and 0xFF for a slot with no step table. -/
theorem test_override_shown :
    let s := after (.slotConfigFloorOverride 0 5) (shelf 0 0 0 0)
    (after (.slotRecordSnapshot 8) s).read 0x2D = 0x0214 ∧ (after (.slotRecordSnapshot 15) s).read 0x2D = 0xFF14 := by decide
theorem test_override_field : (((after (.slotConfigFloorOverride 0 5) (shelf 0 0 0 0)).slot 0).card.map Card.effFloor) = some 2 := by decide
theorem test_unknown_field : ((after (.slotConfigUnknownField 0 11 0) State.reset).reports.map Report.b) = [3] := by decide
theorem test_enable : ((after (.enable 4) (inSlot 4 (fun t => { t with state := .disabled, pres := Debounce.rest true }) (shelf 0 0 0 0))).slot 4).state
    = .settling := by decide
theorem test_disable : ((after (.disable 0) (shelf 0 0 0 0)).slot 0).cutReason = some .host := by decide
theorem test_restore : ((after (.restore 0) (shelf 0 0 0 0)).reports.map Report.b) = [4] := by decide
theorem test_host_reclaim : (((after (.reclaim 0 1) (shelf 2 0 0 0)).slot 0).reclaim.map Reclaim.target) = some 1 := by decide
theorem test_drop_wait : (after (.dropWait 0) (waiting [stepEntry 0 1 2 2] (shelf 0 0 2 0))).waitList = [] := by decide
theorem test_set_profile : (after (.setProfile 0 250) State.reset).capacity = 250 ∧ (after (.setProfile 0 250) State.reset).reports.map Report.kind
    = [.result, .capacity] := by decide
theorem test_set_reserve : ((after (.setReserve 46 0) (shelf 0 0 2 0)).reports.map Report.b) = [5]
    ∧ (after (.setReserve 45 0) (shelf 0 0 2 0)).reserve = 45 := by decide
theorem test_set_policy : (after (.setPolicy 1 7 1) State.reset).policy = { mode := .strict, limit := 7, preempt := true } := by decide
theorem test_restart : ((after .restart (shelf 0 0 0 0)).slot 3).cutReason = some .restart := by decide
theorem test_unknown_code : ((after (.unknownCommandCode 11 9) State.reset).reports.map Report.b) = [1] := by decide
theorem test_slot_snapshot : (after (.slotRecordSnapshot 0) (shelf 1 0 0 0)).read 0x29 = 60
    ∧ (after (.slotRecordSnapshot 16) (shelf 1 0 0 0)).read 0x28 = 0xFFFF := by decide
theorem test_step_table_snapshot : (after (.stepTableSnapshot 3) { shelf 0 0 0 0 with tableSel := 1 }).read 0x28 = 15 + 2 * 4096 := by decide
theorem test_wait_snapshot : (after (.waitEntrySnapshot 1) { waiting [stepEntry 0 1 2 2] (shelf 0 0 2 0) with tableSel := 2 }).read 0x28 = 0x30 := by
  decide
theorem test_episode_snapshot : (after (.episodeRecordSnapshot 0) { shelf 0 0 0 0 with tableSel := 3 }).read 0x2E = 2 := by decide
theorem test_profile_snapshot : (after (.profileSnapshot 1) { shelf 0 0 0 0 with tableSel := 4 }).read 0x28 = 70 := by decide
theorem test_recency_snapshot : (after (.recencyListSnapshot 0) { shelf 0 0 0 0 with tableSel := 5, recency := [2] }).read 0x28 = 2
    ∧ (after (.recencyListSnapshot 0) { shelf 0 0 0 0 with tableSel := 5, recency := [2] }).read 0x29 = 15 := by decide
theorem test_no_table : (after (.tableIndexWriteNoTable 0) { State.reset with tableSel := 6 }).read 0x28 = 0xFFFF := by decide

/-! Witnesses. Each shows concrete states and operands that meet the hypotheses of the statement it is named after, clause by clause. -/

theorem shelf_inv : BlockInv (shelf 0 0 2 0) := by constructor <;> decide

theorem witness_StepTakesFrontCommand : ({ State.reset with pending := [.reportPop, .restart] } : State).pending = .reportPop :: [.restart]
    ∧ State.reset.pending = [] := by decide

theorem witness_StepKeepsInvariant : BlockInv { shelf 0 0 2 0 with pending := [.yield 2 1 1] }
    ∧ ∃ t, step { shelf 0 0 2 0 with pending := [.yield 2 1 1] } = .next t := ⟨by constructor <;> decide, _, rfl⟩

/-- The queues and the counter at their bounds. -/
def brimming : State :=
  { State.reset with
    tickDivider := 3999, frameCounter := 30, reports := List.replicate 31 (slotReport .powered 0 20 0 0) ++ [chipReport .gap 1 0 0]
    cmdQueue := List.replicate 4 (entry 2 0 0 0), profiles := Vector.replicate 4 4095, capacity := 4095, reserve := 4095
    policy := { mode := .fit, limit := 7, preempt := false }, pending := [.switchFault 0] }

theorem witness_StepKeepsQueuesAndRanges : (ReportForm brimming ∧ ConfigForm brimming ∧ FiguresForm brimming ∧ CommandForm brimming
    ∧ CounterForm brimming) ∧ ∃ t, step brimming = .next t := ⟨by decide, _, rfl⟩

theorem witness_FiguresHaveTheirWriters : (∃ t, exec (.switchFault 0) (shelf 0 0 2 0) = .next t) ∧ Instr.switchFault 0 ≠ .pinReset
    ∧ (∀ a b p l, Instr.switchFault 0 ≠ .tick a b p l) ∧ (∀ p v, Instr.switchFault 0 ≠ .setProfile p v)
    ∧ (∀ m l p, Instr.switchFault 0 ≠ .setPolicy m l p) ∧ (∀ a f, Instr.switchFault 0 ≠ .setReserve a f)
    ∧ (∀ a v, Instr.switchFault 0 ≠ .registerWrite ⟨a, false⟩ v) ∧ (∀ v, Instr.switchFault 0 ≠ .irqEnableWrite v)
    ∧ Instr.switchFault 0 ≠ .srcDebounceTaken :=
  ⟨⟨_, rfl⟩, by simp, by simp, by simp, by simp, by simp, by simp, by simp, by simp⟩

theorem witness_FiguresHaveTheirWriters_tables_and_flags :
    let s := { shelf 0 0 2 0 with reports := List.replicate 31 (slotReport .powered 0 20 0 0) }
    (∀ v, Instr.switchFault 0 ≠ .slotRecordSnapshot v ∧ Instr.switchFault 0 ≠ .stepTableSnapshot v ∧ Instr.switchFault 0 ≠ .waitEntrySnapshot v
      ∧ Instr.switchFault 0 ≠ .episodeRecordSnapshot v ∧ Instr.switchFault 0 ≠ .profileSnapshot v ∧ Instr.switchFault 0 ≠ .recencyListSnapshot v
      ∧ Instr.switchFault 0 ≠ .tableIndexWriteNoTable v ∧ Instr.switchFault 0 ≠ .eventsWrite v ∧ Instr.switchFault 0 ≠ .cmdCodeWrite v)
    ∧ commandEntry (.switchFault 0) = none ∧ s.gapSeen = false ∧ (after (.switchFault 0) s).gapSeen = true :=
  ⟨by simp, by decide⟩

theorem witness_OnlyPopRemovesReports : (∃ t, exec (.switchFault 0) brimming = .next t) ∧ Instr.switchFault 0 ≠ .pinReset
    ∧ Instr.switchFault 0 ≠ .reportPop ∧ (∀ v, Instr.switchFault 0 ≠ .registerWrite ⟨0x15, false⟩ v)
    ∧ (slotReport .powered 0 20 0 0).kind ≠ .gap ∧ [slotReport .powered 0 20 0 0].getLast? = some (slotReport .powered 0 20 0 0)
    ∧ brimming.reports = List.replicate 31 (slotReport .powered 0 20 0 0) ++ [chipReport .gap 1 0 0] ∧ (chipReport .gap 1 0 0).kind = .gap :=
  ⟨⟨_, rfl⟩, by simp, by simp, by simp, by decide, by decide, by decide, by decide⟩

theorem witness_DebounceNeedsEverySample : true ≠ (Debounce.rest false).value
    ∧ ∀ p k, (Debounce.rest false).pending = some (p, k) → p ≠ true := by simp [Debounce.rest]

theorem witness_TickCounts :
    let s := inSlot 0 (fun t => { t with link := { t.link with asm := .length, gap := some 1 } }) (shelf 0 0 2 0)
    Quiet (shelf 0 0 2 0) ∧ Quiet s ∧ (s.slot 0).link.asm.busy = true ∧ (0x01 : BitVec 8).getLsbD 0 = true ∧ (0x00 : BitVec 8).getLsbD 0 = false := by
  decide

/-- Log entry 2: slot 4's settle timer has expired and a command is queued, and the rows of what is due take both before the tick counts. -/
theorem test_rows_due :
    let s := { inSlot 4 (fun _ => { settling with settle := some 0 }) (shelf 0 0 0 0) with cmdQueue := [{ code := 6, p0 := 8, p1 := 0, p2 := 0 }] }
    (s.settleAll.slot 4).state = .listening ∧ s.settleAll.cmdQueue = []
      ∧ (match execRows dueRows s with
        | .next u =>
          (match execHeads 1 u with
          | .next v => decide (v = s.settleAll)
          | _ => false)
        | _ => false) = true := by decide

theorem witness_TickTakesDueEventsFirst : BlockInv (inSlot 4 (fun _ => settling) (shelf 0 0 0 0)) := by constructor <;> decide

/-- The shelf with a pending SRC value that has held for 20 ticks. -/
def srcDue (v : Fin 4) (s : State) : State := { s with src := { value := 0, pending := some (v, 20) } }

theorem witness_SrcDebounceTaken :
    let s := { shelf 0 0 0 0 with profiles := #v[250, 250, 251, 75] }
    (({ s with src := { value := 0, pending := some (1, 19) } } : State).src.ready 20 = none)
      ∧ (srcDue 1 s).src.ready 20 = some 1 ∧ (srcDue 1 s).profiles[(1 : Fin 4)] = (srcDue 1 s).capacity
      ∧ (srcDue 2 s).src.ready 20 = some 2 ∧ (srcDue 2 s).capacity < (srcDue 2 s).profiles[(2 : Fin 4)]
      ∧ (srcDue 3 s).src.ready 20 = some 3 ∧ (srcDue 3 s).profiles[(3 : Fin 4)] < (srcDue 3 s).capacity
      ∧ (srcDue 3 s).committed = (srcDue 3 s).profiles[(3 : Fin 4)] - (srcDue 3 s).reserve := by decide

/-- The shelf with a capacity of 205, all of it committed, and profile 1 of 204. -/
def fallen : State := { shelf 0 0 2 0 with capacity := 205, profiles := #v[205, 204, 0, 0] }

theorem witness_SrcDebounceTaken_overdraft : BlockInv (srcDue 1 fallen) ∧ (srcDue 1 fallen).src.ready 20 = some 1
    ∧ (srcDue 1 fallen).profiles[(1 : Fin 4)] < (srcDue 1 fallen).capacity
    ∧ (srcDue 1 fallen).profiles[(1 : Fin 4)] - (srcDue 1 fallen).reserve < (srcDue 1 fallen).committed :=
  ⟨by constructor <;> decide, by decide⟩

/-- A slot whose presence has arrived or been lost for 50 ticks. -/
def presDue (v : Bool) (t : Slot) : Slot := { t with pres := { value := !v, pending := some (v, 50) } }

theorem witness_ArrivalOfPresence :
    (BlockInv (inSlot 4 (fun t => presDue true { t with enabled := true }) (shelf 0 0 0 0))
      ∧ BlockInv (inSlot 4 (presDue true) (shelf 0 0 0 0)) ∧ BlockInv (inSlot 4 (fun _ => presDue true (cutting .removed)) (shelf 0 0 0 0)))
    ∧ (presDue true Slot.reset).pres.ready 50 = some true ∧ (presDue true Slot.reset).state = .empty
    ∧ (presDue true (cutting .removed)).state ≠ .empty :=
  ⟨⟨by constructor <;> decide, by constructor <;> decide, by constructor <;> decide⟩, by decide⟩

theorem witness_LossOfPresence :
    let s := fun t => inSlot 4 (fun _ => presDue false t) (shelf 0 0 0 0)
    (∀ t ∈ [bare .disabled 0, bare .locked 0, cutting .host, bare .empty 0, settling, listening], ((s t).slot 4).pres.ready 50 = some false)
      ∧ ((s (bare .disabled 0)).slot 4).state = .disabled ∧ ((s (bare .locked 0)).slot 4).state = .locked
      ∧ ((s (cutting .host)).slot 4).state = .cutting ∧ ((s (bare .empty 0)).slot 4).state = .empty
      ∧ ((s settling).slot 4).state = .settling ∧ ((s listening).slot 4).state = .listening
      ∧ ((inSlot 0 (presDue false) (shelf 0 0 0 0)).slot 0).state = .active
      ∧ ((waiting [admitEntry 4 1] (s admitting)).slot 4).state = .admitting
      ∧ (waiting [admitEntry 4 1] (s admitting)).entryOf 4 = some (admitEntry 4 1) := by decide

theorem witness_FaultAndHelloTimeoutCut :
    ((shelf 0 0 0 0).slot 0).state = .active ∧ ((shelf 0 0 0 0).slot 4).state ≠ .settling ∧ ((shelf 0 0 0 0).slot 4).state ≠ .listening
      ∧ ((shelf 0 0 0 0).slot 4).state ≠ .active ∧ ((shelf 0 0 0 0).slot 4).hello ≠ some 0
      ∧ ((inSlot 4 (fun _ => listening) (shelf 0 0 0 0)).slot 4).hello = some 0
      ∧ ((inSlot 4 (fun _ => listening) (shelf 0 0 0 0)).slot 4).state = .listening := by decide

theorem witness_SettleTimerExpiry :
    ((inSlot 4 (fun _ => settling) (shelf 0 0 0 0)).slot 4).settle = some 0 ∧ ((inSlot 4 (fun _ => settling) (shelf 0 0 0 0)).slot 4).state = .settling
      ∧ ((shelf 0 0 0 0).slot 4).settle ≠ some 0 := by decide

theorem witness_CutCompletion :
    let s := fun r => inSlot 4 (fun _ => cutting r) (shelf 0 0 0 0)
    let gone := inSlot 4 (fun _ => { cutting .removed with pres := Debounce.rest false }) (shelf 0 0 0 0)
    let marked := fun e => inSlot 4 (fun _ => { cutting .removed with destEmpty := true, enabled := e }) (shelf 0 0 0 0)
    let off := inSlot 4 (fun _ => { cutting .shed with enabled := false }) (shelf 0 0 0 0)
    let back := fun e => inSlot 4 (fun _ => { cutting .removed with enabled := e }) (shelf 0 0 0 0)
    (BlockInv (back true) ∧ ∀ e, ((back e).slot 4).discharge = some 0 ∧ ((back e).slot 4).state = .cutting ∧ ((back e).slot 4).cutReason = some .removed
        ∧ ((back e).slot 4).pres.value = true ∧ ((back e).slot 4).destEmpty = false ∧ ((back e).slot 4).enabled = e)
    ∧ (BlockInv (marked true) ∧ BlockInv (s .shed) ∧ BlockInv (s .restart))
    ∧ ((gone.slot 4).discharge = some 0 ∧ (gone.slot 4).state = .cutting ∧ (gone.slot 4).cutReason = some .removed ∧ (gone.slot 4).pres.value = false)
    ∧ (∀ e, ((marked e).slot 4).discharge = some 0 ∧ ((marked e).slot 4).state = .cutting ∧ ((marked e).slot 4).cutReason = some .removed
        ∧ ((marked e).slot 4).pres.value = true ∧ ((marked e).slot 4).destEmpty = true ∧ ((marked e).slot 4).enabled = e)
    ∧ (∀ r ∈ [CutReason.fault, .silent, .helloTimeout, .host, .shed, .restart], ((s r).slot 4).discharge = some 0 ∧ ((s r).slot 4).state = .cutting
        ∧ ((s r).slot 4).cutReason = some r ∧ ((s r).slot 4).pres.value = true ∧ ((s r).slot 4).destEmpty = false ∧ ((s r).slot 4).enabled = true)
    ∧ ((off.slot 4).cutReason = some .shed ∧ (off.slot 4).pres.value = true ∧ (off.slot 4).enabled = false) :=
  ⟨⟨by constructor <;> decide, by decide⟩, ⟨by constructor <;> decide, by constructor <;> decide, by constructor <;> decide⟩, by decide⟩

theorem witness_LeaseExpiry :
    let s := inSlot 0 (fun t => { t with lease := some 0 }) (shelf 2 0 0 0)
    ((shelf 2 0 0 0).slot 0).lease ≠ some 0 ∧ (s.slot 0).lease = some 0 ∧ ActiveWith s 0 (cardAt [20, 60, 100] 2) ∧ (s.slot 0).reclaim = none
      ∧ (∀ g ∈ [0, 1], ((inSlot 0 (reclaiming g .host) s).slot 0).lease = some 0
          ∧ ActiveWith (inSlot 0 (reclaiming g .host) s) 0 (cardAt [20, 60, 100] 2)
          ∧ ((inSlot 0 (reclaiming g .host) s).slot 0).reclaim.map Reclaim.target = some g) := by decide

theorem witness_ReclaimWindowExpiry :
    let s := inSlot 2 (reclaiming 0 .shed) (shelf 0 0 1 0)
    (s.slot 2).card = some (cardAt [30, 80, 160] 1)
      ∧ (s.slot 2).reclaim = some { target := 0, cause := .shed, phase := .reclaiming, window := some 0, basis := none, liftPending := false }
      ∧ ((inSlot 2 (fun _ => pacedSlot) s).slot 2).card = some (cardAt [30, 80, 160] 2)
      ∧ ((inSlot 2 (fun _ => pacedSlot) s).slot 2).reclaim.map Reclaim.window = some none := by decide

theorem witness_FrameStart :
    let r : Reclaim := { target := 0, cause := .shed, phase := .pacePending, window := none, basis := some 1, liftPending := false }
    let s := inSlot 2 (fun t => { t with reclaim := some r, pendWidth := some 0, frameDue := true }) (shelf 0 0 1 0)
    let same := inSlot 2 (fun t => { t with charge := 30 }) s
    let r' : Reclaim := { target := 1, cause := .host, phase := .paced, window := none, basis := some 2, liftPending := true }
    let lift := inSlot 2 (fun _ => { pacedSlot with frameDue := true, reclaim := some r', card := some (cardAt [30, 80, 160] 1) }) (shelf 0 0 0 0)
    let tight := { lift with capacity := 122 }
    let plain := inSlot 2 (fun t => { t with frameDue := true }) (shelf 0 0 1 0)
    (ActiveWith s 2 (cardAt [30, 80, 160] 1) ∧ (s.slot 2).reclaim = some r ∧ r.basis = some 1 ∧ (s.slot 2).pendWidth = some 0
      ∧ (s.slot 2).frameDue = true ∧ (cardAt [30, 80, 160] 1).paced 1 0 ≠ (s.slot 2).charge)
    ∧ (ActiveWith same 2 (cardAt [30, 80, 160] 1) ∧ (same.slot 2).reclaim = some r ∧ (same.slot 2).pendWidth = some 0
      ∧ (same.slot 2).frameDue = true ∧ (cardAt [30, 80, 160] 1).paced 1 0 = (same.slot 2).charge)
    ∧ ((lift.slot 2).frameDue = true ∧ (lift.slot 2).pendWidth = none ∧ ActiveWith lift 2 (cardAt [30, 80, 160] 1) ∧ (lift.slot 2).reclaim = some r'
      ∧ r'.liftPending = true ∧ Fits lift 2 ((cardAt [30, 80, 160] 1).draw 1) ∧ ¬ Fits { lift with capacity := 124 } 2 ((cardAt [30, 80, 160] 1).draw 1)
      ∧ Fits { lift with capacity := 125 } 2 ((cardAt [30, 80, 160] 1).draw 1) ∧ ActiveWith tight 2 (cardAt [30, 80, 160] 1)
      ∧ ¬ Fits tight 2 ((cardAt [30, 80, 160] 1).draw 1))
    ∧ ((plain.slot 2).frameDue = true ∧ (plain.slot 2).pendWidth = none ∧ (plain.slot 2).reclaim = none) := by decide

theorem witness_PacedWidthAndCharge : (10 : Nat) ≤ 40 ∧ (40 : Nat) < 130 ∧ 7 = pacedWidth 10 130 40 ∧ 38 = pacedCharge 10 130 7 ∧ (10 : Nat) ≤ 10
    ∧ (1 - 0) * 31 < 100 - 0 ∧ pacedWidth 0 100 1 = 0 := by decide

theorem witness_CrcRule : Transmitter.reply 0 (.done 0) ≠ .idle
    ∧ (0x52 : Byte) ≠ crc8 [0x00, 0x07, 0x08] := by decide

theorem witness_CardFramesDecodeToTheirRows : WellFormed (.hello 7 7 0xFFFFFFFF 0xFF (List.replicate 7 0xFFFF)) = true
    ∧ (cardFrame (.hello 7 7 0xFFFFFFFF 0xFF (List.replicate 7 0xFFFF))).isSome = true
    ∧ WellFormed (.malformed 7 .ask 7 []) = true ∧ (cardFrame (.malformed 7 .ask 7 [])).isSome = true := by decide

theorem witness_BytesActAsTheirFrame : ((shelf 0 0 0 0).slot 0).link.asm = .hunt ∧ ((shelf 0 0 0 0).slot 0).link.gap = none
    ∧ (List.replicate 20 (0 : Byte)).length ≤ 20 ∧ 20 < (21 : Byte).toNat := by decide

/-- Slot 0 of the shelf with its Link Engine changed. -/
def linked (f : Link → Link) : State := inSlot 0 (fun t => { t with link := f t.link }) (shelf 0 0 0 0)

theorem witness_AssemblerEvents :
    ((linked (fun l => { l with asm := .body 0 [1, 2], gap := some 0 })).slot 0).link.asm ≠ .off
    ∧ ((linked (fun l => { l with asm := .body 0 [1, 2], gap := some 0 })).slot 0).link.gap = some 0
    ∧ ((linked id).slot 0).link.gap ≠ some 0 ∧ ((linked (fun l => { l with asm := .length })).slot 0).link.asm = .length ∧ 20 < (21 : Byte).toNat
    ∧ ((linked (fun l => { l with asm := .length, gap := some 1 })).slot 0).link.gap ≠ some 0
    ∧ ((linked (fun l => { l with asm := .body 0 [1], gap := some 1 })).slot 0).link.gap ≠ some 0
    ∧ ((linked (fun l => { l with asm := .body 0 [1] })).slot 0).link.asm = .body 0 [1] ∧ [(1 : Byte)].length + 1 < 0 + 3
    ∧ ((linked id).slot 0).link.asm = .hunt ∧ ((shelf 0 0 0 0).slot 4).link.asm = .off ∧ ((shelf 0 0 0 0).slot 4).link.gap = none
    ∧ passesChecks { kind := 0x22, ctl := 0, payload := [], crc := 0 } = false := by decide

theorem witness_MalformedRequests : lengthSuits .ask [1, 1] = false ∧ lengthSuits .ack [1] = false ∧ ((linked id).slot 0).link.asm ≠ .off
    ∧ LinkKind.ask ≠ .ack ∧ ((linked id).slot 0).link.replySlot = none
    ∧ ((linked (fun l => { l with replySlot := some (1, .done 0), tx := .reply 0 (.done 0) })).slot 0).link.replySlot ≠ none := by decide

theorem witness_LostAndRepeatedRequests :
    requestOf (.renew 0 3) = some (0, .renew, 3) ∧ requestOf (.renew 4 3) = some (4, .renew, 3) ∧ ((shelf 0 0 0 0).slot 4).link.asm = .off
    ∧ ((linked (fun l => { l with replySlot := some (1, .done 0) })).slot 0).link.asm ≠ .off
    ∧ ((linked (fun l => { l with replySlot := some (1, .done 0) })).slot 0).link.replySlot ≠ none
    ∧ ((linked (fun l => { l with cache := some { kind := .renew, tag := 3, reply := .done 5 } })).slot 0).link.asm ≠ .off
    ∧ ((linked (fun l => { l with cache := some { kind := .renew, tag := 3, reply := .done 5 } })).slot 0).link.replySlot = none
    ∧ ((linked (fun l => { l with cache := some { kind := .renew, tag := 3, reply := .done 5 } })).slot 0).link.cache
        = some { kind := .renew, tag := 3, reply := .done 5 }
    ∧ (TakesNew (shelf 0 0 2 0) 2 .hello 7 ∧ ActiveWith (shelf 0 0 2 0) 2 (cardAt [30, 80, 160] 2)
      ∧ (cardAt [30, 80, 160] 2).helloTag = 7 ∧ (cardAt [30, 80, 160] 2).cardId = 0 ∧ (cardAt [30, 80, 160] 2).declaredFloor = (0 : Byte).toNat
      ∧ (cardAt [30, 80, 160] 2).draws = ([30, 80, 160] : List Half).map BitVec.toNat) := by decide

theorem witness_EveryNewRequestIsAnswered :
    let busy := linked (fun l => { l with tx := .reply 0 (.done 0), cache := some { kind := .renew, tag := 2, reply := .done 5 } })
    (BlockInv (shelf 0 0 2 0) ∧ BlockInv busy) ∧ requestOf (.renew 0 3) = some (0, .renew, 3) ∧ TakesNew (shelf 0 0 2 0) 0 .renew 3
      ∧ ((shelf 0 0 2 0).slot 0).link.tx = .idle ∧ TakesNew busy 0 .renew 3 ∧ (busy.slot 0).link.tx ≠ .idle :=
  ⟨⟨shelf_inv, by constructor <;> decide⟩, by decide⟩

/-- An outstanding NOTICE with SEQ 1. -/
def sent (retries : Nat) (window : Timer) (due : Bool) : Outstanding :=
  { msg := .notice .paced 0, seq := true, retries := retries, window := window, due := due }

theorem witness_Acknowledgement :
    let s := linked (fun l => { l with outstanding := some (sent 0 (some 3) false) })
    let queue := linked (fun l => { l with outstanding := some (sent 0 (some 3) false), queue := [.award 1 0] })
    ((shelf 0 0 0 0).slot 4).link.asm = .off ∧ ((linked id).slot 0).link.asm ≠ .off ∧ ((linked id).slot 0).link.outstanding = none
      ∧ (s.slot 0).link.asm ≠ .off ∧ (s.slot 0).link.outstanding = some (sent 0 (some 3) false) ∧ (sent 0 (some 3) false).seq ≠ false
      ∧ (sent 0 (some 3) false).seq = true ∧ (hunting (s.slot 0).link).queue = [] ∧ (hunting (s.slot 0).link).replySlot = none
      ∧ (queue.slot 0).link.outstanding = some (sent 0 (some 3) false) ∧ (hunting (queue.slot 0).link).tx = .idle
      ∧ (hunting (queue.slot 0).link).replySlot = none ∧ (hunting (queue.slot 0).link).queue = .award 1 0 :: [] := by decide

theorem witness_TransmitterOrder :
    let reply := linked (fun l => { l with tx := .reply 1 (.done 0), replySlot := some (2, .done 0) })
    let message := linked (fun l => { l with tx := .message (.notice .paced 0) true, outstanding := some (sent 0 none false) })
    let due := linked (fun l => { l with tx := .reply 1 (.done 0), outstanding := some (sent 1 none true) })
    let next := linked (fun l => { l with tx := .reply 1 (.done 0), queue := [.award 1 0] })
    let last := linked (fun l => { l with tx := .reply 1 (.done 0) })
    ((linked id).slot 0).link.asm ≠ .off ∧ ((linked id).slot 0).link.tx = .idle
      ∧ (∀ s ∈ [reply, due, next, last], (s.slot 0).link.asm ≠ .off ∧ (s.slot 0).link.tx = .reply 1 (.done 0))
      ∧ (message.slot 0).link.asm ≠ .off ∧ (message.slot 0).link.tx = .message (.notice .paced 0) true
      ∧ (reply.slot 0).link.replySlot = some (2, .done 0)
      ∧ (due.slot 0).link.replySlot = none ∧ (due.slot 0).link.outstanding = some (sent 1 none true) ∧ (sent 1 none true).due = true
      ∧ (message.slot 0).link.replySlot = none ∧ (message.slot 0).link.outstanding = some (sent 0 none false) ∧ (sent 0 none false).due = false
      ∧ (next.slot 0).link.outstanding = none ∧ (next.slot 0).link.replySlot = none ∧ (next.slot 0).link.queue = .award 1 0 :: []
      ∧ (last.slot 0).link.outstanding = none ∧ (last.slot 0).link.replySlot = none ∧ (last.slot 0).link.queue = [] := by decide

theorem witness_ReplyWindowExpiry :
    let s := fun (retries : Nat) (window : Timer) (tx : Transmitter) =>
      linked (fun l => { l with outstanding := some (sent retries window false), tx := tx })
    (∀ retries ∈ [0, 2, 3], ∀ window ∈ [(some 0 : Timer), some 1, none], ∀ tx ∈ [Transmitter.idle, .reply 1 (.done 0)],
      ((s retries window tx).slot 0).link.asm ≠ .off ∧ ((s retries window tx).slot 0).link.outstanding = some (sent retries window false)
        ∧ ((s retries window tx).slot 0).link.tx = tx ∧ ((s retries window tx).slot 0).link.replySlot = none
        ∧ ((s retries window tx).slot 0).state = .active) := by decide

theorem witness_QueuePlacement :
    let l := fun (q : List Message) => ({ Link.reset with asm := .hunt, tx := .reply 1 (.done 0), queue := q } : Link)
    let full := [Message.reclaim 0 20, .notice .paced 0, .award 1 0, .notice .lapsed 1]
    let noReclaim := [Message.award 1 0, .notice .paced 0, .notice .dropped 2, .notice .lapsed 1]
    let noAward := [Message.reclaim 0 20, .notice .paced 0, .notice .dropped 2, .notice .lapsed 1]
    (queueFits noReclaim = true ∧ noReclaim.length = 4 ∧ noReclaim.any Message.isReclaim = false
      ∧ noReclaim = [.award 1 0] ++ .notice .paced 0 :: [.notice .dropped 2, .notice .lapsed 1] ∧ (∀ m ∈ [Message.award 1 0], m.isNotice = false))
    ∧ (queueFits noAward = true ∧ noAward.length = 4 ∧ noAward.any Message.isAward = false
      ∧ noAward = [.reclaim 0 20] ++ .notice .paced 0 :: [.notice .dropped 2, .notice .lapsed 1])
    ∧ (l []).tx ≠ .idle ∧ queueFits (l []).queue = true ∧ (l []).queue.length < 4 ∧ queueFits (l full).queue = true ∧ (l full).queue.length = 4
      ∧ (l full).queue = [.reclaim 0 20] ++ .notice .paced 0 :: [.award 1 0, .notice .lapsed 1] ∧ (∀ m ∈ [Message.reclaim 0 20], m.isNotice = false)
      ∧ (l full).queue = [] ++ .reclaim 0 20 :: [.notice .paced 0, .award 1 0, .notice .lapsed 1]
      ∧ (l full).queue = [.reclaim 0 20, .notice .paced 0] ++ .award 1 0 :: [.notice .lapsed 1]
      ∧ (l []).queue.any Message.isReclaim = false ∧ (l []).queue.any Message.isAward = false := by decide

theorem witness_RequestsBeforeDeclaration : requestOf (.renew 4 3) = some (4, .renew, 3) ∧ LinkKind.renew ≠ .hello
    ∧ TakesNew (inSlot 4 (fun _ => listening) (shelf 0 0 0 0)) 4 .renew 3 ∧ ((inSlot 4 (fun _ => listening) (shelf 0 0 0 0)).slot 4).state ≠ .active
    ∧ requestOf (.renew 0 3) = some (0, .renew, 3) ∧ TakesNew (linked (fun l => { l with undeclared := [(.renew, 3)] })) 0 .renew 3
    ∧ (LinkKind.renew, (3 : BitVec 3)) ∈ ((linked (fun l => { l with undeclared := [(.renew, 3)] })).slot 0).link.undeclared := by
  decide

/-- The shelf with slot 4 in LISTENING at its admission charge of 20. -/
def hearing : State := inSlot 4 (fun _ => listening) (shelf 0 0 0 0)

theorem witness_HelloAccepted :
    let ok := fun (s : State) (draws : List Half) (d : List Nat) => TakesNew s 4 .hello 1 ∧ (s.slot 4).state = .listening
      ∧ d = draws.map BitVec.toNat ∧ 1 ≤ d.length ∧ d.length ≤ 6 ∧ 1 ≤ d.getD 0 0 ∧ (∀ k, k + 1 < d.length → d.getD k 0 < d.getD (k + 1) 0)
      ∧ (d.length - 1 : Nat) < d.length ∧ d.getD 0 0 ≤ (s.slot 4).cfg.cap
    (ok hearing [1, 2, 3, 4, 5, 65535] [1, 2, 3, 4, 5, 65535] ∧ [1, 2, 3, 4, 5, 65535].getD 0 0 ≤ (hearing.slot 4).charge)
    ∧ (ok hearing [175] [175] ∧ hearing.episode.kind = .none ∧ Fits hearing 4 ([175].getD 0 0) ∧ ¬ Fits hearing 4 176) := by
  refine ⟨⟨⟨by decide, by decide, by decide, by decide, by decide, by decide, ?_, by decide, by decide⟩, by decide⟩,
    ⟨⟨by decide, by decide, by decide, by decide, by decide, by decide, ?_, by decide, by decide⟩, by decide⟩⟩
  · intro k hk
    have hk' : k < 5 := by simp at hk; omega
    interval_cases k <;> decide
  · intro k hk
    simp at hk

theorem witness_HelloRefused :
    TakesNew (shelf 0 0 0 0) 0 .hello 1 ∧ ((shelf 0 0 0 0).slot 0).state = .active
      ∧ ((shelf 0 0 0 0).slot 0).card = some (cardAt [20, 60, 100] 0) ∧ ¬ ((cardAt [20, 60, 100] 0).helloTag = 1) ∧ TakesNew hearing 4 .hello 1
      ∧ (hearing.slot 4).state ≠ .active ∧ ([] : List Nat).length < 1 ∧ 6 < [1, 2, 3, 4, 5, 6, 7].length ∧ [0].getD 0 0 = 0
      ∧ (∃ k, k + 1 < [5, 5].length ∧ [5, 5].getD (k + 1) 0 ≤ [5, 5].getD k 0) ∧ [5].length ≤ (1 : Byte).toNat
      ∧ shapeOk (0 : Byte).toNat [1024] = true ∧ (hearing.slot 4).cfg.cap < [1024].getD 0 0
      ∧ shapeOk (0 : Byte).toNat [176] = true ∧ [176].getD 0 0 ≤ (hearing.slot 4).cfg.cap ∧ (hearing.slot 4).charge < [176].getD 0 0
      ∧ ¬ Fits hearing 4 ([176].getD 0 0) :=
  ⟨by decide, by decide, by decide, by decide, by decide, by decide, by decide, by decide, by decide, ⟨0, by decide⟩, by decide⟩

theorem witness_AskGranted :
    let s := waiting [stepEntry 3 1 1 1, stepEntry 0 1 2 2] (shelf 0 0 2 0)
    let c := cardAt [20, 60, 100] 0
    (TakesFresh s 0 .ask 1 ∧ ActiveWith s 0 c ∧ AskPasses s 0 c 2 1 ∧ AskFits s 0 c 1 ∧ ¬ Fits s 0 (c.draw 2) ∧ (s.entryOf 0).isSome = true)
    ∧ (TakesFresh (shelf 0 0 2 0) 0 .ask 1 ∧ AskPasses (shelf 0 0 2 0) 0 c 2 1 ∧ AskFits (shelf 0 0 2 0) 0 c 1
      ∧ ¬ Fits (shelf 0 0 2 0) 0 (c.draw 2) ∧ (shelf 0 0 2 0).entryOf 0 = none)
    ∧ ∀ k, 1 < k → k ≤ (2 : Byte).toNat → k ≤ c.usableTop → ¬ Fits (shelf 0 0 2 0) 0 (c.draw k) ∧ ¬ Fits s 0 (c.draw k) := by
  refine ⟨by decide, by decide, ?_⟩
  intro k h1 h2 _
  have h2' : k ≤ 2 := h2
  interval_cases k
  decide

theorem witness_AskRefused :
    let s := shelf 0 0 2 0
    let c := cardAt [20, 60, 100] 0
    let r := inSlot 0 (reclaiming 0 .host) (shelf 1 0 2 0)
    let low : Card := { c with usableTop := 0 }
    let capped := inSlot 0 (fun t => { t with card := some low }) s
    (TakesFresh r 0 .ask 1 ∧ ActiveWith r 0 (cardAt [20, 60, 100] 1) ∧ (r.slot 0).reclaim ≠ none)
    ∧ (TakesFresh s 0 .ask 1 ∧ ActiveWith s 0 c ∧ (s.slot 0).reclaim = none ∧ c.count ≤ (3 : Byte).toNat ∧ (1 : Byte).toNat < (2 : Byte).toNat
      ∧ (0 : Byte).toNat ≤ c.held)
    ∧ (TakesFresh capped 0 .ask 1 ∧ ActiveWith capped 0 low ∧ (1 : Byte).toNat < low.count ∧ (1 : Byte).toNat ≤ (1 : Byte).toNat
      ∧ low.held < (1 : Byte).toNat ∧ low.usableTop < (1 : Byte).toNat)
    ∧ (AskPasses s 0 c (2 : Byte).toNat (2 : Byte).toNat ∧ (0 : Byte).getLsbD 0 = false
      ∧ ∀ g, (2 : Byte).toNat ≤ g → g ≤ (2 : Byte).toNat → g ≤ c.usableTop → ¬ AskFits s 0 c g) := by
  refine ⟨by decide, by decide, by decide, by decide, by decide, ?_⟩
  intro g h1 h2 _
  have h1' : 2 ≤ g := h1
  have h2' : g ≤ 2 := h2
  interval_cases g
  decide

theorem witness_AskDeferred :
    let s := shelf 0 0 2 0
    let own := waiting [stepEntry 0 1 2 1] s
    let c := cardAt [20, 60, 100] 0
    (BlockInv s ∧ BlockInv own) ∧ (TakesFresh s 0 .ask 1 ∧ ActiveWith s 0 c ∧ AskPasses s 0 c 2 2 ∧ (1 : Byte).getLsbD 0 = true ∧ s.policy.preempt = false
      ∧ s.entryOf 0 = none)
    ∧ (TakesFresh own 0 .ask 1 ∧ ActiveWith own 0 c ∧ AskPasses own 0 c 2 2 ∧ own.policy.preempt = false
      ∧ own.waitList = [] ++ stepEntry 0 1 2 1 :: [] ∧ (stepEntry 0 1 2 1).slot = 0)
    ∧ ∀ g, 2 ≤ g → g ≤ 2 → g ≤ c.usableTop → ¬ AskFits s 0 c g ∧ ¬ AskFits own 0 c g := by
  refine ⟨⟨shelf_inv, by constructor <;> decide⟩, by decide, by decide, ?_⟩
  intro g h1 h2 _
  interval_cases g
  decide

theorem witness_Yield :
    let c := cardAt [20, 60, 100] 2
    let r := inSlot 0 (reclaiming 0 .host) (shelf 2 0 0 0)
    TakesFresh (shelf 2 0 0 0) 0 .yield 1 ∧ ActiveWith (shelf 2 0 0 0) 0 c ∧ c.held ≤ (2 : Byte).toNat
      ∧ TakesFresh r 0 .yield 1 ∧ ActiveWith r 0 c ∧ (1 : Byte).toNat < c.held ∧ (r.slot 0).reclaim.map Reclaim.target = some 0
      ∧ ((shelf 2 0 0 0).slot 0).reclaim = none ∧ c.draw (0 : Byte).toNat < ((shelf 2 0 0 0).slot 0).charge := by decide

theorem witness_WithdrawAndRenew :
    let c := cardAt [20, 60, 100] 0
    let w := waiting [stepEntry 0 1 2 2] (shelf 0 0 2 0)
    let lapse := inSlot 0 (reclaiming 0 .lapse) (shelf 1 0 0 0)
    let leased := inSlot 0 (fun t => { t with cfg := { t.cfg with lease := 255 } }) (shelf 1 0 0 0)
    (TakesFresh (shelf 0 0 2 0) 0 .withdraw 1 ∧ ActiveWith (shelf 0 0 2 0) 0 c ∧ (shelf 0 0 2 0).entryOf 0 = none)
    ∧ (TakesFresh w 0 .withdraw 1 ∧ ActiveWith w 0 c ∧ w.entryOf 0 = some (stepEntry 0 1 2 2))
    ∧ (TakesFresh lapse 0 .renew 1 ∧ ActiveWith lapse 0 (cardAt [20, 60, 100] 1) ∧ (lapse.slot 0).reclaim.map Reclaim.cause = some .lapse)
    ∧ (TakesFresh leased 0 .renew 1 ∧ ActiveWith leased 0 (cardAt [20, 60, 100] 1) ∧ (leased.slot 0).reclaim = none
      ∧ 0 < (cardAt [20, 60, 100] 1).held ∧ 0 < (leased.slot 0).cfg.lease)
    ∧ (TakesFresh (shelf 0 0 0 0) 0 .renew 1 ∧ ActiveWith (shelf 0 0 0 0) 0 c ∧ ((shelf 0 0 0 0).slot 0).reclaim = none ∧ c.held = 0) :=
  ⟨by decide, by decide, by decide, by decide, by decide⟩

theorem witness_ReclaimConclusion :
    let c1 := cardAt [30, 80, 160] 1
    let c2 := cardAt [30, 80, 160] 2
    let s := inSlot 2 (reclaiming 0 .shed) (shelf 0 0 1 0)
    let p := inSlot 2 (fun _ => pacedSlot) (shelf 0 0 0 0)
    let flat := inSlot 2 (fun t => { t with charge := 80 }) p
    TakesFresh s 2 .confirm 1 ∧ TakesFresh s 2 .yield 1 ∧ ActiveWith s 2 c1 ∧ (s.slot 2).reclaim.map Reclaim.target = some 0 ∧ (0 : Byte).toNat < c1.held
      ∧ c1.draw 0 < (s.slot 2).charge
      ∧ TakesFresh p 2 .confirm 1 ∧ ActiveWith p 2 c2 ∧ (p.slot 2).reclaim.map Reclaim.target = some 1 ∧ (1 : Byte).toNat < c2.held
      ∧ (p.slot 2).reclaim.map Reclaim.phase = some .paced ∧ (p.slot 2).charge < c2.draw 1 ∧ Fits { p with capacity := 125 } 2 (c2.draw 1)
      ∧ ¬ Fits { p with capacity := 124 } 2 (c2.draw 1) ∧ TakesFresh flat 2 .confirm 1 ∧ ActiveWith flat 2 c2 ∧ c2.draw 1 = (flat.slot 2).charge :=
  ⟨by decide, by decide, by decide, by decide, by decide, by decide, by decide, by decide, by decide, by decide, by decide, by decide, by decide, by decide,
    by decide⟩

theorem witness_ConfirmRefusalsAndProgress :
    let c := cardAt [30, 80, 160] 2
    let s := inSlot 2 (reclaiming 0 .shed) (shelf 0 0 2 0)
    let p := inSlot 2 (fun t => { t with
      pendWidth := some 0, reclaim := some { target := 0, cause := .shed, phase := .pacePending, window := none, basis := some 2, liftPending := false } })
      (shelf 0 0 2 0)
    let q := inSlot 2 (fun _ => { pacedSlot with
      reclaim := some { target := 0, cause := .shed, phase := .paced, window := none, basis := some 2, liftPending := false } }) (shelf 0 0 0 0)
    TakesFresh (shelf 0 0 2 0) 2 .confirm 1 ∧ ActiveWith (shelf 0 0 2 0) 2 c ∧ ((shelf 0 0 2 0).slot 2).reclaim = none
      ∧ TakesFresh s 2 .confirm 1 ∧ ActiveWith s 2 c ∧ (s.slot 2).reclaim ≠ none ∧ c.held ≤ (2 : Byte).toNat ∧ (1 : Byte).toNat < c.held
      ∧ (s.slot 2).reclaim.map (fun r => (r.target, r.phase)) = some (0, .reclaiming)
      ∧ TakesFresh p 2 .confirm 1 ∧ ActiveWith p 2 c ∧ (p.slot 2).reclaim.map (fun r => (r.target, r.phase)) = some (0, .pacePending)
      ∧ TakesFresh q 2 .confirm 1 ∧ ActiveWith q 2 c ∧ (q.slot 2).reclaim.map (fun r => (r.target, r.phase)) = some (0, .paced) :=
  ⟨by decide, by decide, by decide, by decide, by decide, by decide, by decide, by decide, by decide, by decide, by decide, by decide, by decide, by decide,
    by decide⟩

theorem witness_WalkLeavesNothingThatFits :
    let s := waiting [{ stepEntry 0 1 2 2 with anchored := true }, stepEntry 1 0 1 1] (shelf 0 0 2 0)
    WaitForm s ∧ EntryForm s ∧ ChargeForm s ∧ SlotForm s ∧ s.episode.kind = .none ∧ s.policy.mode = .fit ∧ s.committed ≤ s.available
      ∧ s.followUp.waitList = [] ++ { stepEntry 0 1 2 2 with anchored := true } :: [stepEntry 1 0 1 1]
      ∧ ({ s with policy := { s.policy with mode := .strict } } : State).policy.mode = .strict
      ∧ ({ s with policy := { s.policy with mode := .strict } } : State).followUp.waitList.head? = some { stepEntry 0 1 2 2 with anchored := true } := by
  decide

/-- A wait list of an entry that does not fit headroom and one that does. -/
def behind : State := waiting [stepEntry 0 1 2 2, stepEntry 1 0 2 1] (shelf 0 0 2 0)

theorem witness_WalkLeavesNothingThatFits_grant :
    let c := cardAt [10, 50, 90] 0
    WaitForm behind ∧ EntryForm behind ∧ ChargeForm behind ∧ SlotForm behind ∧ behind.episode.kind = .none
      ∧ behind.waitList = [stepEntry 0 1 2 2] ++ stepEntry 1 0 2 1 :: [] ∧ behind.policy.mode = .fit ∧ (stepEntry 0 1 2 2).anchored = false
      ∧ (behind.slot 1).card = some c ∧ Fits behind 1 (c.draw 1) ∧ ¬ Fits behind 1 (c.draw 2) := by decide

theorem witness_WalkLeavesNothingThatFits_passes_over : ¬ couldGrant behind (stepEntry 0 1 2 2) := by
  rintro ⟨c, g, hc, h1, h2, -, hf⟩
  obtain rfl : cardAt [20, 60, 100] 0 = c := by simpa [behind, waiting, shelf, State.slot, seat, stepEntry] using hc
  obtain rfl : g = 2 := Nat.le_antisymm h2 h1
  revert hf
  decide

theorem witness_WalkLeavesNothingThatFits_best : BestStep behind 1 (cardAt [10, 50, 90] 0) 2 1 1 := by
  refine ⟨by decide, by decide, by decide, by decide, ?_⟩
  intro k h1 h2 _
  interval_cases k
  decide

theorem witness_WalkLeavesNothingThatFits_admission :
    let s := waiting [admitEntry 4 1] (inSlot 4 (fun _ => admitting) (shelf 0 0 2 0))
    WaitForm s ∧ EntryForm s ∧ ChargeForm s ∧ SlotForm s ∧ s.episode.kind = .none ∧ s.waitList = [] ++ admitEntry 4 1 :: []
      ∧ (s.slot 4).cfg.admission + s.committed ≤ s.available := by decide

theorem witness_WalkLeavesNothingThatFits_check :
    let c := cardAt [30, 80, 160] 1
    let s := fun (a : Nat) => { waiting [{ stepEntry 2 2 2 2 with beneficiary := true }] (inSlot 0 (reclaiming 1 .shed) (shelf 2 0 1 0)) with
      capacity := a
      episode := { kind := .preempt, beneficiary := some 2, target := 35, victims := [{ slot := 0, target := 1, remaining := 40 }], cuts := [] } }
    let o := fun (a : Nat) => { shelf 0 0 0 0 with capacity := a, episode := { Episode.closed with kind := .overdraft, target := 5 } }
    (∀ a ∈ [284, 285], (s a).episode.kind = .preempt ∧ (s a).episode.beneficiary = some 2
      ∧ (s a).entryOf 2 = some { stepEntry 2 2 2 2 with beneficiary := true } ∧ ((s a).slot 2).card = some c ∧ (s a).committed = 205)
    ∧ ¬ Fits (s 284) 2 (c.draw 2) ∧ Fits (s 285) 2 (c.draw 2)
    ∧ (o 74).episode.kind = .overdraft ∧ (o 74).available < (o 74).committed ∧ (o 75).committed ≤ (o 75).available := by decide

/-- The shelf of chapter 11 at t = 0 of the supply drop, with the CONFIRM of slot 0 waiting. -/
def drained : State :=
  { inSlot 0 (reclaiming 0 .shed) (inSlot 1 (fun t => { cutting .shed with cfg := t.cfg, card := t.card }) (inSlot 2 (reclaiming 0 .shed) (shelf 1 2 1 0))) with
    capacity := 70, src := Debounce.rest 1, pending := [.confirm 0 1 0]
    episode :=
      { kind := .overdraft, beneficiary := none, target := 95
        victims := [{ slot := 0, target := 0, remaining := 40 }, { slot := 2, target := 0, remaining := 50 }], cuts := [{ slot := 1, counted := 90 }] } }

theorem witness_OverdraftStaysCovered : BlockInv drained ∧ OverdraftCovered drained ∧ drained.episode.kind = .overdraft
    ∧ ∃ t, step drained = .next t := ⟨by constructor <;> decide, by decide, by decide, _, rfl⟩

/-- The shelf of chapter 11 before its preemption episode. -/
def willing : State := { shelf 2 0 1 0 with policy := { mode := .fit, limit := 2, preempt := true } }

theorem witness_DeferredAskPreempts :
    let c := cardAt [30, 80, 160] 1
    let poor := { shelf 1 0 1 0 with capacity := 170, profiles := #v[170, 70, 0, 0], policy := { mode := .fit, limit := 2, preempt := true } }
    let held := waiting [{ stepEntry 3 3 1 1 with anchored := true }] (inSlot 3 (fun t => { t with cfg := { t.cfg with cls := 3 } })
      { willing with capacity := 285, profiles := #v[285, 70, 0, 0] })
    (BlockInv willing ∧ BlockInv poor ∧ BlockInv held)
    ∧ (TakesFresh willing 2 .ask 1 ∧ ActiveWith willing 2 c ∧ AskPasses willing 2 c 2 2 ∧ willing.policy.preempt = true
      ∧ 0 < (willing.slot 2).cfg.cls ∧ willing.episode.kind = .none ∧ ¬ Fits willing 2 (c.draw 2)
      ∧ c.draw 2 + willing.committed - (willing.available + (willing.slot 2).charge) ≤ (slotIds.map (canGive willing 2)).sum)
    ∧ (TakesFresh poor 2 .ask 1 ∧ ActiveWith poor 2 c ∧ AskPasses poor 2 c 2 2
      ∧ (slotIds.map (canGive poor 2)).sum < c.draw 2 + poor.committed - (poor.available + (poor.slot 2).charge))
    ∧ (TakesFresh held 2 .ask 1 ∧ ActiveWith held 2 c ∧ AskPasses held 2 c 2 2 ∧ Fits held 2 (c.draw 2))
    ∧ ∀ g, 2 ≤ g → g ≤ 2 → g ≤ c.usableTop → ¬ AskFits willing 2 c g ∧ ¬ AskFits poor 2 c g ∧ ¬ AskFits held 2 c g := by
  refine ⟨⟨by constructor <;> decide, by constructor <;> decide, by constructor <;> decide⟩, by decide, by decide, by decide, ?_⟩
  intro g h1 h2 _
  interval_cases g
  decide

theorem witness_CommandPush : State.reset.cmdQueue.length < 4 ∧ ({ brimming with cmdQueue := brimming.cmdQueue.tail } : State).cmdQueue.length = 3
    ∧ (entry 5 0 0 0).code.toNat ∈ [5, 7, 8] ∧ (entry 10 9 0 0).code.toNat ∈ [2, 3, 4, 6, 10] ∧ 4 ≤ brimming.cmdQueue.length ∧ brimming.cmdQueue.length ≤ 4
    ∧ TakesCommand (queued (entry 10 9 0 0) State.reset) .restart (entry 10 9 0 0) := by decide

theorem witness_RegisterWrites : (0x02 : BitVec 6) ∉ ([0x03, 0x04, 0x08, 0x09, 0x0A, 0x0B, 0x15, 0x20, 0x21] : List (BitVec 6)) := by decide

theorem witness_RegisterReads : BlockInv { shelf 0 0 2 0 with reports := [slotReport .powered 0 20 0 0] } ∧ BlockInv (shelf 0 0 2 0)
    ∧ (0x18 : BitVec 6).toNat = 0x18 ∧ (0x1C : BitVec 6).toNat = 0x1C ∧ (0x30 : BitVec 6).toNat = 0x30 :=
  ⟨by constructor <;> decide, shelf_inv, by decide⟩

theorem witness_FlagsAndInterrupt : brimming.cmdQueue.length ≤ 4 ∧ brimming.reports ≠ [] ∧ State.reset.reports = [] := by decide

theorem witness_ReportQueueAppendAndPop :
    let r := slotReport .powered 0 20 0 0
    let full := { State.reset with reports := List.replicate 31 r }
    let head := { State.reset with reports := r :: List.replicate 23 r, cmdQueue := [entry 2 0 0 0] }
    (State.reset.reports.length < 31) ∧ full.reports.length = 31 ∧ full.reports.getLast? = some r ∧ r.kind ≠ .gap
      ∧ 31 ≤ brimming.reports.length ∧ brimming.reports.length = 32 ∧ tailIsGap brimming.reports = true ∧ brimming.reports = List.replicate 31 r ++ [chipReport .gap 1 0 0] ∧ (chipReport .gap 1 0 0).kind = .gap
      ∧ head.headCommand = some (.enable 0) ∧ (List.replicate 23 r).length < 24 := by decide

theorem witness_CommandOrder :
    let busy := { State.reset with reports := List.replicate 24 (chipReport .gap 1 0 0) }
    commandEntry (.enable 3) = some (entry 2 3 0 0) ∧ 24 ≤ busy.reports.length
      ∧ (queued (entry 3 3 0 0) State.reset).cmdQueue.head? = some (entry 3 3 0 0) ∧ entryCommand (entry 3 3 0 0) ≠ .enable 3
      ∧ WellFormed (.enable 3) = true ∧ entryCommand (entry 2 3 0 0) = .enable 3 ∧ State.reset.cmdQueue = [] ∧ State.reset.reports.length < 24
      ∧ entryCommand (entry 10 0 7 7) = .restart ∧ (entry 10 0 7 7).p0 = State.reset.cmdP0 := by decide

theorem witness_TakenCommandLeavesResult : TakesCommand (queued (entry 2 3 0 0) (shelf 0 0 0 0)) (.enable 3) (entry 2 3 0 0) := by decide

theorem witness_RefusedCommandLeavesOnlyItsResult :
    TakesCommand (queued (entry 2 8 0 0) (shelf 0 0 0 0)) (.enable 8) (entry 2 8 0 0)
      ∧ expectedResult (queued (entry 2 8 0 0) (shelf 0 0 0 0)) (.enable 8) ≠ .ok := by decide

/-- A SLOT_CONFIG entry for slot 0. -/
def config (field value : Half) : CmdEntry := entry 1 0 field value

/-- The shelf with a SLOT_CONFIG of slot 0 waiting. -/
def configured (field value : Half) : State := queued (config field value) (shelf 0 0 2 0)

theorem queued_taken {s : State} {e : CmdEntry} {c : Instr} (h : s.reports.length < 24) (hc : entryCommand e = c) :
    TakesCommand (queued e s) c e := ⟨h, rfl, hc⟩

theorem configured_taken (f v : Half) {c : Instr} (hc : entryCommand (config f v) = c) : TakesCommand (configured f v) c (config f v) :=
  queued_taken (by decide) hc

theorem witness_ConfigFields (v : Half) : slotOf 0 = some 0 ∧ TakesCommand (configured 3 v) (.slotConfigAdmissionCharge 0 v) (config 3 v)
    ∧ TakesCommand (configured 5 v) (.slotConfigSettle 0 v) (config 5 v) ∧ TakesCommand (configured 6 v) (.slotConfigDischarge 0 v) (config 6 v)
    ∧ TakesCommand (configured 9 v) (.slotConfigReclaimWindow 0 v) (config 9 v) ∧ TakesCommand (configured 4 v) (.slotConfigLease 0 v) (config 4 v)
    ∧ TakesCommand (configured 7 v) (.slotConfigHelloTimeout 0 v) (config 7 v) ∧ TakesCommand (configured 8 v) (.slotConfigReplyWindow 0 v) (config 8 v)
    ∧ TakesCommand (configured 1 v) (.slotConfigClass 0 v) (config 1 v) ∧ TakesCommand (configured 10 v) (.slotConfigFloorOverride 0 v) (config 10 v) :=
  ⟨rfl, configured_taken _ _ rfl, configured_taken _ _ rfl, configured_taken _ _ rfl, configured_taken _ _ rfl, configured_taken _ _ rfl,
    configured_taken _ _ rfl, configured_taken _ _ rfl, configured_taken _ _ rfl, configured_taken _ _ rfl⟩

theorem witness_ConfigFields_bounds : (1 : Half).toNat = 1 ∧ (255 : Half).toNat = 255 ∧ (0 : Half).toNat ≤ 3 ∧ (3 : Half).toNat ≤ 3
    ∧ (0 : Half).toNat ≤ 5 ∧ (5 : Half).toNat ≤ 5 ∧ (10 : Half).toNat = 10 ∧ (2 : Half).toNat = 2 ∧ (configured 1 0).waitList = []
    ∧ ActiveWith (configured 10 5) 0 (cardAt [20, 60, 100] 0) := by decide

theorem witness_ConfigFields_moved :
    let w := queued (config 1 3) (waiting [stepEntry 3 1 1 1, stepEntry 0 1 2 2] (shelf 0 0 2 0))
    TakesCommand w (.slotConfigClass 0 3) (config 1 3) ∧ WaitForm w ∧ w.entryOf 0 = some (stepEntry 0 1 2 2)
      ∧ (stepEntry 0 1 2 2).cls ≠ (3 : Half).toNat := by decide

theorem witness_ConfigFields_override_elsewhere : slotOf 4 = some 4 ∧ ((shelf 0 0 2 0).slot 4).state ≠ .active
    ∧ TakesCommand (queued (entry 1 4 10 5) (shelf 0 0 2 0)) (.slotConfigFloorOverride 4 5) (entry 1 4 10 5) := by decide

/-- Slot 0 of the shelf with a host reclaim to step g, and a cap write of 60 waiting. -/
def capUnderReclaim (g : Nat) : State := queued (config 2 60) (inSlot 0 (reclaiming g .host) (shelf 2 0 0 0))

theorem witness_ConfigCap_other_states (v : Half) : slotOf 4 = some 4 ∧ ((shelf 0 0 2 0).slot 4).state ≠ .active ∧ (1 : Half).toNat = 1
    ∧ (1023 : Half).toNat = 1023 ∧ TakesCommand (queued (entry 1 4 2 v) (shelf 0 0 2 0)) (.slotConfigCap 4 v) (entry 1 4 2 v) :=
  ⟨rfl, by decide, rfl, rfl, queued_taken (by decide) rfl⟩

theorem witness_ConfigCap :
    let s := queued (config 2 60) (shelf 2 0 2 0)
    let c := cardAt [20, 60, 100] 2
    slotOf 0 = some 0 ∧ TakesCommand s (.slotConfigCap 0 60) (config 2 60) ∧ ActiveWith s 0 c ∧ c.draw 0 ≤ (60 : Half).toNat ∧ 1 < c.count
      ∧ c.draw 1 ≤ (60 : Half).toNat ∧ (60 : Half).toNat < c.draw 2 ∧ (60 : Half).toNat < c.draw c.held ∧ (s.slot 0).reclaim = none := by decide

theorem witness_ConfigCap_lowest_step : TakesCommand (queued (config 2 20) (shelf 2 0 2 0)) (.slotConfigCap 0 20) (config 2 20)
    ∧ (cardAt [20, 60, 100] 2).draw 0 ≤ (20 : Half).toNat ∧ (20 : Half).toNat < (cardAt [20, 60, 100] 2).draw 1 := by decide

theorem witness_ConfigCap_under_reclaim : ∀ g ∈ [0, 1], TakesCommand (capUnderReclaim g) (.slotConfigCap 0 60) (config 2 60)
    ∧ ActiveWith (capUnderReclaim g) 0 (cardAt [20, 60, 100] 2) ∧ ((capUnderReclaim g).slot 0).reclaim.map Reclaim.target = some g := by decide

theorem witness_ConfigCap_entries :
    let w := queued (config 2 60) (waiting [stepEntry 0 1 2 2] (shelf 0 0 2 0))
    let s := queued (config 2 99) (shelf 0 0 2 0)
    (TakesCommand w (.slotConfigCap 0 60) (config 2 60) ∧ ActiveWith w 0 (cardAt [20, 60, 100] 0) ∧ w.entryOf 0 = some (stepEntry 0 1 2 2)
      ∧ (cardAt [20, 60, 100] 0).draw 0 ≤ (60 : Half).toNat)
    ∧ (TakesCommand s (.slotConfigCap 0 99) (config 2 99) ∧ s.waitList = [] ∧ ActiveWith s 0 (cardAt [20, 60, 100] 0)) := by decide

theorem witness_ConfigCap_top (k : Nat) (h1 : 1 < k) (h2 : k < (cardAt [20, 60, 100] 2).count) :
    (60 : Half).toNat < (cardAt [20, 60, 100] 2).draw k ∧ (99 : Half).toNat < (cardAt [20, 60, 100] 2).draw k := by
  have h2' : k < 3 := h2
  interval_cases k
  decide

/-- The shelf with slot t as slot 4 and a command for it waiting. -/
def fourth (code : Half) (t : Slot) : State := queued (entry code 4 0 1) (inSlot 4 (fun _ => t) (shelf 0 0 0 0))

/-- Slots in DISABLED and LOCKED. -/
def disabledSlot : Slot := { bare .disabled 0 with enabled := false, swen := false }
def lockedSlot (enabled : Bool) : Slot := { bare .locked 0 with enabled := enabled, swen := false }

theorem fourth_inv : BlockInv (fourth 2 disabledSlot) ∧ BlockInv (fourth 2 Slot.reset) ∧ BlockInv (fourth 1 disabledSlot) :=
  ⟨by constructor <;> decide, by constructor <;> decide, by constructor <;> decide⟩
theorem fourth_disable_inv : BlockInv (fourth 3 settling) ∧ BlockInv (fourth 3 listening) ∧ BlockInv (fourth 3 Slot.reset)
    ∧ BlockInv (waiting [admitEntry 4 1] (fourth 3 admitting)) :=
  ⟨by constructor <;> decide, by constructor <;> decide, by constructor <;> decide, by constructor <;> decide⟩
theorem fourth_restore_inv : BlockInv (fourth 4 (lockedSlot true)) ∧ BlockInv (fourth 4 (lockedSlot false)) :=
  ⟨by constructor <;> decide, by constructor <;> decide⟩

theorem witness_EnableDisableRestore : slotOf 4 = some 4 ∧ TakesCommand (fourth 2 disabledSlot) (.enable 4) (entry 2 4 0 1)
    ∧ TakesCommand (fourth 1 disabledSlot) (.slotConfigEnabled 4 1) (entry 1 4 0 1) ∧ ((fourth 2 disabledSlot).slot 4).state = .disabled
    ∧ TakesCommand (fourth 2 Slot.reset) (.enable 4) (entry 2 4 0 1) ∧ ((fourth 2 Slot.reset).slot 4).state ≠ .disabled := by decide

theorem witness_EnableDisableRestore_disable :
    TakesCommand (fourth 3 settling) (.disable 4) (entry 3 4 0 1) ∧ ((fourth 3 settling).slot 4).state = .settling
    ∧ ((fourth 3 listening).slot 4).state = .listening ∧ TakesCommand (fourth 3 Slot.reset) (.disable 4) (entry 3 4 0 1)
    ∧ TakesCommand (queued (entry 1 4 0 0) (shelf 0 0 0 0)) (.slotConfigEnabled 4 0) (entry 1 4 0 0)
    ∧ TakesCommand (waiting [admitEntry 4 1] (fourth 3 admitting)) (.disable 4) (entry 3 4 0 1)
    ∧ ((waiting [admitEntry 4 1] (fourth 3 admitting)).slot 4).state = .admitting
    ∧ (waiting [admitEntry 4 1] (fourth 3 admitting)).entryOf 4 = some (admitEntry 4 1) := by decide

theorem witness_EnableDisableRestore_restore : ∀ b, TakesCommand (fourth 4 (lockedSlot b)) (.restore 4) (entry 4 4 0 1)
    ∧ ((fourth 4 (lockedSlot b)).slot 4).state = .locked ∧ ((fourth 4 (lockedSlot b)).slot 4).enabled = b := by decide

theorem witness_HostReclaimAndDropWait :
    let c := cardAt [20, 60, 100] 2
    let s := queued (entry 5 0 1 0) (shelf 2 0 0 0)
    let r := fun g => queued (entry 5 0 1 0) (inSlot 0 (reclaiming g .lapse) (shelf 2 0 0 0))
    let w := queued (entry 6 0 0 0) (waiting [stepEntry 0 1 2 2] (shelf 0 0 2 0))
    let a := queued (entry 6 4 0 0) (waiting [admitEntry 4 1] (inSlot 4 (fun _ => admitting) (shelf 0 0 2 0)))
    (slotOf 0 = some 0 ∧ TakesCommand s (.reclaim 0 1) (entry 5 0 1 0) ∧ ActiveWith s 0 c ∧ (1 : Half).toNat < c.held ∧ (s.slot 0).reclaim = none)
    ∧ (∀ g ∈ [0, 1], TakesCommand (r g) (.reclaim 0 1) (entry 5 0 1 0) ∧ ActiveWith (r g) 0 c ∧ ((r g).slot 0).reclaim.map Reclaim.target = some g)
    ∧ (TakesCommand (queued (entry 5 0 0 0) (r 1)) (.reclaim 0 0) (entry 5 0 0 0) ∧ (0 : Half).toNat < 1)
    ∧ (TakesCommand w (.dropWait 0) (entry 6 0 0 0) ∧ w.entryOf 0 = some (stepEntry 0 1 2 2))
    ∧ (slotOf 4 = some 4 ∧ TakesCommand a (.dropWait 4) (entry 6 4 0 0) ∧ a.entryOf 4 = some (admitEntry 4 1)) := by decide

/-- The shelf with a SET_PROFILE, and with a reserve of 10 and a SET_RESERVE, waiting. -/
def profiled (index capacity : Half) : State := queued (entry 7 index capacity 0) (shelf 0 0 0 0)
def reserved (amount : Half) : State := queued (entry 8 amount 0 0) { shelf 0 0 0 0 with reserve := 10 }

theorem witness_ProfileReserveAndPolicy (v : Half) : TakesCommand (profiled 3 v) (.setProfile 3 v) (entry 7 3 v 0)
    ∧ TakesCommand (profiled 0 v) (.setProfile 0 v) (entry 7 0 v 0) ∧ TakesCommand (reserved v) (.setReserve v 0) (entry 8 v 0 0) :=
  ⟨queued_taken (by decide) rfl, queued_taken (by decide) rfl, queued_taken (by decide) rfl⟩

theorem witness_ProfileReserveAndPolicy_profiles : (3 : Fin 4) ≠ (profiled 3 0).src.value ∧ (3 : Half).toNat = (3 : Fin 4).val
    ∧ (4095 : Half).toNat = 4095 ∧ (0 : Fin 4) = (profiled 0 75).src.value ∧ (profiled 0 250).capacity = (250 : Half).toNat
    ∧ (profiled 0 4095).capacity < (4095 : Half).toNat ∧ (75 : Half).toNat < (profiled 0 75).capacity
    ∧ (profiled 0 75).committed = (75 : Half).toNat - (profiled 0 75).reserve := by decide

theorem witness_ProfileReserveAndPolicy_reserve : expectedResult (reserved 0) (.setReserve 0 0) = .ok
    ∧ expectedResult (reserved 10) (.setReserve 10 0) = .ok ∧ expectedResult (reserved 175) (.setReserve 175 0) = .ok
    ∧ (0 : Half).toNat < (reserved 0).reserve ∧ (10 : Half).toNat = (reserved 10).reserve ∧ (reserved 175).reserve < (175 : Half).toNat
    ∧ (reserved 175).committed = (reserved 175).capacity - (175 : Half).toNat := by decide

theorem witness_ProfileReserveAndPolicy_overdraft :
    let p := queued (entry 7 0 204 0) fallen
    let r := queued (entry 8 1 1 0) fallen
    (BlockInv p ∧ BlockInv r)
    ∧ (TakesCommand p (.setProfile 0 204) (entry 7 0 204 0) ∧ (0 : Fin 4) = p.src.value ∧ (204 : Half).toNat < p.capacity
      ∧ (204 : Half).toNat - p.reserve < p.committed)
    ∧ (TakesCommand r (.setReserve 1 1) (entry 8 1 1 0) ∧ expectedResult r (.setReserve 1 1) = .ok ∧ r.reserve < (1 : Half).toNat
      ∧ r.capacity - (1 : Half).toNat < r.committed) :=
  ⟨⟨by constructor <;> decide, by constructor <;> decide⟩, by decide⟩

theorem witness_ProfileReserveAndPolicy_policy :
    TakesCommand (queued (entry 9 1 1 1) (shelf 0 0 0 0)) (.setPolicy 1 1 1) (entry 9 1 1 1)
    ∧ TakesCommand (queued (entry 9 0 7 0) (shelf 0 0 0 0)) (.setPolicy 0 7 0) (entry 9 0 7 0) := by decide

theorem witness_Restart :
    let s := queued (entry 10 0 0 0) (waiting [admitEntry 4 1] (inSlot 4 (fun _ => admitting) (shelf 0 0 2 0)))
    BlockInv s ∧ TakesCommand s .restart (entry 10 0 0 0) ∧ s.reports.length + 1 + (restartReports s).length + s.waitList.length ≤ 31
    ∧ (s.slot 2).powered = true ∧ (s.slot 4).state = .admitting ∧ (s.slot 5).powered = false :=
  ⟨by constructor <;> decide, by decide⟩

theorem witness_Restart_overdraft :
    let s := queued (entry 10 0 0 0) (waiting [admitEntry 4 1] (inSlot 4 (fun _ => admitting) drained))
    BlockInv s ∧ TakesCommand s .restart (entry 10 0 0 0) ∧ s.episode.kind = .overdraft ∧ s.episode.victims ≠ []
    ∧ (after .restart s).episode.cuts = [{ slot := 1, counted := 90 }, { slot := 0, counted := 60 }, { slot := 2, counted := 80 }] :=
  ⟨by constructor <;> decide, by decide⟩

theorem witness_SnapshotLatch :
    let s := fun (sel : Half) => { drained with tableSel := sel, recency := [2] }
    (∀ sel ∈ [(3 : Half), 4, 5, 6], BlockInv (s sel))
    ∧ Instr.profileSnapshot 3 ∈ [Instr.slotRecordSnapshot 3, .stepTableSnapshot 3, .waitEntrySnapshot 3, .episodeRecordSnapshot 3, .profileSnapshot 3,
        .recencyListSnapshot 3, .tableIndexWriteNoTable 3]
    ∧ recordExists (s 4) 4 4 = false ∧ recordExists (s 6) 6 0 = false ∧ recordExists (s 4) 4 3 = true
    ∧ (s 3).episode.victims[(1 : Half).toNat - 1]? = some { slot := 0, target := 0, remaining := 40 }
    ∧ (s 3).episode.cuts[(9 : Half).toNat - 9]? = some { slot := 1, counted := 90 } := by
  refine ⟨?_, by decide⟩
  intro sel h
  simp only [List.mem_cons, List.not_mem_nil, or_false] at h
  rcases h with rfl | rfl | rfl | rfl <;> constructor <;> decide

theorem witness_SnapshotLayouts :
    let w := waiting [stepEntry 0 1 2 2] (shelf 0 0 2 0)
    (BlockInv (shelf 0 0 2 0) ∧ BlockInv { shelf 0 0 2 0 with tableSel := 1 } ∧ BlockInv { w with tableSel := 2 }
      ∧ BlockInv { drained with tableSel := 3 })
    ∧ ((∃ t, exec (.slotRecordSnapshot 7) (shelf 0 0 2 0) = .next t) ∧ (∃ t, exec (.stepTableSnapshot 3) { shelf 0 0 2 0 with tableSel := 1 } = .next t)
      ∧ (∃ t, exec (.waitEntrySnapshot 1) { w with tableSel := 2 } = .next t)
      ∧ ∃ t, exec (.episodeRecordSnapshot 0) { drained with tableSel := 3 } = .next t) ∧ (15 : Half).toNat = (7 : SlotId).val + 8
    ∧ ((shelf 0 0 2 0).slot 3).card = some (cardAt [15, 40] 0) ∧ w.waitList[(1 : Half).toNat - 1]? = some (stepEntry 0 1 2 2) :=
  ⟨⟨shelf_inv, by constructor <;> decide, by constructor <;> decide, by constructor <;> decide⟩,
    ⟨⟨_, rfl⟩, ⟨_, rfl⟩, ⟨_, rfl⟩, ⟨_, rfl⟩⟩, by decide, by decide, by decide⟩

end Sys2Proof.Tests
end

/-! The machine as a whole: a step, the state after pin reset. -/
section
namespace Sys2Proof.Proofs

open Machine Safety

/-- A queue with a front command is stepped by `exec`. -/
theorem step_of_pending {s : State} {c : Instr} {rest : List Instr} (h : s.pending = c :: rest) : step s = exec c { s with pending := rest } := by
  simp [step, h]

/-- An empty queue idles. -/
theorem step_of_idle {s : State} (h : s.pending = []) : step s = .next s := by simp [step, h]

/-- Settles O1: the two arms of `step`. -/
theorem stepTakesFrontCommand : Obligations.StepTakesFrontCommand :=
  fun _ _ _ => ⟨step_of_pending, step_of_idle⟩

/-- What every register reads after pin reset (R172). -/
theorem read_reset : ∀ a : BitVec 6, State.reset.read a = if a = 0 then 0xB8A1 else if a = 1 then 1 else 0 := by decide

/-- Every slot stands as reset leaves it (R20). -/
theorem slot_reset : ∀ i : SlotId, State.reset.slot i = Slot.reset := by decide

/-- IRQ# is released after pin reset, and every profile record holds 0 (R12, R172). -/
theorem irqLow_reset : State.reset.irqLow = false ∧ ∀ p : Fin 4, State.reset.profiles[p] = 0 := by decide

/-- Settles O2: the reset state is written out, and `pending` is read by no register. -/
theorem pinResetReturnsToReset : Obligations.PinResetReturnsToReset := by
  intro s
  refine ⟨{ State.reset with pending := s.pending }, rfl, rfl, fun a v => ⟨rfl, rfl⟩, read_reset, irqLow_reset.1, rfl, rfl, irqLow_reset.2, rfl, rfl, rfl,
    rfl, rfl, rfl, rfl, fun i => ?_⟩
  have h : State.slot { State.reset with pending := s.pending } i = Slot.reset := slot_reset i
  rw [h]
  exact ⟨rfl, rfl, rfl, rfl, rfl, rfl, rfl, rfl, rfl, rfl, rfl, rfl, rfl, rfl, rfl, rfl, rfl, rfl⟩

/-- Settles O3: every form is evaluated at the state after reset. -/
theorem resetMeetsInvariant : Obligations.ResetMeetsInvariant := by
  constructor <;> decide

/-- After `n + 1` samples of a value that is neither the debounced one nor pending, it is pending with that count (R11, R21). -/
theorem sample_iterate {α : Type} [DecidableEq α] (d : Debounce α) (v : α) (hv : v ≠ d.value) (hp : ∀ p k, d.pending = some (p, k) → p ≠ v)
    (n : Nat) : (Debounce.sample v)^[n + 1] d = { value := d.value, pending := some (v, n + 1) } := by
  induction n with
  | zero =>
    cases h : d.pending with
    | none => simp [Debounce.sample, hv, h]
    | some x => simp [Debounce.sample, hv, h, hp x.1 x.2 h]
  | succ n ih =>
    rw [Function.iterate_succ_apply', ih]
    simp [Debounce.sample, hv]

/-- Settles O8, by the state of the debounce after a run of equal samples. -/
theorem debounceNeedsEverySample : Obligations.DebounceNeedsEverySample := by
  intro α _ d v n length hv hp
  rw [sample_iterate d v hv hp n]
  refine ⟨rfl, by simp [Debounce.ready], by simp [Debounce.sample], fun w hw hd => ?_⟩
  simp [Debounce.sample, hd, hw.symm]

end Sys2Proof.Proofs
end

/-! What the shared operations can do to the state, as one relation: they change slots calmly, replace the Arbiter's lists and append reports. -/
section
namespace Sys2Proof.Proofs

open Machine Safety

/-! Calm changes of a link and of a slot: configuration stays in range, and nothing becomes due. -/

/-- The reply window of the outstanding message has run out. -/
def replyDue (l : Link) : Bool := l.outstanding.any (fun o => o.window.due)

/-- A change of a link that lets no timer run out. -/
structure LinkCalm (l l' : Link) : Prop where
  gap : l.gap.due = false → l'.gap.due = false
  reply : replyDue l = false → replyDue l' = false

/-- What can be due in a slot. -/
inductive SlotEvent where
  | presence | settle | hello | discharge | lease | window | frame | reply | gap

/-- The event is due in the slot. -/
def dueIn (t : Slot) : SlotEvent → Bool
  | .presence => (t.pres.ready Config.presDebounce).isSome
  | .settle => t.settle.due
  | .hello => t.hello.due
  | .discharge => t.discharge.due
  | .lease => t.lease.due
  | .window => t.windowDue
  | .frame => t.frameDue
  | .reply => replyDue t.link
  | .gap => t.link.gap.due

theorem slotQuiet_iff (t : Slot) : slotQuiet t = true ↔ ∀ e, dueIn t e = false := by
  constructor
  · intro h e
    simp only [slotQuiet, Bool.and_eq_true, Bool.not_eq_true', Option.isNone_iff_eq_none] at h
    obtain ⟨⟨⟨⟨⟨⟨⟨⟨h1, h2⟩, h3⟩, h4⟩, h5⟩, h6⟩, h7⟩, h8⟩, h9⟩ := h
    cases e with
    | presence => simp [dueIn, h1]
    | settle => exact h2
    | hello => exact h3
    | discharge => exact h4
    | lease => exact h5
    | window => exact h6
    | frame => exact h7
    | gap => exact h8
    | reply => exact h9
  · intro h
    have h1 : t.pres.ready Config.presDebounce = none := by simpa [dueIn] using h .presence
    have h2 : t.settle.due = false := h .settle
    have h3 : t.hello.due = false := h .hello
    have h4 : t.discharge.due = false := h .discharge
    have h5 : t.lease.due = false := h .lease
    have h6 : t.windowDue = false := h .window
    have h7 : t.frameDue = false := h .frame
    have h8 : t.link.gap.due = false := h .gap
    have h9 : t.link.outstanding.any (fun o => o.window.due) = false := h .reply
    simp [slotQuiet, h1, h2, h3, h4, h5, h6, h7, h8, h9]

/-- A change of a slot that keeps its configuration in range and makes nothing due. -/
def Calm (t t' : Slot) : Prop := configFits t.cfg = true → configFits t'.cfg = true ∧ ∀ e, dueIn t e = false → dueIn t' e = false

@[simp] theorem due_none : Timer.due none = false := rfl
@[simp] theorem due_some (n : Nat) : Timer.due (some n) = (n == 0) := by cases n <;> rfl
@[simp] theorem due_start (n : Nat) : (Timer.start n).due = (n == 0) := due_some n
@[simp] theorem ready_rest {α : Type} (n : Nat) (v : α) : (Debounce.rest v).ready n = none := rfl

/-- What the transmitter begins to send leaves the timers of the link as they run. -/
@[simp] theorem pump_gap (l : Link) : l.pump.gap = l.gap := by
  unfold Link.pump
  repeat' split
  all_goals rfl

@[simp] theorem replyDue_pump (l : Link) : replyDue l.pump = replyDue l := by
  unfold Link.pump
  repeat' split
  all_goals simp_all [replyDue]

namespace LinkCalm

theorem of_eq {l l' : Link} (hg : l'.gap = l.gap) (hr : replyDue l' = replyDue l) : LinkCalm l l' := ⟨by simp [hg], by simp [hr]⟩

theorem pump (l : Link) : LinkCalm l l.pump := of_eq (pump_gap l) (replyDue_pump l)

theorem trans {l m n : Link} (h : LinkCalm l m) (h' : LinkCalm m n) : LinkCalm l n := ⟨fun hl => h'.gap (h.gap hl), fun hl => h'.reply (h.reply hl)⟩

theorem of_pump {l m : Link} (h : LinkCalm l m) : LinkCalm l m.pump := h.trans (pump m)

theorem placeReply (tag : BitVec 3) (r : Reply) (l : Link) : LinkCalm l (Link.placeReply tag r l) := of_pump (of_eq rfl rfl)
theorem answer (k : LinkKind) (tag : BitVec 3) (r : Reply) (l : Link) : LinkCalm l (Link.answer k tag r l) := of_pump (of_eq rfl rfl)
theorem placeReclaim (g w : Nat) (l : Link) : LinkCalm l (Link.placeReclaim g w l) := of_pump (of_eq rfl rfl)
theorem placeAward (g w : Nat) (l : Link) : LinkCalm l (Link.placeAward g w l) := of_pump (of_eq rfl rfl)
theorem placeNotice (k : NoticeKind) (v : Nat) (l : Link) : LinkCalm l (Link.placeNotice k v l) := of_pump (of_eq rfl rfl)

theorem retry (o : Outstanding) (l : Link) : LinkCalm l (Link.retry o l) :=
  trans (m := { l with outstanding := some { o with retries := o.retries + 1, due := true, window := none } })
    ⟨id, fun _ => by simp [replyDue]⟩ (pump _)

theorem rehunt (l : Link) : LinkCalm l l.rehunt := by
  unfold Link.rehunt
  split
  · exact of_eq rfl rfl
  · exact ⟨fun _ => rfl, id⟩

theorem acknowledge (q : Bool) (l : Link) : LinkCalm l (Link.acknowledge q l) := by
  unfold Link.acknowledge
  split
  · split
    · exact trans (m := { l with outstanding := none }) ⟨id, fun _ => rfl⟩ (pump _)
    · exact of_eq rfl rfl
  · exact of_eq rfl rfl

theorem afterByte (a : Assembler) (l : Link) : LinkCalm l (Link.afterByte a l) :=
  ⟨fun _ => by unfold Link.afterByte; dsimp only; split <;> simp [Config.gapTicks], id⟩

theorem sent {w : Nat} (hw : w ≠ 0) (l : Link) : LinkCalm l (Link.sent w l) := by
  unfold Link.sent
  split
  · exact of_eq rfl rfl
  · exact trans (m := { l with tx := .idle }) (of_eq rfl rfl) (pump _)
  · refine trans (m := { l with tx := .idle, outstanding := l.outstanding.map (fun o => { o with window := Timer.start w }) }) ⟨id, fun _ => ?_⟩ (pump _)
    cases l.outstanding <;> simp [replyDue, hw]

end LinkCalm

namespace Calm

theorem refl (t : Slot) : Calm t t := fun h => ⟨h, fun _ he => he⟩

theorem trans {t u v : Slot} (h : Calm t u) (h' : Calm u v) : Calm t v := fun hc =>
  ⟨(h' (h hc).1).1, fun e he => (h' (h hc).1).2 e ((h hc).2 e he)⟩

theorem quiet {t t' : Slot} (h : Calm t t') (hc : configFits t.cfg = true) (hq : slotQuiet t = true) : slotQuiet t' = true :=
  (slotQuiet_iff _).mpr fun e => (h hc).2 e ((slotQuiet_iff _).mp hq e)

theorem link {t : Slot} {l : Link} (h : LinkCalm t.link l) : Calm t { t with link := l } := fun hc =>
  ⟨hc, fun e he => by
    cases e with
    | reply => exact h.reply he
    | gap => exact h.gap he
    | _ => exact he⟩

/-- A change that keeps the configuration record, and of the parts that can be due changes none. -/
theorem of_same {t t' : Slot} (hc : t'.cfg = t.cfg) (hq : dueIn t' = dueIn t) : Calm t t' := by
  intro h
  rw [hc, hq]
  exact ⟨h, fun _ he => he⟩

end Calm

/-! The relation. -/

/-- What events of slots, links and the Arbiter are made of. -/
inductive Evolves (s : State) : State → Prop
  | refl : Evolves s s
  | modSlot {u : State} (h : Evolves s u) (i : SlotId) (f : Slot → Slot) (hf : Calm (u.slot i) (f (u.slot i))) : Evolves s (u.modSlot i f)
  | setWait {u : State} (h : Evolves s u) (l : List WaitEntry) : Evolves s (u.setWait l)
  | setEpisode {u : State} (h : Evolves s u) (e : Episode) : Evolves s (u.setEpisode e)
  | setRecency {u : State} (h : Evolves s u) (l : List SlotId) : Evolves s (u.setRecency l)
  | append {u : State} (h : Evolves s u) (r : Report) (hr : r.kind ≠ .gap) : Evolves s (u.append r)

theorem gapsApart_concat (q : List Report) (r : Report) (h : gapsApart q = true) (hr : r.kind ≠ .gap ∨ tailIsGap q = false) :
    gapsApart (q ++ [r]) = true := by
  induction q with
  | nil => rfl
  | cons a q ih =>
    cases q with
    | nil => cases ha : decide (a.kind = .gap) <;> cases hb : decide (r.kind = .gap) <;> simp_all [gapsApart, tailIsGap]
    | cons b q =>
      simp only [gapsApart, List.cons_append, Bool.and_eq_true] at h ⊢
      refine ⟨h.1, ih h.2 ?_⟩
      simpa [tailIsGap] using hr

/-- The table of R176: an append lengthens the queue by the record, counts it into the tail GAP, or adds a GAP. -/
theorem append_cases (s : State) (r : Report) :
    (s.reports.length < 31 ∧ (s.append r).reports = s.reports ++ [r] ∧ (s.append r).gapSeen = s.gapSeen)
    ∨ (31 ≤ s.reports.length ∧ tailIsGap s.reports = true ∧ (s.append r).reports = countLoss s.reports ∧ (s.append r).gapSeen = s.gapSeen)
    ∨ (31 ≤ s.reports.length ∧ tailIsGap s.reports = false ∧ (s.append r).reports = s.reports ++ [chipReport .gap 1 0 0]
      ∧ (s.append r).gapSeen = true) := by
  unfold State.append
  by_cases h1 : s.reports.length < Config.reportLimit
  · rw [if_pos h1]; exact .inl ⟨h1, rfl, rfl⟩
  · rw [if_neg h1]
    have h31 : 31 ≤ s.reports.length := Nat.not_lt.mp h1
    cases h2 : tailIsGap s.reports
    · exact .inr (.inr ⟨h31, rfl, rfl, rfl⟩)
    · exact .inr (.inl ⟨h31, rfl, rfl, rfl⟩)

/-- A queue with a tail record is its front with that record. -/
theorem eq_front_concat {q : List Report} (h : tailIsGap q = true) : ∃ front t, q = front ++ [t] ∧ t.kind = .gap := by
  unfold tailIsGap at h
  split at h
  · rename_i t ht
    exact ⟨q.dropLast, t, (List.dropLast_append_getLast? t ht).symm, by simpa using h⟩
  · cases h

theorem countLoss_concat (front : List Report) (t : Report) : countLoss (front ++ [t]) = front ++ [{ t with a := gapCount t.a }] := by
  simp [countLoss]

theorem tailIsGap_concat (front : List Report) (t : Report) : tailIsGap (front ++ [t]) = decide (t.kind = .gap) := by
  simp [tailIsGap]

theorem gapsApart_replace_tail (front : List Report) (t t' : Report) (ht : t'.kind = t.kind) (h : gapsApart (front ++ [t]) = true) :
    gapsApart (front ++ [t']) = true := by
  induction front with
  | nil => rfl
  | cons a front ih =>
    cases front with
    | nil => simpa [gapsApart, ht] using h
    | cons b front =>
      simp only [List.cons_append, gapsApart, Bool.and_eq_true] at h ⊢
      exact ⟨h.1, ih h.2⟩

/-- An append keeps the form of the report queue (R174, R176). -/
theorem reportForm_append {s : State} {r : Report} (h : ReportForm s) (hr : r.kind ≠ .gap) : ReportForm (s.append r) := by
  obtain ⟨hl, ht, hg⟩ := h
  rcases append_cases s r with ⟨h1, h2, -⟩ | ⟨h1, h2, h3, -⟩ | ⟨h1, h2, h3, -⟩
  · refine ⟨by rw [h2, List.length_append, List.length_singleton]; omega, fun h => ?_, ?_⟩
    · rw [h2, List.length_append, List.length_singleton] at h; omega
    · rw [h2]; exact gapsApart_concat _ _ hg (.inl hr)
  · obtain ⟨front, t, hq, hk⟩ := eq_front_concat h2
    have hc : countLoss s.reports = front ++ [{ t with a := gapCount t.a }] := by rw [hq, countLoss_concat]
    refine ⟨?_, fun _ => ?_, ?_⟩
    · rw [h3, hc]; rw [hq] at hl; simpa using hl
    · rw [h3, hc, tailIsGap_concat]; simpa using hk
    · rw [h3, hc]
      rw [hq] at hg
      exact gapsApart_replace_tail _ t _ rfl hg
  · have hlen : s.reports.length = 31 := by
      by_contra hne
      rw [ht (by omega)] at h2
      cases h2
    refine ⟨by rw [h3, List.length_append, List.length_singleton]; omega, fun _ => ?_, ?_⟩
    · rw [h3, tailIsGap_concat]; rfl
    · rw [h3]; exact gapsApart_concat _ _ hg (.inr h2)

/-- GAP_SEEN is set only where a GAP stands as the 32nd record (R161, R176). -/
def gapStands (s : State) : Prop := 32 ≤ s.reports.length ∧ tailIsGap s.reports = true

theorem gapSeen_append (s : State) (r : Report) :
    (s.gapSeen = true → (s.append r).gapSeen = true) ∧ (gapStands s → gapStands (s.append r))
    ∧ (s.gapSeen = false → (s.append r).gapSeen = true → gapStands (s.append r)) ∧ s.reports.length ≤ (s.append r).reports.length := by
  rcases append_cases s r with ⟨h1, h2, h3⟩ | ⟨h1, h2, h3, h4⟩ | ⟨h1, h2, h3, h4⟩
  · refine ⟨by simp [h3], fun ⟨h, _⟩ => by omega, fun h h' => absurd (h3 ▸ h') (by simp [h]), by simp [h2]⟩
  · obtain ⟨front, t, hq, hk⟩ := eq_front_concat h2
    have hc : (s.append r).reports = front ++ [{ t with a := gapCount t.a }] := by rw [h3, hq, countLoss_concat]
    refine ⟨by simp [h4], fun ⟨h, _⟩ => ⟨by rw [hc]; rw [hq] at h; simpa using h, by rw [hc, tailIsGap_concat]; simpa using hk⟩,
      fun h h' => absurd (h4 ▸ h') (by simp [h]), by rw [hc, hq]; simp⟩
  · have hstands : gapStands (s.append r) := ⟨by rw [h3, List.length_append, List.length_singleton]; omega, by rw [h3, tailIsGap_concat]; rfl⟩
    exact ⟨fun _ => h4, fun _ => hstands, fun _ _ => hstands, by simp [h3]⟩

namespace Evolves

variable {s u : State}

theorem trans {v : State} (h : Evolves s u) (h' : Evolves u v) : Evolves s v := by
  induction h' with
  | refl => exact h
  | modSlot _ i f hf ih => exact ih.modSlot i f hf
  | setWait _ l ih => exact ih.setWait l
  | setEpisode _ e ih => exact ih.setEpisode e
  | setRecency _ l ih => exact ih.setRecency l
  | append _ r hr ih => exact ih.append r hr

/-- The parts that events do not write stay. -/
theorem rest (h : Evolves s u) : u.rest = s.rest := by
  induction h with
  | refl => rfl
  | append _ r _ ih => rw [State.rest_append, ih]
  | modSlot _ _ _ _ ih => exact ih
  | setWait _ _ ih => exact ih
  | setEpisode _ _ ih => exact ih
  | setRecency _ _ ih => exact ih

theorem reportForm (h : Evolves s u) (hs : ReportForm s) : ReportForm u := by
  induction h with
  | refl => exact hs
  | append _ r hr ih => exact reportForm_append ih hr
  | modSlot _ _ _ _ ih => exact ih
  | setWait _ _ ih => exact ih
  | setEpisode _ _ ih => exact ih
  | setRecency _ _ ih => exact ih

/-- GAP_SEEN is never cleared, is set only with a GAP as the 32nd record, and no report goes (R161, R174, R176). -/
theorem gapSeen (h : Evolves s u) :
    (s.gapSeen = true → u.gapSeen = true) ∧ (gapStands s → gapStands u) ∧ (s.gapSeen = false → u.gapSeen = true → gapStands u)
    ∧ s.reports.length ≤ u.reports.length := by
  induction h with
  | refl => exact ⟨id, id, fun h h' => absurd h' (by simp [h]), le_rfl⟩
  | @append v _ r _ ih =>
    obtain ⟨h1, h2, h3, h4⟩ := ih
    obtain ⟨g1, g2, g3, g4⟩ := gapSeen_append v r
    refine ⟨fun h => g1 (h1 h), fun h => g2 (h2 h), fun h h' => ?_, h4.trans g4⟩
    cases hv : v.gapSeen
    · exact g3 hv h'
    · exact g2 (h3 h hv)
  | modSlot _ _ _ _ ih => exact ih
  | setWait _ _ ih => exact ih
  | setEpisode _ _ ih => exact ih
  | setRecency _ _ ih => exact ih

/-- Every slot changes calmly. -/
theorem calm (h : Evolves s u) (j : SlotId) : Calm (s.slot j) (u.slot j) := by
  induction h with
  | refl => exact Calm.refl _
  | append _ r _ ih => rw [State.append_slot]; exact ih
  | modSlot _ i f hf ih =>
    by_cases hj : j = i
    · subst hj
      rw [State.modSlot_slot_same]
      exact ih.trans hf
    · rw [State.modSlot_slot_other _ _ hj]; exact ih
  | setWait _ _ ih => exact ih
  | setEpisode _ _ ih => exact ih
  | setRecency _ _ ih => exact ih

end Evolves

end Sys2Proof.Proofs
end

/-! Every shared operation evolves the state. Each lemma has the form "what has evolved so far goes on through the operation", so that they
chain in the order of the operation's own text. -/
section
namespace Sys2Proof.Proofs

open Machine Safety

/-- The ranges of the configuration fields (section 2.9). -/
structure ConfigRanges (c : SlotConfig) : Prop where
  cls : c.cls ≤ 3
  cap : 1 ≤ c.cap ∧ c.cap ≤ 1023
  admission : 1 ≤ c.admission ∧ c.admission ≤ 255
  lease : c.lease ≤ 255
  settle : 1 ≤ c.settle ∧ c.settle ≤ 255
  discharge : 1 ≤ c.discharge ∧ c.discharge ≤ 255
  helloTimeout : 10 ≤ c.helloTimeout ∧ c.helloTimeout ≤ 255
  replyWindow : 2 ≤ c.replyWindow ∧ c.replyWindow ≤ 255
  reclaimWindow : 1 ≤ c.reclaimWindow ∧ c.reclaimWindow ≤ 255
  floorOverride : c.floorOverride.getD 0 ≤ 5

theorem configFits_iff (c : SlotConfig) : configFits c = true ↔ ConfigRanges c := by
  simp only [configFits, Bool.and_eq_true, decide_eq_true_eq]
  constructor
  · rintro ⟨⟨⟨⟨⟨⟨⟨⟨⟨⟨⟨⟨⟨⟨⟨⟨h0, h1⟩, h2⟩, h3⟩, h4⟩, h5⟩, h6⟩, h7⟩, h8⟩, h9⟩, h10⟩, h11⟩, h12⟩, h13⟩, h14⟩, h15⟩, h16⟩
    exact ⟨h0, ⟨h1, h2⟩, ⟨h3, h4⟩, h5, ⟨h6, h7⟩, ⟨h8, h9⟩, ⟨h10, h11⟩, ⟨h12, h13⟩, ⟨h14, h15⟩, h16⟩
  · rintro ⟨h0, ⟨h1, h2⟩, ⟨h3, h4⟩, h5, ⟨h6, h7⟩, ⟨h8, h9⟩, ⟨h10, h11⟩, ⟨h12, h13⟩, ⟨h14, h15⟩, h16⟩
    exact ⟨⟨⟨⟨⟨⟨⟨⟨⟨⟨⟨⟨⟨⟨⟨⟨h0, h1⟩, h2⟩, h3⟩, h4⟩, h5⟩, h6⟩, h7⟩, h8⟩, h9⟩, h10⟩, h11⟩, h12⟩, h13⟩, h14⟩, h15⟩, h16⟩

theorem leaseAtGrant_due (n : Nat) : (leaseAtGrant n).due = false := by
  unfold leaseAtGrant
  split
  · rfl
  · simpa [Config.ticksPerSecond] using ‹_›

theorem leaseAtEnd_due (n : Nat) {t : Timer} (h : t.due = false) : (leaseAtEnd n t).due = false := by
  unfold leaseAtEnd
  split
  · rfl
  · exact h

namespace Calm

/-- A change that keeps the configuration record, and makes nothing due while the configuration is in its ranges. -/
theorem of_quiet {t t' : Slot} (hc : t'.cfg = t.cfg) (hq : ConfigRanges t.cfg → ∀ e, dueIn t e = false → dueIn t' e = false) : Calm t t' := by
  intro h
  rw [hc]
  exact ⟨h, hq ((configFits_iff _).mp h)⟩

theorem grantStep (c : Card) (g : Nat) (t : Slot) :
    Calm t { t with charge := c.draw g, card := some { c with held := g }, lease := leaseAtGrant t.cfg.lease } :=
  of_quiet rfl fun _ e he => by
    cases e with
    | lease => exact leaseAtGrant_due _
    | _ => exact he

theorem powerUp (n : Nat) (t : Slot) :
    Calm t { t with charge := n, swen := true, state := .settling, settle := Timer.start (Config.ticksPerUnit * t.cfg.settle) } :=
  of_quiet rfl fun hc e he => by
    cases e with
    | settle => have := hc.settle.1; simp [dueIn, Config.ticksPerUnit]; omega
    | _ => exact he

theorem cut (r : CutReason) (t : Slot) : Calm t (t.cut r) :=
  of_quiet rfl fun hc e he => by
    cases e with
    | discharge => have := hc.discharge.1; simp [dueIn, Slot.cut]; omega
    | presence => exact he
    | frame => exact he
    | _ => rfl

theorem discharged (d : Destination) (t : Slot) : Calm t (t.discharged d) :=
  of_quiet rfl fun _ e he => by
    cases e with
    | discharge => rfl
    | _ => exact he

theorem presence (b : Bool) (t : Slot) : Calm t { t with pres := Debounce.rest b } :=
  of_quiet rfl fun _ e he => by
    cases e with
    | presence => rfl
    | _ => exact he

theorem clearLease (t : Slot) : Calm t { t with lease := none } :=
  of_quiet rfl fun _ e he => by
    cases e with
    | lease => rfl
    | _ => exact he

theorem clearHello (t : Slot) : Calm t { t with hello := none } :=
  of_quiet rfl fun _ e he => by
    cases e with
    | hello => rfl
    | _ => exact he

theorem clearFrame (t : Slot) : Calm t { t with frameDue := false } :=
  of_quiet rfl fun _ e he => by
    cases e with
    | frame => rfl
    | _ => exact he

/-- A lease that is started afresh. -/
theorem renewLease {n : Nat} (hn : n ≠ 0) (t : Slot) : Calm t { t with lease := Timer.start n } :=
  of_quiet rfl fun _ e he => by
    cases e with
    | lease => simp [dueIn, hn]
    | _ => exact he

/-- A lease that is kept or stopped at the end of a reclaim or a YIELD. -/
theorem leaseAtEnd (n : Nat) (t : Slot) : Calm t { t with lease := leaseAtEnd n t.lease } :=
  of_quiet rfl fun _ e he => by
    cases e with
    | lease => exact leaseAtEnd_due n he
    | _ => exact he

/-- A reclaim record whose window has not run out. -/
theorem setReclaim {r : Option Reclaim} (t : Slot)
    (h : ConfigRanges t.cfg → Slot.windowDue { t with reclaim := r } = false) : Calm t { t with reclaim := r } :=
  of_quiet rfl fun hc e he => by
    cases e with
    | window => exact h hc
    | _ => exact he

/-- A record outside phase RECLAIMING has no window to run out. -/
theorem setPhase {r : Reclaim} (t : Slot) (h : r.phase ≠ .reclaiming) : Calm t { t with reclaim := some r } :=
  setReclaim t fun _ => by simp [Slot.windowDue, h]

/-- A window that is started afresh (R125). -/
theorem startWindow {r : Reclaim} (t : Slot) : Calm t { t with reclaim := some { r with window := Timer.start t.cfg.windowTicks } } :=
  setReclaim t fun hc => by
    have := hc.reclaimWindow.1
    simp [Slot.windowDue, SlotConfig.windowTicks, Config.ticksPerUnit]; omega

theorem startReclaim (target : Nat) (cause : ReclaimCause) (t : Slot) :
    Calm t { t with
      lease := none
      reclaim := some { target := target, cause := cause, phase := .reclaiming, window := Timer.start t.cfg.windowTicks,
                        basis := none, liftPending := false } } :=
  (clearLease t).trans (startWindow (r := ⟨target, cause, .reclaiming, none, none, false⟩) _)

theorem retarget (c : Card) (target : Nat) (cause : ReclaimCause) (r : Reclaim) (t : Slot) : Calm t (Slot.retarget c target cause r t) := by
  unfold Slot.retarget
  dsimp only
  split <;> rename_i hp
  · exact startWindow (r := { r with target := target, cause := cause, liftPending := false }) t
  · exact (setPhase t (r := { r with target := target, cause := cause, liftPending := false, basis := some c.held }) (by simp [hp])).trans
      (of_same rfl rfl)
  · exact (setPhase t (r := { r with target := target, cause := cause, liftPending := false }) (by simp [hp])).trans (of_same rfl rfl)

theorem endReclaim (c : Card) (n : Nat) (t : Slot) : Calm t (Slot.endReclaim c n t) :=
  ((leaseAtEnd n t).trans (setReclaim (r := none) _ fun _ => rfl)).trans (of_same rfl rfl)

theorem yieldTo (c : Card) (n : Nat) (t : Slot) : Calm t (Slot.yieldTo c n t) := (leaseAtEnd n t).trans (of_same rfl rfl)

theorem holdOpen (c : Card) (n : Nat) {r : Reclaim} (hr : r.phase = .paced) (t : Slot) : Calm t (Slot.holdOpen c n r t) :=
  (setPhase t (r := { r with target := n, liftPending := true }) (by simp [hr])).trans (of_same rfl rfl)

theorem progress (c : Card) (n : Nat) (r : Reclaim) (t : Slot) : Calm t (Slot.progress c n r t) := by
  unfold Slot.progress
  dsimp only
  split <;> rename_i hp
  · exact of_same rfl rfl
  · exact (setPhase t (r := { r with basis := some n }) (by simp [hp])).trans (of_same rfl rfl)
  · exact of_same rfl rfl

theorem windowExpires (c : Card) (r : Reclaim) (t : Slot) : Calm t (Slot.windowExpires c r t) :=
  (setPhase t (r := { r with phase := .pacePending, basis := some c.held, window := none }) (by simp)).trans (of_same rfl rfl)

theorem applyWidth (c : Card) (r : Reclaim) (w : Nat) (t : Slot) : Calm t (Slot.applyWidth c r w t) :=
  ((setPhase t (r := { r with phase := .paced }) (by simp)).trans (link (LinkCalm.placeNotice .paced w t.link))).trans (of_same rfl rfl)

theorem listen (t : Slot) : Calm t t.listen :=
  of_quiet rfl fun hc e he => by
    cases e with
    | settle => rfl
    | hello => have := hc.helloTimeout.1; simp [dueIn, Slot.listen, Config.ticksPerUnit]; omega
    | reply => rfl
    | gap => rfl
    | _ => exact he

end Calm

namespace Evolves

variable {s u : State} (h : Evolves s u)
include h

/-! Links, reports and lists. -/

theorem report (k : ReportKind) (i : SlotId) (a b c : Nat) (hk : k ≠ .gap) : Evolves s (u.report k i a b c) := h.append _ hk

theorem modLink (i : SlotId) (f : Link → Link) (hf : LinkCalm (u.slot i).link (f (u.slot i).link)) :
    Evolves s (u.modLink i f) := h.modSlot i _ (Calm.link hf)

theorem notice (i : SlotId) (k : NoticeKind) (v : Nat) : Evolves s (u.notice i k v) := h.modLink i _ (.placeNotice _ _ _)
theorem sendReclaim (i : SlotId) (g : Nat) : Evolves s (u.sendReclaim i g) := h.modLink i _ (.placeReclaim _ _ _)
theorem answer (i : SlotId) (k : LinkKind) (tag : BitVec 3) (r : Reply) : Evolves s (u.answer i k tag r) := h.modLink i _ (.answer _ _ _ _)
theorem refuse (i : SlotId) (k : LinkKind) (tag : BitVec 3) (r : RefuseReason) : Evolves s (u.refuse i k tag r) :=
  (h.answer i k tag _).report _ _ _ _ _ (by decide)
theorem toHead (i : SlotId) : Evolves s (u.toHead i) := h.setRecency _
theorem leaveRecency (i : SlotId) : Evolves s (u.leaveRecency i) := h.setRecency _
theorem removeEntry (i : SlotId) : Evolves s (u.removeEntry i) := h.setWait _
theorem driveRun (i : SlotId) : Evolves s (u.driveRun i) := h.modSlot i _ (Calm.of_same rfl rfl)

theorem countOvertaken (i : SlotId) (c : Nat) : Evolves s (u.countOvertaken i c) := by
  unfold State.countOvertaken
  split
  · exact h
  · split
    · exact h.setWait _
    · exact h.setWait _

/-! Grants and the walk. -/

theorem grantStep (i : SlotId) (c : Card) (g : Nat) : Evolves s (u.grantStep i c g) := by
  unfold State.grantStep
  refine (h.modSlot i _ ?_).toHead i
  exact Calm.grantStep c g _

theorem award (i : SlotId) (c : Card) (g : Nat) : Evolves s (u.award i c g) :=
  ((h.grantStep i c g).modLink i _ (.placeAward _ _ _)).report _ _ _ _ _ (by decide)

theorem powerUp (i : SlotId) : Evolves s (u.powerUp i) := by
  unfold State.powerUp
  refine (h.modSlot i _ ?_).report _ _ _ _ _ (by decide)
  exact Calm.powerUp _ _

theorem grantEntry (e : WaitEntry) (g : Nat) : Evolves s (u.grantEntry e g) := by
  unfold State.grantEntry
  split
  · exact h.powerUp _
  · split
    · exact h.award _ _ _
    · exact h

theorem walkOver (passed rest : List WaitEntry) : Evolves s (walkOver passed rest u) := by
  induction rest generalizing passed u with
  | nil => exact h.setWait _
  | cons e rest ih =>
    unfold Machine.walkOver
    split
    · split
      · exact ih (h.grantEntry e _) _
      · dsimp only
        split
        · exact (h.grantEntry e _).setWait _
        · exact ih (h.grantEntry e _) _
    · split
      · exact h.setWait _
      · split
        · exact h.setWait _
        · exact ih h _

theorem walk : Evolves s u.walk := h.walkOver _ _

theorem endEpisode (o : EpisodeOutcome) : Evolves s (u.endEpisode o) := (h.append _ (by simp [chipReport])).setEpisode _

theorem grantBeneficiary (e : WaitEntry) (g : Nat) : Evolves s (u.grantBeneficiary e g) :=
  ((((h.countOvertaken _ _).removeEntry _).grantEntry _ _).endEpisode _).walk

theorem episodeCheck : Evolves s u.episodeCheck := by
  unfold State.episodeCheck
  split
  · exact h
  · split
    · exact (h.endEpisode _).walk
    · exact h
  · split
    · exact h
    · split
      · exact h.grantBeneficiary _ _
      · exact h

theorem followUp : Evolves s u.followUp := by
  unfold State.followUp
  split
  · exact h.episodeCheck
  · exact h.walk

theorem followUpIf (b : Bool) : Evolves s (u.followUpIf b) := by
  unfold State.followUpIf
  split
  · exact h.followUp
  · exact h

theorem abandonFor (i : SlotId) : Evolves s (u.abandonFor i) := by
  unfold State.abandonFor
  split
  · exact h.endEpisode _
  · exact h

theorem dropEntry (e : WaitEntry) (r : DropReason) : Evolves s (u.dropEntry e r) :=
  ((h.removeEntry _).report _ _ _ _ _ (by decide)).abandonFor _

theorem noticeDropped (e : WaitEntry) : Evolves s (u.noticeDropped e) := by
  unfold State.noticeDropped
  split
  · exact h
  · exact h.notice _ _ _

theorem reclassEntry (i : SlotId) (c : Nat) : Evolves s (u.reclassEntry i c).1 := by
  unfold State.reclassEntry
  split
  · exact h
  · split
    · exact h
    · exact h.setWait _

/-! The episode record. -/

theorem setVictims (l : List Victim) : Evolves s (u.setVictims l) := h.setEpisode _
theorem setCuts (l : List CutEntry) : Evolves s (u.setCuts l) := h.setEpisode _
theorem enterVictim (i : SlotId) (g : Nat) : Evolves s (u.enterVictim i g) := h.setVictims _
theorem refreshVictim (i : SlotId) : Evolves s (u.refreshVictim i) := h.setVictims _
theorem retargetVictim (i : SlotId) (g : Nat) : Evolves s (u.retargetVictim i g) := h.setVictims _
theorem leaveVictims (i : SlotId) : Evolves s (u.leaveVictims i) := h.setVictims _
theorem enterCut (i : SlotId) : Evolves s (u.enterCut i) := h.setCuts _
theorem leaveCuts (i : SlotId) : Evolves s (u.leaveCuts i) := h.setCuts _

theorem cutVictim (i : SlotId) : Evolves s (u.cutVictim i) := by
  unfold State.cutVictim
  split
  · exact (h.leaveVictims i).enterCut i
  · exact h

/-! The power path. -/

theorem setSlotState (i : SlotId) (st : SlotState) : Evolves s (u.modSlot i (fun t => { t with state := st })) :=
  h.modSlot i _ (Calm.of_same rfl rfl)

theorem setPresence (i : SlotId) (b : Bool) : Evolves s (u.modSlot i (fun t => { t with pres := Debounce.rest b })) :=
  h.modSlot i (fun t => { t with pres := Debounce.rest b }) (Calm.presence b _)

theorem startAdmission (i : SlotId) : Evolves s (u.startAdmission i) := by
  unfold State.startAdmission
  dsimp only
  split
  · exact (h.countOvertaken _ _).powerUp i
  · refine ((h.setWait _).setSlotState i _).report _ _ _ _ _ (by decide)

theorem startCut (i : SlotId) (r : CutReason) : Evolves s (u.startCut i r) := by
  unfold State.startCut
  have hc := (((h.modSlot i _ (Calm.cut r _)).leaveRecency i).cutVictim i).report .cutStart i (cutReasonCode r) (u.slot i).charge 0 (by decide)
  dsimp only
  split
  · exact (hc.dropEntry _ _).followUp
  · exact hc

theorem cutIfPowered (i : SlotId) (r : CutReason) : Evolves s (u.cutIfPowered i r) := by
  unfold State.cutIfPowered
  split
  · exact h.startCut i r
  · exact h

theorem setEnabled (i : SlotId) (b : Bool) : Evolves s (u.modSlot i (fun t => { t with enabled := b })) :=
  h.modSlot i _ (Calm.of_same rfl rfl)

theorem arriveInEmpty (i : SlotId) : Evolves s (u.arriveInEmpty i) := by
  unfold State.arriveInEmpty
  split
  · exact h.startAdmission i
  · exact h.setSlotState i _

theorem completeCut (i : SlotId) : Evolves s (u.completeCut i) := by
  unfold State.completeCut
  have hf := (((h.leaveCuts i).modSlot i _ (Calm.discharged (u.slot i).destination _)).report .cutDone i
    (destinationCode (u.slot i).destination) 0 0 (by decide)).followUp
  dsimp only
  split
  · exact hf.startAdmission i
  · split
    · exact hf.arriveInEmpty i
    · exact hf
  · exact hf
  · exact hf

theorem endAdmitting (i : SlotId) (r : DropReason) (st : SlotState) : Evolves s (u.endAdmitting i r st) := by
  unfold State.endAdmitting
  dsimp only
  split
  · exact ((h.setSlotState i st).dropEntry _ _).followUp
  · exact h.setSlotState i st

theorem presenceArrives (i : SlotId) : Evolves s (u.presenceArrives i) := by
  unfold State.presenceArrives
  have hp := h.setPresence i true
  dsimp only
  split
  · exact hp.arriveInEmpty i
  all_goals exact hp

theorem presenceLost (i : SlotId) : Evolves s (u.presenceLost i) := by
  unfold State.presenceLost
  have hp := h.setPresence i false
  dsimp only
  split
  · exact hp
  · exact hp.setSlotState i _
  · exact hp.setSlotState i _
  · exact hp.endAdmitting i _ _
  · exact hp.startCut i _
  · exact hp.startCut i _
  · exact hp.startCut i _
  · exact hp.modSlot i _ (Calm.of_same rfl rfl)

theorem enableSlot (i : SlotId) : Evolves s (u.enableSlot i) := by
  unfold State.enableSlot
  dsimp only
  split
  · exact (h.setEnabled i true).startAdmission i
  · exact h.setEnabled i true

theorem disableSlot (i : SlotId) : Evolves s (u.disableSlot i) := by
  unfold State.disableSlot
  have hp := h.setEnabled i false
  dsimp only
  split
  · exact hp.endAdmitting i _ _
  · exact hp.startCut i _
  · exact hp.startCut i _
  · exact hp.startCut i _
  all_goals exact hp

/-! Reclaims and frames. -/

theorem dropForReclaim (i : SlotId) : Evolves s (u.dropForReclaim i) := by
  unfold State.dropForReclaim
  split
  · exact (h.dropEntry _ _).noticeDropped _
  · exact h

theorem startReclaim (i : SlotId) (g : Nat) (c : ReclaimCause) : Evolves s (u.startReclaim i g c) := by
  unfold State.startReclaim
  refine ((((h.modSlot i _ ?_).report _ _ _ _ _ (by decide)).dropForReclaim i).sendReclaim i g).followUpIf _
  exact Calm.startReclaim g c _

theorem retargetReclaim (i : SlotId) (c : Card) (r : Reclaim) (g : Nat) (cause : ReclaimCause) : Evolves s (u.retargetReclaim i c r g cause) :=
  (((h.modSlot i _ (Calm.retarget c g cause r _)).report _ _ _ _ _ (by decide)).sendReclaim i g).retargetVictim i g

theorem reclaimTo (i : SlotId) (c : Card) (g : Nat) (cause : ReclaimCause) : Evolves s (u.reclaimTo i c g cause) := by
  unfold State.reclaimTo
  split
  · exact h.startReclaim i g cause
  · split
    · exact h.retargetReclaim i c _ g cause
    · exact h

theorem concludeReclaim (i : SlotId) (c : Card) (r : Reclaim) (k : LinkKind) (tag : BitVec 3) (t : Nat) :
    Evolves s (u.concludeReclaim i c r k tag t) := by
  unfold State.concludeReclaim
  dsimp only
  split
  · rename_i hp
    simp only [Bool.and_eq_true, decide_eq_true_eq] at hp
    exact (((h.modSlot i _ (Calm.holdOpen c t hp.1.1 _)).answer i k tag _).report _ _ _ _ _ (by decide)).leaveVictims i
  · exact ((((h.modSlot i _ (Calm.endReclaim c t _)).answer i k tag _).report _ _ _ _ _ (by decide)).leaveVictims i).followUpIf _

theorem partialReclaim (i : SlotId) (c : Card) (r : Reclaim) (tag : BitVec 3) (t : Nat) : Evolves s (u.partialReclaim i c r tag t) :=
  ((((h.modSlot i _ (Calm.progress c t r _)).answer i _ tag _).report _ _ _ _ _ (by decide)).refreshVictim i).followUpIf _

theorem takeWidth (i : SlotId) (c : Card) (r : Reclaim) (w : Nat) : Evolves s (u.takeWidth i c r w) :=
  ((((h.modSlot i _ (Calm.applyWidth c r w _)).driveRun i).report _ _ _ _ _ (by decide)).refreshVictim i).followUpIf _

theorem claimLift (i : SlotId) (c : Card) : Evolves s (u.claimLift i c) := by
  unfold State.claimLift
  split
  · exact (h.modSlot i _ (Calm.endReclaim c _ _)).report _ _ _ _ _ (by decide)
  · exact h

theorem clearFrame (i : SlotId) : Evolves s (u.modSlot i (fun t => { t with frameDue := false })) :=
  h.modSlot i (fun t => { t with frameDue := false }) (Calm.clearFrame _)

theorem startFrame (i : SlotId) : Evolves s (u.startFrame i) := by
  unfold State.startFrame
  have hp := h.clearFrame i
  dsimp only
  split
  · split
    · exact hp.takeWidth i _ _ _
    · split
      · exact hp.claimLift i _
      · exact hp
  all_goals exact hp

theorem expireWindow (i : SlotId) : Evolves s (u.expireWindow i) := by
  unfold State.expireWindow
  dsimp only
  split
  · exact h.modSlot i _ (Calm.windowExpires _ _ _)
  all_goals exact h

theorem clearLease (i : SlotId) : Evolves s (u.modSlot i (fun t => { t with lease := none })) :=
  h.modSlot i (fun t => { t with lease := none }) (Calm.clearLease _)

theorem expireLease (i : SlotId) : Evolves s (u.expireLease i) := by
  unfold State.expireLease
  have hp := h.clearLease i
  dsimp only
  split
  · exact ((hp.report _ _ _ _ _ (by decide)).notice i _ _).reclaimTo i _ _ _
  · exact hp

/-! Shed episodes. -/

theorem makeVictim (i : SlotId) (g : Nat) : Evolves s (u.makeVictim i g) := (h.enterVictim i g).startReclaim i g _

theorem takeVictims (amount : Nat) (l : List SlotId) (sum : Nat) : Evolves s (takeVictims amount l sum u).2 := by
  induction l generalizing u sum with
  | nil => exact h
  | cons i l ih =>
    unfold Machine.takeVictims
    split
    · exact ih h _
    · dsimp only
      split
      · exact ih (h.makeVictim i _) _
      · exact h.makeVictim i _

theorem chooseVictims (b : Option Nat) (amount : Nat) : Evolves s (u.chooseVictims b amount).2 := h.takeVictims _ _ _

theorem tierCut (i : SlotId) : Evolves s (u.tierCut i) := by
  unfold State.tierCut
  split
  · exact h.startCut i _
  · exact (h.enterCut i).startCut i _

theorem takeCuts (amount : Nat) (l : List SlotId) (sum : Nat) : Evolves s (takeCuts amount l sum u) := by
  induction l generalizing u sum with
  | nil => exact h
  | cons i l ih =>
    unfold Machine.takeCuts
    split
    · exact h
    · exact ih (h.tierCut i) _

theorem cover (amount : Nat) : Evolves s (u.cover amount) := by
  unfold State.cover
  dsimp only
  split
  · exact (h.chooseVictims _ _).takeCuts _ _ _
  · exact h.chooseVictims _ _

theorem reportOpen : Evolves s u.reportOpen := h.append _ (by simp [chipReport])

theorem openOverdraft : Evolves s u.openOverdraft := ((h.setEpisode _).reportOpen).cover _

theorem enlarge : Evolves s u.enlarge := by
  unfold State.enlarge
  dsimp only
  split
  · exact (h.setEpisode _).cover _
  · exact h.setEpisode _

theorem takeOver : Evolves s u.takeOver := by
  unfold State.takeOver
  have ho := ((h.setWait (clearMarks u.waitList)).setEpisode
    { u.episode with kind := .overdraft, beneficiary := none, target := u.shortfall.toNat }).reportOpen
  dsimp only
  split
  · exact ho.cover _
  · exact ho

theorem overdrawn : Evolves s u.overdrawn := by
  unfold State.overdrawn
  split
  · exact h
  · split
    · exact h.openOverdraft
    · exact h.takeOver
    · exact h.enlarge

theorem considerPreempt (i : SlotId) (c : Card) (f : Nat) : Evolves s (u.considerPreempt i c f) := by
  unfold State.considerPreempt
  dsimp only
  split
  · exact (((h.setWait _).setEpisode _).reportOpen).chooseVictims _ _
  · exact h

/-! Requests. -/

theorem frameDone (i : SlotId) : Evolves s (u.frameDone i) := h.modLink i _ (.rehunt _)

theorem takeRequest (i : SlotId) (k : LinkKind) (tag : BitVec 3) (act : State → State) (ha : ∀ v, Evolves s v → Evolves s (act v)) :
    Evolves s (u.takeRequest i k tag act) := by
  unfold State.takeRequest
  have hp := h.frameDone i
  dsimp only
  split
  · exact h
  · split
    · exact hp
    · split
      · split
        · exact hp.modLink i _ (.placeReply _ _ _)
        · exact ha _ hp
      · exact ha _ hp

theorem whenActive (i : SlotId) (k : LinkKind) (tag : BitVec 3) (act : Card → State) (ha : ∀ c, Evolves s (act c)) :
    Evolves s (u.whenActive i k tag act) := by
  unfold State.whenActive
  split
  · split
    · exact ha _
    · exact h.refuse i k tag _
  · exact h.refuse i k tag _

theorem acceptHello (i : SlotId) (tag : BitVec 3) (id : BitVec 32) (f : Nat) (d : List Nat) : Evolves s (u.acceptHello i tag id f d) := by
  unfold State.acceptHello
  refine (((h.modSlot i _ ?_).answer i _ tag _).report _ _ _ _ _ (by decide)).followUpIf _
  exact (Calm.clearHello _).trans (.of_same rfl rfl)

theorem newHello (i : SlotId) (tag : BitVec 3) (id : BitVec 32) (f : Nat) (d : List Nat) : Evolves s (u.newHello i tag id f d) := by
  unfold State.newHello State.helloInActive
  dsimp only
  split
  · split
    · split
      · exact h.answer i _ tag _
      · exact h.refuse i _ tag _
    · exact h.refuse i _ tag _
  · split
    · exact h.refuse i _ tag _
    · split
      · exact h.refuse i _ tag _
      · split
        · exact h.refuse i _ tag _
        · exact h.acceptHello i tag id f d

theorem takeHello (i : SlotId) (tag : BitVec 3) (id : BitVec 32) (f : Byte) (d : List Half) : Evolves s (u.takeHello i tag id f d) :=
  h.takeRequest i _ tag _ fun _ hv => hv.newHello i tag id _ _

theorem grantAsk (i : SlotId) (c : Card) (tag : BitVec 3) (g : Nat) : Evolves s (u.grantAsk i c tag g) :=
  (((((h.countOvertaken _ _).removeEntry i).grantStep i c g).answer i _ tag _).report _ _ _ _ _ (by decide)).followUpIf _

theorem deferAsk (i : SlotId) (c : Card) (tag : BitVec 3) (a f : Nat) : Evolves s (u.deferAsk i c tag a f) := by
  unfold State.deferAsk
  dsimp only
  split
  · exact ((h.setWait _).answer i _ tag _).report _ _ _ _ _ (by decide)
  · exact (((h.setWait _).answer i _ tag _).report _ _ _ _ _ (by decide)).considerPreempt i c f

theorem newAsk (i : SlotId) (c : Card) (tag : BitVec 3) (a f : Nat) (d : Bool) : Evolves s (u.newAsk i c tag a f d) := by
  unfold State.newAsk State.claimAsk
  dsimp only
  split
  · exact h.refuse i _ tag _
  · split
    · exact h.refuse i _ tag _
    · split
      · exact h.refuse i _ tag _
      · split
        · exact h.grantAsk i c tag _
        · split
          · exact h.deferAsk i c tag a f
          · exact h.refuse i _ tag _

theorem takeAsk (i : SlotId) (tag : BitVec 3) (a f fl : Byte) : Evolves s (u.takeAsk i tag a f fl) :=
  h.takeRequest i _ tag _ fun _ hv => hv.whenActive i _ tag _ fun c => hv.newAsk i c tag _ _ _

theorem newYield (i : SlotId) (c : Card) (tag : BitVec 3) (t : Nat) : Evolves s (u.newYield i c tag t) := by
  unfold State.newYield
  dsimp only
  split
  · exact h.refuse i _ tag _
  · split
    · exact (((h.modSlot i _ (Calm.yieldTo c t _)).answer i _ tag _).report _ _ _ _ _ (by decide)).followUpIf _
    · split
      · exact h.concludeReclaim i c _ _ tag t
      · exact h.refuse i _ tag _

theorem takeYield (i : SlotId) (tag : BitVec 3) (t : Byte) : Evolves s (u.takeYield i tag t) :=
  h.takeRequest i _ tag _ fun _ hv => hv.whenActive i _ tag _ fun c => hv.newYield i c tag _

theorem newWithdraw (i : SlotId) (tag : BitVec 3) : Evolves s (u.newWithdraw i tag) := by
  unfold State.newWithdraw
  split
  · exact h.refuse i _ tag _
  · exact ((h.dropEntry _ _).answer i _ tag _).followUp

theorem takeWithdraw (i : SlotId) (tag : BitVec 3) : Evolves s (u.takeWithdraw i tag) :=
  h.takeRequest i _ tag _ fun _ hv => hv.whenActive i _ tag _ fun _ => hv.newWithdraw i tag

theorem renewLease (i : SlotId) (c : Card) (tag : BitVec 3) : Evolves s (u.renewLease i c tag) := by
  unfold State.renewLease
  dsimp only
  split
  · rename_i hl
    refine (h.modSlot i _ ?_).answer i _ tag _
    refine Calm.renewLease ?_ _
    simp [Config.ticksPerSecond]; omega
  · exact h.answer i _ tag _

theorem newRenew (i : SlotId) (c : Card) (tag : BitVec 3) : Evolves s (u.newRenew i c tag) := by
  unfold State.newRenew
  split
  · split
    · exact h.refuse i _ tag _
    · exact h.renewLease i c tag
  · exact h.renewLease i c tag

theorem takeRenew (i : SlotId) (tag : BitVec 3) : Evolves s (u.takeRenew i tag) :=
  h.takeRequest i _ tag _ fun _ hv => hv.whenActive i _ tag _ fun c => hv.newRenew i c tag

theorem newConfirm (i : SlotId) (c : Card) (tag : BitVec 3) (t : Nat) : Evolves s (u.newConfirm i c tag t) := by
  unfold State.newConfirm
  split
  · exact h.refuse i _ tag _
  · split
    · exact h.refuse i _ tag _
    · split
      · exact h.concludeReclaim i c _ _ tag t
      · exact h.partialReclaim i c _ tag t

theorem takeConfirm (i : SlotId) (tag : BitVec 3) (t : Byte) : Evolves s (u.takeConfirm i tag t) :=
  h.takeRequest i _ tag _ fun _ hv => hv.whenActive i _ tag _ fun c => hv.newConfirm i c tag _

theorem takeAck (i : SlotId) (q : Bool) : Evolves s (u.takeAck i q) := by
  unfold State.takeAck
  split
  · exact h
  · exact (h.frameDone i).modLink i _ (.acknowledge q _)

theorem takeMalformed (i : SlotId) (k : LinkKind) (tag : BitVec 3) : Evolves s (u.takeMalformed i k tag) := by
  unfold State.takeMalformed
  dsimp only
  split
  · exact h
  · split
    · exact h.frameDone i
    · exact ((h.frameDone i).modLink i _ (.placeReply _ _ _)).report _ _ _ _ _ (by decide)

theorem takeFrame (i : SlotId) (f : RxFrame) : Evolves s (u.takeFrame i f) := by
  unfold State.takeFrame
  split
  · exact h.takeHello _ _ _ _ _
  · exact h.takeAsk _ _ _ _ _
  · exact h.takeYield _ _ _
  · exact h.takeWithdraw _ _
  · exact h.takeRenew _ _
  · exact h.takeConfirm _ _ _
  · exact h.takeAck _ _
  · exact h.takeMalformed _ _ _
  · exact h.frameDone i

/-- The reply window field in its range keeps the reply window from running out at once (R59). -/
theorem sent (i : SlotId) : Evolves s (u.modLink i (Link.sent (u.slot i).cfg.replyWindow)) :=
  h.modSlot i _ fun hc => Calm.link (LinkCalm.sent (by have := ((configFits_iff _).mp hc).replyWindow.1; omega) _) hc

theorem gapEvent (i : SlotId) : Evolves s (u.gapEvent i) := by
  unfold State.gapEvent
  split
  · exact h.frameDone i
  · exact h

theorem receive (i : SlotId) (b : Byte) : Evolves s (u.receive i b) := by
  unfold State.receive
  have hp := (h.gapEvent i).modLink i (Link.afterByte (receiveByte ((u.gapEvent i).slot i).link.asm b).1) (.afterByte _ _)
  dsimp only
  split
  · exact hp
  · exact hp.takeFrame i _

theorem receiveAll (i : SlotId) (l : List Byte) : Evolves s (receiveAll i l u) := by
  induction l generalizing u with
  | nil => exact h
  | cons b l ih => exact ih (h.receive i b)

/-! Events. -/

theorem arrivalEvent (i : SlotId) : Evolves s (u.arrivalEvent i) := by
  unfold State.arrivalEvent
  split
  · exact h.presenceArrives i
  all_goals exact h

theorem lossEvent (i : SlotId) : Evolves s (u.lossEvent i) := by
  unfold State.lossEvent
  split
  · exact h.presenceLost i
  all_goals exact h

theorem settleEvent (i : SlotId) : Evolves s (u.settleEvent i) := by
  unfold State.settleEvent
  split
  · exact h.modSlot i _ (Calm.listen _)
  · exact h

theorem helloEvent (i : SlotId) : Evolves s (u.helloEvent i) := by
  unfold State.helloEvent
  split
  · exact h.startCut i _
  · exact h

theorem dischargeEvent (i : SlotId) : Evolves s (u.dischargeEvent i) := by
  unfold State.dischargeEvent
  split
  · exact h.completeCut i
  · exact h

theorem leaseEvent (i : SlotId) : Evolves s (u.leaseEvent i) := by
  unfold State.leaseEvent
  split
  · exact h.expireLease i
  · exact h

theorem windowEvent (i : SlotId) : Evolves s (u.windowEvent i) := by
  unfold State.windowEvent
  split
  · exact h.expireWindow i
  · exact h

theorem frameEvent (i : SlotId) : Evolves s (u.frameEvent i) := by
  unfold State.frameEvent
  split
  · exact h.startFrame i
  · exact h

theorem replyEvent (i : SlotId) : Evolves s (u.replyEvent i) := by
  unfold State.replyEvent
  split
  · split
    · split
      · exact h.modLink i _ (.retry _ _)
      · exact h.cutIfPowered i _
    · exact h
  · exact h

theorem settleSlot (i : SlotId) : Evolves s (u.settleSlot i) :=
  (((((((((h.arrivalEvent i).lossEvent i).settleEvent i).helloEvent i).dischargeEvent i).leaseEvent i).windowEvent i).frameEvent i).replyEvent
    i).gapEvent i

end Evolves

end Sys2Proof.Proofs
end

/-! What a command keeps: the forms of the report queue and of the configuration, GAP_SEEN, and the calm of the slots. -/
section
namespace Sys2Proof.Proofs

open Machine Safety

/-- What every command but PIN_RESET, TICK, a pop and a write to EVENTS keeps. -/
structure Kept (s t : State) : Prop where
  reportForm : ReportForm s → ReportForm t
  seen : s.gapSeen = true → t.gapSeen = true
  stands : gapStands s → gapStands t
  newlySeen : s.gapSeen = false → t.gapSeen = true → gapStands t
  longer : s.reports.length ≤ t.reports.length
  calm : ∀ j, Calm (s.slot j) (t.slot j)

namespace Kept

variable {s t u : State}

/-- Fields that the forms do not read may change. -/
theorem of_view (hs : t.slots = s.slots) (hr : t.reports = s.reports) (hg : t.gapSeen = s.gapSeen) : Kept s t where
  reportForm h := by unfold ReportForm; rw [hr]; exact h
  seen h := hg.trans h
  stands h := by unfold gapStands; rw [hr]; exact h
  newlySeen h h' := absurd (hg ▸ h') (by simp [h])
  longer := by rw [hr]
  calm j := by unfold State.slot; rw [hs]; exact Calm.refl _

theorem refl (s : State) : Kept s s := of_view rfl rfl rfl

theorem trans (h : Kept s t) (h' : Kept t u) : Kept s u where
  reportForm hs := h'.reportForm (h.reportForm hs)
  seen hs := h'.seen (h.seen hs)
  stands hs := h'.stands (h.stands hs)
  newlySeen hs hu := by
    cases ht : t.gapSeen
    · exact h'.newlySeen ht hu
    · exact h'.stands (h.newlySeen hs ht)
  longer := h.longer.trans h'.longer
  calm j := (h.calm j).trans (h'.calm j)

theorem configForm (h : Kept s t) (hs : ConfigForm s) : ConfigForm t := fun j => (h.calm j (hs j)).1

end Kept

theorem Evolves.kept {s t : State} (h : Evolves s t) : Kept s t where
  reportForm := h.reportForm
  seen := h.gapSeen.1
  stands := h.gapSeen.2.1
  newlySeen := h.gapSeen.2.2.1
  longer := h.gapSeen.2.2.2
  calm := h.calm

/-! The Command Unit. -/

/-- A command is taken with its effect, or nothing happens (R164). -/
theorem takeCommand_cases (s : State) (c : Instr) (run : State → State) :
    (s.canTake c = false ∧ s.takeCommand c run = s) ∨ (s.canTake c = true ∧ s.takeCommand c run = run s.popCommand) := by
  unfold State.takeCommand
  cases h : s.canTake c
  · exact .inl ⟨rfl, rfl⟩
  · exact .inr ⟨rfl, rfl⟩

theorem Kept.popCommand (s : State) : Kept s s.popCommand := .of_view rfl rfl rfl

theorem Kept.takeCommand {s : State} {c : Instr} {run : State → State} (h : ∀ u, Kept u (run u)) : Kept s (s.takeCommand c run) := by
  rcases takeCommand_cases s c run with ⟨-, e⟩ | ⟨-, e⟩
  · rw [e]; exact .refl s
  · rw [e]; exact (Kept.popCommand s).trans (h _)

namespace Evolves

variable {s u : State} (h : Evolves s u)
include h

theorem result (code : Nat) (named : Option SlotId) (res : ResultCode) (p0 : Half) : Evolves s (u.result code named res p0) :=
  h.append _ (by simp)

/-- A slot command evolves the state when its effect, run only with OK, does. -/
theorem slotCommand (code : Nat) (p0 : Half) (check : SlotId → ResultCode) (act : SlotId → State → State)
    (ha : ∀ i v, check i = .ok → Evolves s v → Evolves s (act i v)) : Evolves s (u.slotCommand code p0 check act) := by
  unfold State.slotCommand
  split
  · exact h.result _ _ _ _
  · dsimp only
    split
    · exact ha _ _ ‹_› (h.result _ _ _ _)
    · exact h.result _ _ _ _

theorem configCommand (p0 : Half) (inside : Bool) (act : SlotId → State → State)
    (ha : ∀ i v, inside = true → Evolves s v → Evolves s (act i v)) : Evolves s (u.configCommand p0 inside act) :=
  h.slotCommand _ _ _ _ fun i v hc => ha i v (by cases inside <;> simp_all)

/-- A field of the configuration record takes a value in its range. -/
theorem modConfig (i : SlotId) (f : SlotConfig → SlotConfig) (hf : ∀ c, ConfigRanges c → ConfigRanges (f c)) : Evolves s (u.modConfig i f) := by
  refine h.modSlot i _ fun hc => ⟨(configFits_iff _).mpr (hf _ ((configFits_iff _).mp hc)), fun e he => ?_⟩
  cases e <;> exact he

theorem writeClass (i : SlotId) (cls : Nat) (hv : cls ≤ 3) : Evolves s (u.writeClass i cls) :=
  ((h.modConfig i (fun c => { c with cls := cls }) fun _ hc => { hc with cls := hv }).reclassEntry i cls).followUpIf _

theorem dropAboveCap (i : SlotId) (top : Nat) : Evolves s (u.dropAboveCap i top) := by
  unfold State.dropAboveCap
  split
  · exact h
  · split
    · exact h
    · split
      · exact ((h.dropEntry _ _).noticeDropped _).followUp
      · exact h

theorem setCard (i : SlotId) (c : Option Card) : Evolves s (u.modSlot i (fun t => { t with card := c })) :=
  h.modSlot i _ (Calm.of_same rfl rfl)

theorem writeCap (i : SlotId) (cap : Nat) (hv : 1 ≤ cap ∧ cap ≤ 1023) : Evolves s (u.writeCap i cap) := by
  unfold State.writeCap
  have hc := h.modConfig i (fun c => { c with cap := cap }) fun _ hc => { hc with cap := hv }
  dsimp only
  split
  · split
    · exact hc
    · split
      · exact (hc.setCard i _).reclaimTo i _ _ _
      · exact (hc.setCard i _).dropAboveCap i _
  · exact hc

theorem writeOverride (i : SlotId) (o : Option Nat) (hv : o.getD 0 ≤ 5) : Evolves s (u.writeOverride i o) := by
  unfold State.writeOverride
  have hc := h.modConfig i (fun c => { c with floorOverride := o }) fun _ hc => { hc with floorOverride := hv }
  dsimp only
  split
  · exact hc.modSlot i _ (Calm.of_same rfl rfl)
  · exact hc

theorem hostReclaim (i : SlotId) (step : Nat) : Evolves s (u.hostReclaim i step) := by
  unfold State.hostReclaim
  split
  · exact h.reclaimTo i _ _ _
  · exact h

theorem dropWaiting (i : SlotId) : Evolves s (u.dropWaiting i) := by
  unfold State.dropWaiting
  split
  · exact h
  · split
    · exact ((h.dropEntry _ _).noticeDropped _).followUp
    · exact (h.setEnabled i false).endAdmitting i _ _

theorem restoreSlot (i : SlotId) : Evolves s (u.restoreSlot i) := by
  unfold State.restoreSlot
  split
  · exact h.startAdmission i
  · exact h.setSlotState i _

theorem dropForRestart (l : List WaitEntry) : Evolves s (dropForRestart l u) := by
  induction l generalizing u with
  | nil => exact h
  | cons e l ih =>
    unfold Machine.dropForRestart
    have hd := (h.removeEntry e.slot).report .waitDropped e.slot (dropCode .restart) 0 0 (by decide)
    dsimp only
    split
    · exact ih (hd.endEpisode _)
    · exact ih hd

theorem foldl (l : List SlotId) (f : State → SlotId → State) (hf : ∀ v i, Evolves s v → Evolves s (f v i)) : Evolves s (l.foldl f u) := by
  induction l generalizing u with
  | nil => exact h
  | cons i l ih => exact ih (hf _ i h)

theorem restart : Evolves s u.restart :=
  (((h.dropForRestart _).followUp).foldl _ _ fun _ i hv => hv.cutIfPowered i _).foldl _ _ fun _ i hv => hv.startAdmission i

end Evolves

theorem inRange_iff (lo hi : Nat) (v : Half) : inRange lo hi v = true ↔ lo ≤ v.toNat ∧ v.toNat ≤ hi := by simp [inRange]

theorem overrideOf_le {v : Half} (h : overrideOk v = true) : (overrideOf v).getD 0 ≤ 5 := by
  unfold overrideOk at h
  unfold overrideOf
  split
  · simp
  · simpa [‹v.toNat ≠ 255›] using h

theorem checkCap_range {s : State} {v : Half} {i : SlotId} (h : s.checkCap v i = .ok) : 1 ≤ v.toNat ∧ v.toNat ≤ 1023 := by
  unfold State.checkCap at h
  split at h
  · cases h
  · simp_all [inRange_iff]

/-- A command row whose effect evolves the state. -/
def rowEvolves : Instr → Bool
  | .setProfile _ _ => false
  | .setReserve _ _ => false
  | .setPolicy _ _ _ => false
  | c => (commandEntry c).isSome

/-- The rows that do not: SET_PROFILE, SET_RESERVE, SET_POLICY. -/
theorem figure_row {c : Instr} (hc : (commandEntry c).isSome = true) (hr : rowEvolves c = false) :
    (∃ index capacity, c = .setProfile index capacity) ∨ (∃ amount force, c = .setReserve amount force)
    ∨ ∃ mode limit preempt, c = .setPolicy mode limit preempt := by
  cases c with
  | setProfile index capacity => exact .inl ⟨_, _, rfl⟩
  | setReserve amount force => exact .inr (.inl ⟨_, _, rfl⟩)
  | setPolicy mode limit preempt => exact .inr (.inr ⟨_, _, _, rfl⟩)
  | _ => first | (cases hr; done) | cases hc

/-- Every command row is taken as the head row it spells. -/
theorem exec_takeHead {c : Instr} (hc : (commandEntry c).isSome = true) (s : State) : exec c s = .next (s.takeHead c) := by
  cases c <;> first | rfl | cases hc

/-- A row but the three that write figures of the account or the policy, if it can be taken, pops its entry and evolves the state. -/
theorem takeHead_row {c : Instr} (hc : rowEvolves c = true) (s : State) :
    (s.canTake c = false ∧ s.takeHead c = s) ∨ Evolves s.popCommand (s.takeHead c) := by
  unfold State.takeHead
  refine (takeCommand_cases s c _).imp id fun ⟨_, e⟩ => ?_
  rw [e]
  have h : Evolves s.popCommand s.popCommand := .refl
  cases c with
  | slotConfigEnabled p0 v =>
    refine h.configCommand _ _ _ fun i u _ hu => ?_
    split
    · exact hu.enableSlot i
    · exact hu.disableSlot i
  | slotConfigClass p0 v => exact h.configCommand _ _ _ fun i u hv hu => hu.writeClass i _ ((inRange_iff _ _ _).mp hv).2
  | slotConfigCap p0 v => exact h.slotCommand _ _ _ _ fun i u hv hu => hu.writeCap i _ (checkCap_range hv)
  | slotConfigAdmissionCharge p0 v =>
    exact h.configCommand _ _ _ fun i u hv hu => hu.modConfig i (fun c => { c with admission := v.toNat }) fun _ hc => { hc with admission := (inRange_iff _ _ _).mp hv }
  | slotConfigLease p0 v =>
    exact h.configCommand _ _ _ fun i u hv hu => hu.modConfig i (fun c => { c with lease := v.toNat }) fun _ hc => { hc with lease := ((inRange_iff _ _ _).mp hv).2 }
  | slotConfigSettle p0 v =>
    exact h.configCommand _ _ _ fun i u hv hu => hu.modConfig i (fun c => { c with settle := v.toNat }) fun _ hc => { hc with settle := (inRange_iff _ _ _).mp hv }
  | slotConfigDischarge p0 v =>
    exact h.configCommand _ _ _ fun i u hv hu => hu.modConfig i (fun c => { c with discharge := v.toNat }) fun _ hc => { hc with discharge := (inRange_iff _ _ _).mp hv }
  | slotConfigHelloTimeout p0 v =>
    exact h.configCommand _ _ _ fun i u hv hu => hu.modConfig i (fun c => { c with helloTimeout := v.toNat }) fun _ hc => { hc with helloTimeout := (inRange_iff _ _ _).mp hv }
  | slotConfigReplyWindow p0 v =>
    exact h.configCommand _ _ _ fun i u hv hu => hu.modConfig i (fun c => { c with replyWindow := v.toNat }) fun _ hc => { hc with replyWindow := (inRange_iff _ _ _).mp hv }
  | slotConfigReclaimWindow p0 v =>
    exact h.configCommand _ _ _ fun i u hv hu => hu.modConfig i (fun c => { c with reclaimWindow := v.toNat }) fun _ hc => { hc with reclaimWindow := (inRange_iff _ _ _).mp hv }
  | slotConfigFloorOverride p0 v => exact h.configCommand _ _ _ fun i u hv hu => hu.writeOverride i _ (overrideOf_le hv)
  | slotConfigUnknownField p0 f v => exact h.configCommand _ _ _ fun _ _ _ hu => hu
  | enable p0 => exact h.slotCommand _ _ _ _ fun i _ _ hu => hu.enableSlot i
  | disable p0 => exact h.slotCommand _ _ _ _ fun i _ _ hu => hu.disableSlot i
  | restore p0 => exact h.slotCommand _ _ _ _ fun i _ _ hu => hu.restoreSlot i
  | reclaim p0 g => exact h.slotCommand _ _ _ _ fun i _ _ hu => hu.hostReclaim i _
  | dropWait p0 => exact h.slotCommand _ _ _ _ fun i _ _ hu => hu.dropWaiting i
  | restart => exact (h.result _ _ _ _).restart
  | unknownCommandCode code p0 => exact h.result _ _ _ _
  | _ => cases hc

theorem takeHead_evolves {c : Instr} (hc : rowEvolves c = true) (s : State) :
    s.takeHead c = s ∨ Evolves s.popCommand (s.takeHead c) := (takeHead_row hc s).imp And.right id

/-! The rows that write C, H, a profile record or the policy. -/

/-- The state with C written and CAPACITY_CHANGED set (R13). -/
def capacityWritten (s : State) (n : Nat) : State := { s with capacity := n, capacityChanged := true }

theorem changeCapacity_evolves (s : State) (n : Nat) : Evolves (capacityWritten s n) (s.changeCapacity n) := by
  unfold State.changeCapacity
  have h : Evolves (capacityWritten s n)
      (State.append { s with capacity := n, capacityChanged := true } (chipReport .capacity s.capacity n s.src.value.val)) :=
    Evolves.refl.append _ (by simp [chipReport])
  dsimp only
  split
  · exact h.overdrawn
  · split
    · exact h.followUp
    · exact h

/-- The state with a profile record written (R12). -/
def profileWritten (s : State) (p : Fin 4) (n : Nat) : State := { s with profiles := s.profiles.set p n }

/-- SET_PROFILE writes its record, and C where the record is the active one with another capacity (R12, R13). -/
theorem writeProfile_evolves (s : State) (p : Fin 4) (n : Nat) :
    if p = s.src.value ∧ n ≠ s.capacity then Evolves (capacityWritten (profileWritten s p n) n) (s.writeProfile p n)
    else s.writeProfile p n = profileWritten s p n := by
  unfold State.writeProfile
  dsimp only
  split
  · exact changeCapacity_evolves (profileWritten s p n) n
  · rfl

/-- The state with H written (R15). -/
def reserveWritten (s : State) (n : Nat) : State := { s with reserve := n }

theorem writeReserve_evolves (s : State) (n : Nat) : Evolves (reserveWritten s n) (s.writeReserve n) := by
  unfold State.writeReserve
  have h : Evolves (reserveWritten s n) (reserveWritten s n) := .refl
  dsimp only
  split
  · exact h.followUp
  · split
    · exact h.overdrawn
    · exact h

/-- The policy that SET_POLICY writes (R112, R167). -/
def policyOf (mode limit preempt : Half) : Policy :=
  { mode := if mode.toNat = 0 then .fit else .strict, limit := limit.toNat, preempt := decide (preempt.toNat = 1) }

theorem writePolicy_evolves (s : State) (mode limit preempt : Half) :
    Evolves { s with policy := policyOf mode limit preempt } (s.writePolicy mode limit preempt) :=
  (Evolves.refl.setWait _).followUp

theorem Kept.writeProfile (s : State) (p : Fin 4) (n : Nat) : Kept s (s.writeProfile p n) := by
  have h := writeProfile_evolves s p n
  split at h
  · exact Kept.trans (t := capacityWritten (profileWritten s p n) n) (.of_view rfl rfl rfl) h.kept
  · rw [h]; exact .of_view rfl rfl rfl

theorem Kept.writeReserve (s : State) (n : Nat) : Kept s (s.writeReserve n) :=
  Kept.trans (t := reserveWritten s n) (.of_view rfl rfl rfl) (writeReserve_evolves s n).kept

theorem Kept.writePolicy (s : State) (m l p : Half) : Kept s (s.writePolicy m l p) :=
  Kept.trans (t := { s with policy := policyOf m l p }) (.of_view rfl rfl rfl) (writePolicy_evolves s m l p).kept

theorem Kept.result (s : State) (code : Nat) (named : Option SlotId) (res : ResultCode) (p0 : Half) : Kept s (s.result code named res p0) :=
  (Evolves.refl.result code named res p0).kept

theorem Kept.runSetProfile (s : State) (index capacity : Half) : Kept s (s.runSetProfile index capacity) := by
  unfold State.runSetProfile
  split
  · split
    · exact (Kept.result _ _ _ _ _).trans (Kept.writeProfile _ _ _)
    · exact Kept.result _ _ _ _ _
  · exact Kept.result _ _ _ _ _

theorem Kept.runSetReserve (s : State) (amount force : Half) : Kept s (s.runSetReserve amount force) := by
  unfold State.runSetReserve
  dsimp only
  split
  · exact (Kept.result _ _ _ _ _).trans (Kept.writeReserve _ _)
  · exact Kept.result _ _ _ _ _

theorem Kept.runSetPolicy (s : State) (mode limit preempt : Half) : Kept s (s.runSetPolicy mode limit preempt) := by
  unfold State.runSetPolicy
  split
  · exact (Kept.result _ _ _ _ _).trans (Kept.writePolicy _ _ _ _)
  · exact Kept.result _ _ _ _ _

/-- Every command row keeps the forms. -/
theorem Kept.takeHead {c : Instr} (hc : (commandEntry c).isSome = true) (s : State) : Kept s (s.takeHead c) := by
  cases hr : rowEvolves c with
  | true =>
    rcases takeHead_evolves hr s with e | h
    · rw [e]; exact .refl s
    · exact (Kept.popCommand s).trans h.kept
  | false =>
    rcases figure_row hc hr with ⟨_, _, rfl⟩ | ⟨_, _, rfl⟩ | ⟨_, _, _, rfl⟩
    · exact Kept.takeCommand fun _ => Kept.runSetProfile _ _ _
    · exact Kept.takeCommand fun _ => Kept.runSetReserve _ _ _
    · exact Kept.takeCommand fun _ => Kept.runSetPolicy _ _ _ _

/-! The SRC debounce. -/

/-- The state with the SRC value taken and C written (R11, R13). -/
def srcTaken (s : State) (v : Fin 4) : State := capacityWritten { s with src := Debounce.rest v } s.profiles[v]

theorem srcEvent_cases (s : State) : (s.src.ready Config.srcDebounce = none ∧ s.srcEvent = s)
    ∨ ∃ v, s.src.ready Config.srcDebounce = some v ∧ Evolves (srcTaken s v) s.srcEvent := by
  unfold State.srcEvent
  cases h : s.src.ready Config.srcDebounce with
  | none => exact .inl ⟨rfl, rfl⟩
  | some v => exact .inr ⟨v, rfl, changeCapacity_evolves _ _⟩

theorem Kept.srcEvent (s : State) : Kept s s.srcEvent := by
  rcases srcEvent_cases s with ⟨-, e⟩ | ⟨v, -, h⟩
  · rw [e]; exact .refl s
  · exact Kept.trans (t := srcTaken s v) (.of_view rfl rfl rfl) h.kept

end Sys2Proof.Proofs
end

/-! The tick: what is due first, and what it counts. -/
section
namespace Sys2Proof.Proofs

open Machine Safety

/-! Nothing due: no event acts. -/

section
variable {s : State} {i : SlotId}

theorem arrivalEvent_quiet (h : (s.slot i).pres.ready Config.presDebounce = none) : s.arrivalEvent i = s := by
  unfold State.arrivalEvent; rw [h]

theorem lossEvent_quiet (h : (s.slot i).pres.ready Config.presDebounce = none) : s.lossEvent i = s := by
  unfold State.lossEvent; rw [h]

theorem settleEvent_quiet (h : (s.slot i).settle.due = false) : s.settleEvent i = s := by simp [State.settleEvent, h]
theorem helloEvent_quiet (h : (s.slot i).hello.due = false) : s.helloEvent i = s := by simp [State.helloEvent, h]
theorem dischargeEvent_quiet (h : (s.slot i).discharge.due = false) : s.dischargeEvent i = s := by simp [State.dischargeEvent, h]
theorem leaseEvent_quiet (h : (s.slot i).lease.due = false) : s.leaseEvent i = s := by simp [State.leaseEvent, h]
theorem windowEvent_quiet (h : (s.slot i).windowDue = false) : s.windowEvent i = s := by simp [State.windowEvent, h]
theorem frameEvent_quiet (h : (s.slot i).frameDue = false) : s.frameEvent i = s := by simp [State.frameEvent, h]
theorem gapEvent_quiet (h : (s.slot i).link.gap.due = false) : s.gapEvent i = s := by simp [State.gapEvent, h]

theorem replyEvent_quiet (h : (s.slot i).link.outstanding.any (fun o => o.window.due) = false) : s.replyEvent i = s := by
  unfold State.replyEvent
  split
  · rename_i o ho
    rw [ho] at h
    rw [if_neg (by simpa using h)]
  · rfl

/-- A slot in which nothing is due has no event. -/
theorem settleSlot_quiet (h : slotQuiet (s.slot i) = true) : s.settleSlot i = s := by
  have hd := (slotQuiet_iff _).mp h
  have hp : (s.slot i).pres.ready Config.presDebounce = none := by simpa [dueIn] using hd .presence
  rw [State.settleSlot, arrivalEvent_quiet hp, lossEvent_quiet hp, settleEvent_quiet (hd .settle), helloEvent_quiet (hd .hello),
    dischargeEvent_quiet (hd .discharge), leaseEvent_quiet (hd .lease), windowEvent_quiet (hd .window), frameEvent_quiet (hd .frame),
    replyEvent_quiet (hd .reply), gapEvent_quiet (hd .gap)]

end

/-- No SRC value to take. -/
theorem srcEvent_quiet {s : State} (h : s.src.ready Config.srcDebounce = none) : s.srcEvent = s := by
  unfold State.srcEvent; rw [h]

/-- The Command Unit takes nothing while 24 reports are held (R164). -/
theorem takeHead_throttled {s : State} (h : Config.throttle ≤ s.reports.length) (c : Instr) : s.takeHead c = s := by
  unfold State.takeHead State.takeCommand
  rw [if_neg]
  simp [State.canTake, Nat.not_lt.mpr h]

theorem takeHeads_throttled {s : State} (h : Config.throttle ≤ s.reports.length) (n : Nat) : takeHeads n s = s := by
  induction n with
  | zero => rfl
  | succ n ih =>
    unfold takeHeads
    split
    · rw [takeHead_throttled h, ih]
    · rfl

theorem foldl_settleSlot_quiet {s : State} (h : ∀ i, slotQuiet (s.slot i) = true) (l : List SlotId) :
    l.foldl (fun s i => s.settleSlot i) s = s := by
  induction l with
  | nil => rfl
  | cons i l ih => rw [List.foldl_cons, settleSlot_quiet (h i), ih]

/-- In a quiet state a tick finds nothing to take. -/
theorem settleAll_quiet {s : State} (h : Quiet s) : s.settleAll = s := by
  obtain ⟨h1, h2, h3⟩ := h
  unfold State.settleAll
  rw [srcEvent_quiet (Option.isNone_iff_eq_none.mp h1), foldl_settleSlot_quiet h2]
  rcases h3 with h3 | h3
  · rw [h3]; rfl
  · exact takeHeads_throttled h3 _

/-! The count. -/

/-- The level of RUN of a slot at frame count `n` (R140). -/
def runAt (n : Nat) (i : SlotId) (t : Slot) : Bool :=
  decide (t.state = .active) &&
    match t.curWidth with
    | none => true
    | some w => decide ((n + Config.frameLength - Config.frameOffset * i.val) % Config.frameLength < w)

theorem runLevel_eq (s : State) (i : SlotId) : runLevel s i = runAt s.frameCounter i (s.slot i) := rfl

/-- A slot driven to the level of RUN. -/
def driven (n : Nat) (i : SlotId) (t : Slot) : Slot := { t with run := runAt n i t }

theorem modSlot_driveRun (s : State) (i : SlotId) (f : Slot → Slot) :
    (s.modSlot i f).driveRun i = s.modSlot i (fun t => driven s.frameCounter i (f t)) := by
  unfold State.driveRun
  rw [runLevel_eq, State.modSlot_slot_same, State.modSlot_modSlot]
  rfl

/-- What a tick makes of slot i when it brings the frame counter to `n` (R1, R21, R138, R140). -/
def ticked (n : Nat) (pres : BitVec 8) (line : LineActivity) (i : SlotId) (t : Slot) : Slot :=
  driven n i
    (Slot.tick (pres.getLsbD i.val) (line.ended.getLsbD i.val) (line.underWay.getLsbD i.val) (decide (n = Config.frameOffset * i.val)) t)

/-- Each of the listed slots is changed once by its own function. -/
theorem foldl_modSlot_slot (g : SlotId → Slot → Slot) {l : List SlotId} (hl : l.Nodup) (s : State) (j : SlotId) :
    (l.foldl (fun s i => s.modSlot i (g i)) s).slot j = if j ∈ l then g j (s.slot j) else s.slot j := by
  induction l generalizing s with
  | nil => simp
  | cons i l ih =>
    obtain ⟨hi, hl⟩ := List.nodup_cons.mp hl
    rw [List.foldl_cons, ih hl, State.modSlot_slot]
    by_cases hj : j = i
    · subst hj; simp [hi]
    · simp [hj]

/-- Changes of slots leave every other field. -/
theorem foldl_modSlot_slots (g : SlotId → Slot → Slot) (l : List SlotId) (s : State) :
    { l.foldl (fun s i => s.modSlot i (g i)) s with slots := s.slots } = s := by
  induction l generalizing s with
  | nil => rfl
  | cons i l ih => exact congrArg (fun u : State => { u with slots := s.slots }) (ih (s.modSlot i (g i)))

theorem foldl_driveRun (g : SlotId → Slot → Slot) (n : Nat) (l : List SlotId) (s : State) (hs : s.frameCounter = n) :
    l.foldl (fun s i => (s.modSlot i (g i)).driveRun i) s = l.foldl (fun s i => s.modSlot i (fun t => driven n i (g i t))) s := by
  induction l generalizing s with
  | nil => rfl
  | cons i l ih =>
    rw [List.foldl_cons, List.foldl_cons, modSlot_driveRun, hs]
    exact ih _ hs

/-- The state of a tick before its slots are counted: divider, frame counter and SRC sample (R1, R11, R138). -/
def countBase (s : State) (src1 src0 : Bool) : State :=
  { s with tickDivider := 0, frameCounter := nextCount s.frameCounter, src := s.src.sample (rawSrc src1 src0) }

theorem count_eq (s : State) (src1 src0 : Bool) (pres : BitVec 8) (line : LineActivity) :
    s.count src1 src0 pres line =
      slotIds.foldl (fun u i => u.modSlot i (ticked (nextCount s.frameCounter) pres line i)) (countBase s src1 src0) :=
  foldl_driveRun _ _ _ (countBase s src1 src0) rfl

theorem mem_slotIds (i : SlotId) : i ∈ slotIds := by revert i; decide

theorem nodup_slotIds : slotIds.Nodup := by decide

/-- The count changes every slot by its own tick. -/
theorem count_slot (s : State) (src1 src0 : Bool) (pres : BitVec 8) (line : LineActivity) (i : SlotId) :
    (s.count src1 src0 pres line).slot i = ticked (nextCount s.frameCounter) pres line i (s.slot i) := by
  rw [count_eq, foldl_modSlot_slot _ nodup_slotIds, if_pos (mem_slotIds i)]
  rfl

/-- The count leaves everything but the slots as its first step leaves it. -/
theorem count_base (s : State) (src1 src0 : Bool) (pres : BitVec 8) (line : LineActivity) :
    { s.count src1 src0 pres line with slots := s.slots } = countBase s src1 src0 := by
  rw [count_eq]
  exact foldl_modSlot_slots _ _ (countBase s src1 src0)

theorem exec_tick_quiet {s : State} (h : Quiet s) (src1 src0 : Bool) (pres : BitVec 8) (line : LineActivity) :
    exec (.tick src1 src0 pres line) s = .next (s.count src1 src0 pres line) := by
  show Host.Outcome.next (s.settleAll.count src1 src0 pres line) = _
  rw [settleAll_quiet h]

/-- The gap timer of a link at a tick (R49). -/
theorem tick_gap (ended underWay : Bool) (l : Link) : (l.tick ended underWay).gap =
    if l.asm.busy = true ∧ underWay = true then some 2 else if l.asm.busy = true ∧ ended = true then some 1 else l.gap.map (· - 1) := by
  unfold Link.tick
  cases l.asm.busy <;> cases underWay <;> cases ended <;> rfl

/-- The level of RUN with the offset subtracted on its own (R140). -/
theorem runAt_eq (n : Nat) (i : SlotId) (t : Slot) : runAt n i t = (decide (t.state = .active) &&
    (match t.curWidth with
      | none => true
      | some w => decide ((n + (31 - 4 * i.val)) % 31 < w))) := by
  have h : n + Config.frameLength - Config.frameOffset * i.val = n + (31 - 4 * i.val) := by
    have := i.isLt
    simp only [Config.frameLength, Config.frameOffset]
    omega
  unfold runAt
  rw [h]
  cases t.curWidth <;> rfl

/-- A tick of a link, field by field (R1, R49). -/
theorem link_tick_eq (ended underWay : Bool) (l : Link) : l.tick ended underWay =
    { l with
      gap :=
        if l.asm.busy = true ∧ underWay = true then some 2
        else if l.asm.busy = true ∧ ended = true then some 1
        else l.gap.map (· - 1)
      outstanding := l.outstanding.map (fun o => { o with window := o.window.map (· - 1) }) } := by
  rw [← tick_gap]
  rfl

/-- A tick of a slot, field by field (R1, R21, R138, R140). -/
theorem ticked_eq (n : Nat) (pres : BitVec 8) (line : LineActivity) (i : SlotId) (t : Slot) : ticked n pres line i t =
    { t with
      pres := t.pres.sample (pres.getLsbD i.val)
      settle := t.settle.map (· - 1), hello := t.hello.map (· - 1), lease := t.lease.map (· - 1), discharge := t.discharge.map (· - 1)
      reclaim := t.reclaim.map (fun r => { r with window := r.window.map (· - 1) })
      frameDue := decide (n = 4 * i.val)
      run := decide (t.state = .active) &&
        (match t.curWidth with
          | none => true
          | some w => decide ((n + (31 - 4 * i.val)) % 31 < w))
      link := t.link.tick (line.ended.getLsbD i.val) (line.underWay.getLsbD i.val) } := by
  rw [← runAt_eq]
  rfl

/-- Settles O9: a quiet state goes to its count, and the count acts slot by slot. -/
theorem tickCounts : Obligations.TickCounts := by
  intro s src1 src0 pres ended underWay hq
  have hb := count_base s src1 src0 pres ⟨ended, underWay⟩
  have hs := count_slot s src1 src0 pres ⟨ended, underWay⟩
  refine ⟨_, exec_tick_quiet hq src1 src0 pres ⟨ended, underWay⟩, ?_⟩
  generalize s.count src1 src0 pres ⟨ended, underWay⟩ = t at hb hs
  refine ⟨congrArg State.frameCounter hb, (congrArg State.src hb).trans ?_, fun i => ?_, congrArg State.tickDivider hb, ?_⟩
  · cases src1 <;> cases src0 <;> rfl
  · rw [hs, ticked_eq, link_tick_eq]
    rfl
  · exact congrArg (fun u : State => { u with tickDivider := s.tickDivider, frameCounter := s.frameCounter, src := s.src }) hb

end Sys2Proof.Proofs
end

/-! Which command writes which figure and register, and that every step keeps the ranges. -/
section
namespace Sys2Proof.Proofs

open Machine Safety

/-! The figures, the command queue and the counters. -/

/-- The figures, the command queue and the counters stay in their ranges. -/
structure RangesKept (s t : State) : Prop where
  figures : FiguresForm s → FiguresForm t
  commands : CommandForm s → CommandForm t
  counter : CounterForm s → CounterForm t

namespace RangesKept

variable {s t u : State}

theorem trans (h : RangesKept s t) (h' : RangesKept t u) : RangesKept s u :=
  ⟨fun hs => h'.figures (h.figures hs), fun hs => h'.commands (h.commands hs), fun hs => h'.counter (h.counter hs)⟩

theorem refl (s : State) : RangesKept s s := ⟨id, id, id⟩

/-- Events of slots, links and the Arbiter write none of them. -/
theorem of_rest (h : t.rest = s.rest) : RangesKept s t where
  figures hs := show FiguresForm t.rest by rw [h]; exact hs
  commands hs := show CommandForm t.rest by rw [h]; exact hs
  counter hs := show CounterForm t.rest by rw [h]; exact hs

theorem of_evolves (h : Evolves s t) : RangesKept s t := of_rest h.rest

theorem popCommand (s : State) : RangesKept s s.popCommand :=
  ⟨id, fun hs => by
    have h : s.cmdQueue.length ≤ 4 := hs
    simp only [CommandForm, State.popCommand, List.length_tail]
    omega, id⟩

theorem takeCommand {c : Instr} {run : State → State} (h : ∀ u, RangesKept u (run u)) : RangesKept s (s.takeCommand c run) := by
  rcases takeCommand_cases s c run with ⟨-, e⟩ | ⟨-, e⟩
  · rw [e]; exact refl s
  · rw [e]; exact (popCommand s).trans (h _)

theorem result (s : State) (code : Nat) (named : Option SlotId) (res : ResultCode) (p0 : Half) : RangesKept s (s.result code named res p0) :=
  of_evolves (Evolves.refl.result code named res p0)

/-- The profile records after one is written (R12). -/
theorem profiles_set (v : Vector Nat 4) (p q : Fin 4) (n : Nat) : (v.set p n)[q] = if q = p then n else v[q] := by
  simp only [Fin.getElem_fin, Vector.getElem_set, Fin.ext_iff, eq_comm]

/-- A profile record takes a capacity in range, and C follows where the record is the active one (R12, R13). -/
theorem writeProfile (s : State) (p : Fin 4) {n : Nat} (hn : n ≤ Config.maxBudget) : RangesKept s (s.writeProfile p n) := by
  have hle : ∀ q : Fin 4, FiguresForm s → (s.profiles.set p n)[q] ≤ Config.maxBudget := fun q hs => by
    rw [profiles_set]
    split
    · exact hn
    · exact hs.1 q
  have h := writeProfile_evolves s p n
  split at h
  · rename_i hp
    refine trans (t := capacityWritten (profileWritten s p n) n) ⟨fun hs => ?_, id, id⟩ (of_evolves h)
    refine ⟨fun q => hle q hs, hs.2.1, ?_, hs.2.2.2⟩
    show n = (s.profiles.set p n)[s.src.value]
    rw [profiles_set, if_pos hp.1.symm]
  · rename_i hp
    rw [h]
    refine ⟨fun hs => ⟨fun q => hle q hs, hs.2.1, ?_, hs.2.2.2⟩, id, id⟩
    show s.capacity = (s.profiles.set p n)[s.src.value]
    rw [profiles_set]
    split
    · rename_i hv
      by_contra hne
      exact hp ⟨hv.symm, fun e => hne e.symm⟩
    · exact hs.2.2.1

theorem runSetProfile (s : State) (index capacity : Half) : RangesKept s (s.runSetProfile index capacity) := by
  unfold State.runSetProfile
  split
  · split
    · exact (result _ _ _ _ _).trans (writeProfile _ _ ‹_›)
    · exact result _ _ _ _ _
  · exact result _ _ _ _ _

theorem checkReserve_le {s : State} {a f : Half} (h : s.checkReserve a f = .ok) : a.toNat ≤ Config.maxBudget := by
  unfold State.checkReserve at h
  split at h
  · cases h
  · exact Nat.not_lt.mp ‹_›

theorem runSetReserve (s : State) (amount force : Half) : RangesKept s (s.runSetReserve amount force) := by
  unfold State.runSetReserve
  dsimp only
  split
  · rename_i hc
    refine (result s 8 none (s.checkReserve amount force) amount).trans ?_
    refine trans (t := reserveWritten _ amount.toNat) ⟨fun hs => ?_, id, id⟩ (of_evolves (writeReserve_evolves _ _))
    exact ⟨hs.1, checkReserve_le hc, hs.2.2⟩
  · exact result _ _ _ _ _

theorem runSetPolicy (s : State) (mode limit preempt : Half) : RangesKept s (s.runSetPolicy mode limit preempt) := by
  unfold State.runSetPolicy
  split
  · rename_i hc
    simp only [policyOk, Bool.and_eq_true, inRange_iff] at hc
    refine (result s 9 none .ok mode).trans ?_
    refine trans (t := { s.result 9 none .ok mode with policy := policyOf mode limit preempt }) ⟨fun hs => ?_, id, id⟩
      (of_evolves (writePolicy_evolves _ _ _ _))
    exact ⟨hs.1, hs.2.1, hs.2.2.1, hc.1.2⟩
  · exact result _ _ _ _ _

theorem takeHead {c : Instr} (hc : (commandEntry c).isSome = true) (s : State) : RangesKept s (s.takeHead c) := by
  cases hr : rowEvolves c with
  | true =>
    rcases takeHead_evolves hr s with e | h
    · rw [e]; exact refl s
    · exact (popCommand s).trans (of_evolves h)
  | false =>
    rcases figure_row hc hr with ⟨_, _, rfl⟩ | ⟨_, _, rfl⟩ | ⟨_, _, _, rfl⟩
    · exact takeCommand fun _ => runSetProfile _ _ _
    · exact takeCommand fun _ => runSetReserve _ _ _
    · exact takeCommand fun _ => runSetPolicy _ _ _ _

theorem srcEvent (s : State) : RangesKept s s.srcEvent := by
  rcases srcEvent_cases s with ⟨-, e⟩ | ⟨v, -, h⟩
  · rw [e]; exact refl s
  · refine trans (t := srcTaken s v) ⟨fun hs => ?_, id, id⟩ (of_evolves h)
    exact ⟨hs.1, hs.2.1, rfl, hs.2.2.2⟩

end RangesKept

/-! Commands by what they do. -/

/-- Every entry of the command queue spells a command row. -/
theorem commandEntry_entryCommand (e : CmdEntry) : (commandEntry (entryCommand e)).isSome = true := by
  unfold entryCommand
  split
  · split <;> rfl
  all_goals rfl

/-- The register write that a command of the Host Window is (12.2; log entry 6). -/
def writeOf : Instr → Option (BitVec 6 × Half)
  | .registerWrite ⟨a, false⟩ v => some (a, v)
  | .eventsWrite v => some (0x03, v)
  | .irqEnableWrite v => some (0x04, v)
  | .cmdCodeWrite v => some (0x0B, v)
  | .reportPop => some (0x15, 0)
  | .slotRecordSnapshot v => some (0x21, v)
  | .stepTableSnapshot v => some (0x21, v)
  | .waitEntrySnapshot v => some (0x21, v)
  | .episodeRecordSnapshot v => some (0x21, v)
  | .profileSnapshot v => some (0x21, v)
  | .recencyListSnapshot v => some (0x21, v)
  | .tableIndexWriteNoTable v => some (0x21, v)
  | _ => none

/-- What a command other than PIN_RESET and TICK does: it evolves the state, it is a row of the Command Unit, it takes the SRC value, or it
writes a register. -/
theorem exec_cases {c : Instr} {s t : State} (h : exec c s = .next t) (h1 : c ≠ .pinReset) (h2 : ∀ a b p l, c ≠ .tick a b p l) :
    Evolves s t ∨ ((commandEntry c).isSome = true ∧ t = s.takeHead c) ∨ (c = .srcDebounceTaken ∧ t = s.srcEvent)
    ∨ ∃ a v, writeOf c = some (a, v) ∧ t = s.write a v := by
  have r : Evolves s s := .refl
  cases hc : commandEntry c with
  | some e =>
    have hs : (commandEntry c).isSome = true := by rw [hc]; rfl
    rw [exec_takeHead hs] at h
    exact .inr (.inl ⟨rfl, (Host.Outcome.next.inj h).symm⟩)
  | none =>
    cases hw : writeOf c with
    | some w =>
      refine .inr (.inr (.inr ⟨w.1, w.2, rfl, ?_⟩))
      cases c with
      | registerWrite a v => obtain ⟨a, _ | _⟩ := a <;> cases hw; exact (Host.Outcome.next.inj h).symm
      | _ => first | (cases hw; exact (Host.Outcome.next.inj h).symm) | cases hw
    | none =>
      cases c with
      | pinReset => exact absurd rfl h1
      | tick a b p l => exact absurd rfl (h2 a b p l)
      | srcDebounceTaken => exact .inr (.inr (.inl ⟨rfl, (Host.Outcome.next.inj h).symm⟩))
      | arrivalOfPresence i => cases h; exact .inl (r.arrivalEvent i)
      | lossOfPresence i => cases h; exact .inl (r.lossEvent i)
      | switchFault i => cases h; exact .inl (r.cutIfPowered i _)
      | settleTimerExpiry i => cases h; exact .inl (r.settleEvent i)
      | helloTimerExpiry i => cases h; exact .inl (r.helloEvent i)
      | cutCompletion i => cases h; exact .inl (r.dischargeEvent i)
      | leaseExpiry i => cases h; exact .inl (r.leaseEvent i)
      | reclaimWindowExpiry i => cases h; exact .inl (r.windowEvent i)
      | frameStart i => cases h; exact .inl (r.frameEvent i)
      | replyWindowExpiry i => cases h; exact .inl (r.replyEvent i)
      | gapTimerExpiry i => cases h; exact .inl (r.gapEvent i)
      | frameAbandoned i cause => cases h; split; exacts [.inl (r.frameDone i), .inl r]
      | linkFrameDiscarded i f => cases h; split; exacts [.inl r, .inl (r.frameDone i)]
      | malformed i k tag p => cases h; split; exacts [.inl r, .inl (r.takeMalformed i k tag)]
      | hello i tag id f d => cases h; exact .inl (r.takeHello i tag id f d)
      | ask i tag a f fl => cases h; exact .inl (r.takeAsk i tag a f fl)
      | yield i tag g => cases h; exact .inl (r.takeYield i tag g)
      | withdraw i tag => cases h; exact .inl (r.takeWithdraw i tag)
      | renew i tag => cases h; exact .inl (r.takeRenew i tag)
      | confirm i tag g => cases h; exact .inl (r.takeConfirm i tag g)
      | ack i q => cases h; exact .inl (r.takeAck i q)
      | frameTransmitted i => cases h; exact .inl (r.sent i)
      | syncReceived i l => cases h; exact .inl (r.receiveAll i _)
      | registerWrite a v =>
        obtain ⟨a, _ | _⟩ := a
        · cases hw
        · cases h; exact .inl r
      | _ => first | (cases hc; done) | cases hw

/-! Every step keeps the forms one by one (O5). -/

/-- The forms of O5. -/
structure FormsKept (s t : State) : Prop extends RangesKept s t where
  reports : ReportForm s → ReportForm t
  config : ConfigForm s → ConfigForm t

namespace FormsKept

variable {s t u : State}

theorem of_kept (hr : RangesKept s t) (hk : Kept s t) : FormsKept s t := ⟨hr, hk.reportForm, hk.configForm⟩

theorem of_evolves (h : Evolves s t) : FormsKept s t := of_kept (.of_evolves h) h.kept

theorem trans (h : FormsKept s t) (h' : FormsKept t u) : FormsKept s u :=
  ⟨h.toRangesKept.trans h'.toRangesKept, fun hs => h'.reports (h.reports hs), fun hs => h'.config (h.config hs)⟩

theorem takeHead {c : Instr} (hc : (commandEntry c).isSome = true) (s : State) : FormsKept s (s.takeHead c) :=
  of_kept (.takeHead hc s) (.takeHead hc s)

theorem takeHeads (n : Nat) (s : State) : FormsKept s (takeHeads n s) := by
  induction n generalizing s with
  | zero => exact of_evolves .refl
  | succ n ih =>
    unfold Machine.takeHeads
    split
    · rename_i c hc
      obtain ⟨e, -, rfl⟩ := Option.map_eq_some_iff.mp hc
      exact (takeHead (commandEntry_entryCommand e) s).trans (ih _)
    · exact of_evolves .refl

theorem srcEvent (s : State) : FormsKept s s.srcEvent := of_kept (.srcEvent s) (.srcEvent s)

theorem settleAll (s : State) : FormsKept s s.settleAll :=
  ((srcEvent s).trans (of_evolves (Evolves.refl.foldl slotIds _ fun _ i hv => hv.settleSlot i))).trans (takeHeads _ _)

theorem gapsApart_tail (q : List Report) (h : gapsApart q = true) : gapsApart q.tail = true := by
  match q with
  | [] => rfl
  | [_] => rfl
  | a :: b :: q => exact (Bool.and_eq_true _ _ ▸ h).2

/-- A pop leaves the form of the report queue (R179). -/
theorem popReport (s : State) : FormsKept s s.popReport where
  figures := id
  commands := id
  counter := id
  config := id
  reports h := by
    obtain ⟨h1, -, h3⟩ := h
    have hl : s.popReport.reports.length = s.reports.length - 1 := List.length_tail
    exact ⟨by rw [hl]; omega, fun h => by rw [hl] at h; omega, gapsApart_tail _ h3⟩

theorem pushCommand (s : State) (v : Half) : FormsKept s (s.pushCommand v) := by
  unfold State.pushCommand
  split
  · rename_i hl
    refine ⟨⟨id, fun _ => ?_, id⟩, id, id⟩
    simp only [Config.cmdQueueSize] at hl
    simp only [CommandForm, List.length_append, List.length_singleton]
    omega
  · exact ⟨⟨id, id, id⟩, id, id⟩

theorem write (s : State) (a : BitVec 6) (v : Half) : FormsKept s (s.write a v) := by
  unfold State.write
  split
  case h_6 => exact pushCommand s v
  case h_7 => exact popReport s
  all_goals exact ⟨⟨id, id, id⟩, id, id⟩

/-- A tick counts the frame counter round and changes no configuration and no figure. -/
theorem count (s : State) (src1 src0 : Bool) (pres : BitVec 8) (line : LineActivity) : FormsKept s (s.count src1 src0 pres line) := by
  have hb := count_base s src1 src0 pres line
  have hs := count_slot s src1 src0 pres line
  generalize s.count src1 src0 pres line = t at hb hs
  have hv : (s.src.sample (rawSrc src1 src0)).value = s.src.value := by
    unfold Debounce.sample
    split
    · rfl
    · split
      · split <;> rfl
      · rfl
  refine ⟨⟨fun h => ?_, fun h => ?_, fun _ => ?_⟩, fun h => ?_, fun h i => ?_⟩
  · have hf : FiguresForm (countBase s src1 src0) := by
      refine ⟨h.1, h.2.1, ?_, h.2.2.2⟩
      show s.capacity = s.profiles[(s.src.sample (rawSrc src1 src0)).value]
      exact h.2.2.1.trans (congrArg (fun p : Fin 4 => s.profiles[p]) hv.symm)
    rw [← hb] at hf
    exact hf
  · have hf : CommandForm (countBase s src1 src0) := h
    rw [← hb] at hf
    exact hf
  · have hf : CounterForm (countBase s src1 src0) := ⟨Nat.mod_lt _ (by decide), (by decide : 0 < 4000)⟩
    rw [← hb] at hf
    exact hf
  · have hf : ReportForm (countBase s src1 src0) := h
    rw [← hb] at hf
    exact hf
  · rw [hs]; exact h i

end FormsKept

/-- Every command keeps the forms. -/
theorem exec_formsKept {c : Instr} {s t : State} (h : exec c s = .next t) : FormsKept s t := by
  by_cases h1 : c = .pinReset
  · subst h1
    cases h
    obtain ⟨h1, h2, h3, h4, h5, -⟩ := resetMeetsInvariant
    exact ⟨⟨fun _ => h5, fun _ => h2, fun _ => h3⟩, fun _ => h1, fun _ => h4⟩
  · by_cases h2 : ∃ a b p l, c = .tick a b p l
    · obtain ⟨a, b, p, l, rfl⟩ := h2
      cases h
      exact (FormsKept.settleAll s).trans (FormsKept.count _ _ _ _ _)
    · rcases exec_cases h h1 (fun a b p l e => h2 ⟨a, b, p, l, e⟩) with h | ⟨hc, rfl⟩ | ⟨-, rfl⟩ | ⟨a, v, -, rfl⟩
      · exact .of_evolves h
      · exact .takeHead hc s
      · exact .srcEvent s
      · exact .write s a v

/-- Settles O5: every command keeps each of the forms, whatever the others. -/
theorem stepKeepsQueuesAndRanges : Obligations.StepKeepsQueuesAndRanges := by
  intro s t h
  have hk : FormsKept s t := by
    cases hp : s.pending with
    | nil =>
      rw [step_of_idle hp] at h
      cases h
      exact .of_evolves .refl
    | cons c rest =>
      rw [step_of_pending hp] at h
      exact FormsKept.trans (t := { s with pending := rest }) ⟨⟨id, id, id⟩, id, id⟩ (exec_formsKept h)
  exact ⟨hk.reports, hk.config, hk.figures, hk.commands, hk.counter⟩

end Sys2Proof.Proofs
end

/-! Which command writes which figure, register and flag. -/
section
namespace Sys2Proof.Proofs

open Machine Safety

/-- What the command has left alone, and how the flags of EVENTS came (R161, R170). -/
def FieldWriters (s t : State) (c : Instr) : Prop :=
  t.frameCounter = s.frameCounter ∧ t.tickDivider = s.tickDivider ∧ t.pending = s.pending
    ∧ ((∀ v, c ≠ .registerWrite ⟨0x08, false⟩ v) → t.cmdP0 = s.cmdP0) ∧ ((∀ v, c ≠ .registerWrite ⟨0x09, false⟩ v) → t.cmdP1 = s.cmdP1)
    ∧ ((∀ v, c ≠ .registerWrite ⟨0x0A, false⟩ v) → t.cmdP2 = s.cmdP2) ∧ ((∀ v, c ≠ .registerWrite ⟨0x20, false⟩ v) → t.tableSel = s.tableSel)
    ∧ ((∀ v, c ≠ .irqEnableWrite v ∧ c ≠ .registerWrite ⟨0x04, false⟩ v) → t.irqEnable = s.irqEnable)
    ∧ ((∀ p v, c ≠ .setProfile p v) → t.profiles = s.profiles) ∧ ((∀ a f, c ≠ .setReserve a f) → t.reserve = s.reserve)
    ∧ ((∀ m l p, c ≠ .setPolicy m l p) → t.policy = s.policy) ∧ (c ≠ .srcDebounceTaken → t.src = s.src)
    ∧ (c ≠ .srcDebounceTaken → (∀ p v, c ≠ .setProfile p v) → t.capacity = s.capacity)
    ∧ ((∀ v, c ≠ .slotRecordSnapshot v ∧ c ≠ .stepTableSnapshot v ∧ c ≠ .waitEntrySnapshot v ∧ c ≠ .episodeRecordSnapshot v
          ∧ c ≠ .profileSnapshot v ∧ c ≠ .recencyListSnapshot v ∧ c ≠ .tableIndexWriteNoTable v ∧ c ≠ .registerWrite ⟨0x21, false⟩ v) →
        t.tableIndex = s.tableIndex ∧ t.tableData = s.tableData)
    ∧ ((∀ v, c ≠ .eventsWrite v ∧ c ≠ .registerWrite ⟨0x03, false⟩ v) →
        (s.gapSeen = true → t.gapSeen = true) ∧ (s.cmdOverrun = true → t.cmdOverrun = true)
        ∧ (s.capacityChanged = true → t.capacityChanged = true))
    ∧ (s.gapSeen = false → t.gapSeen = true → 32 ≤ t.reports.length ∧ tailIsGap t.reports = true)
    ∧ ((∀ v, c ≠ .cmdCodeWrite v ∧ c ≠ .registerWrite ⟨0x0B, false⟩ v) → s.cmdOverrun = false → t.cmdOverrun = false)
    ∧ (c ≠ .srcDebounceTaken → (∀ p v, c ≠ .setProfile p v) → s.capacityChanged = false → t.capacityChanged = false)
    ∧ (commandEntry c = none → (∀ v, c ≠ .cmdCodeWrite v ∧ c ≠ .registerWrite ⟨0x0B, false⟩ v) → t.cmdQueue = s.cmdQueue)

/-- What a command other than a register write leaves in the part of the state that events do not write: the figures it may write, and the
command queue. -/
structure FiguresWritten (c : Instr) (s t r : State) : Prop where
  rest : t.rest = { s.rest with
    cmdQueue := r.cmdQueue, profiles := r.profiles, capacity := r.capacity, capacityChanged := r.capacityChanged, reserve := r.reserve,
    policy := r.policy, src := r.src }
  cmdQueue : commandEntry c = none → r.cmdQueue = s.cmdQueue
  profiles : (∀ p v, c ≠ .setProfile p v) → r.profiles = s.profiles
  reserve : (∀ a f, c ≠ .setReserve a f) → r.reserve = s.reserve
  policy : (∀ m l p, c ≠ .setPolicy m l p) → r.policy = s.policy
  src : c ≠ .srcDebounceTaken → r.src = s.src
  capacity : c ≠ .srcDebounceTaken → (∀ p v, c ≠ .setProfile p v) → r.capacity = s.capacity ∧ r.capacityChanged = s.capacityChanged
  changed : s.capacityChanged = true → r.capacityChanged = true

theorem FiguresWritten.fieldWriters {c : Instr} {s t r : State} (h : FiguresWritten c s t r) (hk : Kept s t) : FieldWriters s t c :=
  have f {α : Type} (g : State → α) := congrArg g h.rest
  ⟨f State.frameCounter, f State.tickDivider, f State.pending, fun _ => f State.cmdP0, fun _ => f State.cmdP1, fun _ => f State.cmdP2,
    fun _ => f State.tableSel, fun _ => f State.irqEnable, fun hc => (f State.profiles).trans (h.profiles hc),
    fun hc => (f State.reserve).trans (h.reserve hc), fun hc => (f State.policy).trans (h.policy hc), fun hc => (f State.src).trans (h.src hc),
    fun hc hp => (f State.capacity).trans (h.capacity hc hp).1, fun _ => ⟨f State.tableIndex, f State.tableData⟩,
    fun _ => ⟨hk.seen, fun hs => (f State.cmdOverrun).trans hs, fun hs => (f State.capacityChanged).trans (h.changed hs)⟩, hk.newlySeen,
    fun _ hs => (f State.cmdOverrun).trans hs, fun hc hp hs => (f State.capacityChanged).trans ((h.capacity hc hp).2.trans hs),
    fun hc _ => (f State.cmdQueue).trans (h.cmdQueue hc)⟩

/-- Events write none of the figures. -/
theorem figuresWritten_of_rest {c : Instr} {s t : State} (h : t.rest = s.rest) : FiguresWritten c s t s :=
  ⟨h, fun _ => rfl, fun _ => rfl, fun _ => rfl, fun _ => rfl, fun _ => rfl, fun _ _ => ⟨rfl, rfl⟩, id⟩

/-- A command row writes the figures that `r` shows. -/
theorem figuresWritten_of_row {c : Instr} {s t r : State} (hc : (commandEntry c).isSome = true) (h : t.rest = r.rest)
    (hr : r.rest = { s.rest with
      cmdQueue := r.cmdQueue, profiles := r.profiles, capacity := r.capacity, capacityChanged := r.capacityChanged, reserve := r.reserve,
      policy := r.policy })
    (hp : (∀ p v, c ≠ .setProfile p v) → r.profiles = s.profiles ∧ r.capacity = s.capacity ∧ r.capacityChanged = s.capacityChanged)
    (hh : (∀ a f, c ≠ .setReserve a f) → r.reserve = s.reserve) (hm : (∀ m l p, c ≠ .setPolicy m l p) → r.policy = s.policy)
    (hb : s.capacityChanged = true → r.capacityChanged = true) : FiguresWritten c s t r :=
  have hs : r.src = s.src := show r.rest.src = s.rest.src by rw [hr]
  { rest := by rw [h, hr, hs]; rfl
    cmdQueue := fun hn => by rw [hn] at hc; cases hc
    profiles := fun hc => (hp hc).1
    reserve := hh
    policy := hm
    src := fun _ => hs
    capacity := fun _ hc => (hp hc).2
    changed := hb }

/-- The rows of the Command Unit write the figures they name. -/
theorem takeHead_figuresWritten {c : Instr} (hc : (commandEntry c).isSome = true) (s : State) : ∃ r, FiguresWritten c s (s.takeHead c) r := by
  cases hr : rowEvolves c with
  | true =>
    rcases takeHead_evolves hr s with e | h
    · exact ⟨s, figuresWritten_of_rest (by rw [e])⟩
    · exact ⟨s.popCommand, figuresWritten_of_row hc h.rest rfl (fun _ => ⟨rfl, rfl, rfl⟩) (fun _ => rfl) (fun _ => rfl) id⟩
  | false =>
    have skip : s.takeHead c = s → ∃ r, FiguresWritten c s (s.takeHead c) r := fun e => ⟨s, figuresWritten_of_rest (by rw [e])⟩
    have only : ∀ u, (s.takeHead c).rest = u → u = s.popCommand.rest → ∃ r, FiguresWritten c s (s.takeHead c) r := fun u h1 h2 =>
      ⟨s.popCommand, figuresWritten_of_row hc (h1.trans h2) rfl (fun _ => ⟨rfl, rfl, rfl⟩) (fun _ => rfl) (fun _ => rfl) id⟩
    have pop : ∀ (code : Nat) (res : ResultCode) (p0 : Half), (s.popCommand.result code none res p0).rest = s.popCommand.rest :=
      fun code res p0 => (Evolves.refl.result code none res p0).rest
    rcases figure_row hc hr with ⟨index, n, rfl⟩ | ⟨amount, force, rfl⟩ | ⟨mode, limit, preempt, rfl⟩
    · rcases takeCommand_cases s (.setProfile index n) (fun t => t.runSetProfile index n) with ⟨-, e⟩ | ⟨-, e⟩
      · exact skip e
      · have e' : s.takeHead (.setProfile index n) = s.popCommand.runSetProfile index n := e
        unfold State.runSetProfile at e'
        split at e'
        · split at e'
          · rename_i hi _
            have h := writeProfile_evolves (s.popCommand.result 7 none .ok index) ⟨index.toNat, hi⟩ n.toNat
            split at h
            · refine ⟨capacityWritten (profileWritten s.popCommand ⟨index.toNat, hi⟩ n.toNat) n.toNat, figuresWritten_of_row hc ?_ rfl
                (fun h => absurd rfl (h _ _)) (fun _ => rfl) (fun _ => rfl) (fun _ => rfl)⟩
              rw [e', h.rest]
              exact congrArg (fun u : State => capacityWritten (profileWritten u ⟨index.toNat, hi⟩ n.toNat) n.toNat) (pop 7 .ok index)
            · refine ⟨profileWritten s.popCommand ⟨index.toNat, hi⟩ n.toNat, figuresWritten_of_row hc ?_ rfl
                (fun h => absurd rfl (h _ _)) (fun _ => rfl) (fun _ => rfl) id⟩
              rw [e', h]
              exact congrArg (fun u : State => profileWritten u ⟨index.toNat, hi⟩ n.toNat) (pop 7 .ok index)
          · exact only _ (by rw [e']) (pop _ _ _)
        · exact only _ (by rw [e']) (pop _ _ _)
    · rcases takeCommand_cases s (.setReserve amount force) (fun t => t.runSetReserve amount force) with ⟨-, e⟩ | ⟨-, e⟩
      · exact skip e
      · have e' : s.takeHead (.setReserve amount force) = s.popCommand.runSetReserve amount force := e
        unfold State.runSetReserve at e'
        dsimp only at e'
        split at e'
        · refine ⟨reserveWritten s.popCommand amount.toNat, figuresWritten_of_row hc ?_ rfl (fun _ => ⟨rfl, rfl, rfl⟩)
            (fun h => absurd rfl (h _ _)) (fun _ => rfl) id⟩
          rw [e', (writeReserve_evolves _ _).rest]
          exact congrArg (fun u : State => reserveWritten u amount.toNat) (pop _ _ _)
        · exact only _ (by rw [e']) (pop _ _ _)
    · rcases takeCommand_cases s (.setPolicy mode limit preempt) (fun t => t.runSetPolicy mode limit preempt) with ⟨-, e⟩ | ⟨-, e⟩
      · exact skip e
      · have e' : s.takeHead (.setPolicy mode limit preempt) = s.popCommand.runSetPolicy mode limit preempt := e
        unfold State.runSetPolicy at e'
        split at e'
        · refine ⟨{ s.popCommand with policy := policyOf mode limit preempt }, figuresWritten_of_row hc ?_ rfl (fun _ => ⟨rfl, rfl, rfl⟩)
            (fun _ => rfl) (fun h => absurd rfl (h _ _ _)) id⟩
          rw [e', (writePolicy_evolves _ _ _ _).rest]
          exact congrArg (fun u : State => { u with policy := policyOf mode limit preempt }) (pop _ _ _)
        · exact only _ (by rw [e']) (pop _ _ _)

/-- SRC_DEBOUNCE_TAKEN writes the SRC value and C (R11, R13). -/
theorem srcEvent_figuresWritten (s : State) : ∃ r, FiguresWritten .srcDebounceTaken s s.srcEvent r := by
  rcases srcEvent_cases s with ⟨-, e⟩ | ⟨v, -, h⟩
  · exact ⟨s, figuresWritten_of_rest (by rw [e])⟩
  · exact ⟨srcTaken s v, h.rest, fun _ => rfl, fun _ => rfl, fun _ => rfl, fun _ => rfl, fun h => absurd rfl h, fun h => absurd rfl h, fun _ => rfl⟩

/-- A write to TABLE_INDEX writes it and TABLE_DATA (R170). -/
theorem writeIndex_fieldWriters {c : Instr} (s : State) (v : Half)
    (hc : c ∈ [Instr.slotRecordSnapshot v, .stepTableSnapshot v, .waitEntrySnapshot v, .episodeRecordSnapshot v, .profileSnapshot v,
      .recencyListSnapshot v, .tableIndexWriteNoTable v, .registerWrite ⟨0x21, false⟩ v]) : FieldWriters s (s.writeIndex v) c := by
  refine ⟨rfl, rfl, rfl, fun _ => rfl, fun _ => rfl, fun _ => rfl, fun _ => rfl, fun _ => rfl, fun _ => rfl, fun _ => rfl, fun _ => rfl,
    fun _ => rfl, fun _ _ => rfl, fun h => ?_, fun _ => ⟨id, id, id⟩, fun h h' => absurd (h ▸ h') (by simp), fun _ => id, fun _ _ => id,
    fun _ _ => rfl⟩
  have hv := h v
  simp only [List.mem_cons, List.not_mem_nil, or_false] at hc
  tauto

/-- A write to CMD_CODE queues a command or sets CMD_OVERRUN (R163). -/
theorem pushCommand_fieldWriters {c : Instr} (s : State) (v : Half) (hc : c = .cmdCodeWrite v ∨ c = .registerWrite ⟨0x0B, false⟩ v) :
    FieldWriters s (s.pushCommand v) c := by
  have hno : ¬ ∀ v, c ≠ .cmdCodeWrite v ∧ c ≠ .registerWrite ⟨0x0B, false⟩ v := fun h => hc.elim (h v).1 (h v).2
  unfold State.pushCommand
  split
  · exact ⟨rfl, rfl, rfl, fun _ => rfl, fun _ => rfl, fun _ => rfl, fun _ => rfl, fun _ => rfl, fun _ => rfl, fun _ => rfl, fun _ => rfl,
      fun _ => rfl, fun _ _ => rfl, fun _ => ⟨rfl, rfl⟩, fun _ => ⟨id, id, id⟩, fun h h' => absurd (h ▸ h') (by simp),
      fun h => absurd h hno, fun _ _ => id, fun _ h => absurd h hno⟩
  · exact ⟨rfl, rfl, rfl, fun _ => rfl, fun _ => rfl, fun _ => rfl, fun _ => rfl, fun _ => rfl, fun _ => rfl, fun _ => rfl, fun _ => rfl,
      fun _ => rfl, fun _ _ => rfl, fun _ => ⟨rfl, rfl⟩, fun _ => ⟨id, fun _ => rfl, id⟩, fun h h' => absurd (h ▸ h') (by simp),
      fun h => absurd h hno, fun _ _ => id, fun _ h => absurd h hno⟩

/-- A write to EVENTS clears flags (R161). -/
theorem clearEvents_fieldWriters {c : Instr} (s : State) (v : Half) (hc : c = .eventsWrite v ∨ c = .registerWrite ⟨0x03, false⟩ v) :
    FieldWriters s (s.clearEvents v) c :=
  ⟨rfl, rfl, rfl, fun _ => rfl, fun _ => rfl, fun _ => rfl, fun _ => rfl, fun _ => rfl, fun _ => rfl, fun _ => rfl, fun _ => rfl,
    fun _ => rfl, fun _ _ => rfl, fun _ => ⟨rfl, rfl⟩, fun h => (hc.elim (h v).1 (h v).2).elim,
    fun h h' => by simp [State.clearEvents, h] at h', fun _ h => by simp [State.clearEvents, h],
    fun _ _ h => by simp [State.clearEvents, h], fun _ _ => rfl⟩

/-- A write to IRQ_ENABLE writes it (R162). -/
theorem writeEnables_fieldWriters {c : Instr} (s : State) (v : Half) (hc : c = .irqEnableWrite v ∨ c = .registerWrite ⟨0x04, false⟩ v) :
    FieldWriters s (s.writeEnables v) c :=
  ⟨rfl, rfl, rfl, fun _ => rfl, fun _ => rfl, fun _ => rfl, fun _ => rfl, fun h => (hc.elim (h v).1 (h v).2).elim, fun _ => rfl,
    fun _ => rfl, fun _ => rfl, fun _ => rfl, fun _ _ => rfl, fun _ => ⟨rfl, rfl⟩, fun _ => ⟨id, id, id⟩,
    fun h h' => absurd (h ▸ h') (by simp), fun _ => id, fun _ _ => id, fun _ _ => rfl⟩

/-- A pop writes no field but the report queue (R179). -/
theorem popReport_fieldWriters (c : Instr) (s : State) : FieldWriters s s.popReport c :=
  ⟨rfl, rfl, rfl, fun _ => rfl, fun _ => rfl, fun _ => rfl, fun _ => rfl, fun _ => rfl, fun _ => rfl, fun _ => rfl, fun _ => rfl,
    fun _ => rfl, fun _ _ => rfl, fun _ => ⟨rfl, rfl⟩, fun _ => ⟨id, id, id⟩, fun h h' => absurd (h ▸ h') (by simp), fun _ => id,
    fun _ _ => id, fun _ _ => rfl⟩

/-- A REGISTER_WRITE writes its own register only (R159, 12.2). -/
theorem registerWrite_fieldWriters (s : State) (a : BitVec 6) (v : Half) : FieldWriters s (s.write a v) (.registerWrite ⟨a, false⟩ v) := by
  have key : ∀ n : Nat, a.toNat = n → a = BitVec.ofNat 6 n := fun n h => by rw [← h, BitVec.ofNat_toNat, BitVec.setWidth_eq]
  unfold State.write
  split <;> rename_i h
  · cases key _ h; exact clearEvents_fieldWriters s v (.inr rfl)
  · cases key _ h; exact writeEnables_fieldWriters s v (.inr rfl)
  · cases key _ h; simp +contextual [FieldWriters]
  · cases key _ h; simp +contextual [FieldWriters]
  · cases key _ h; simp +contextual [FieldWriters]
  · cases key _ h; exact pushCommand_fieldWriters s v (.inr rfl)
  · exact popReport_fieldWriters _ s
  · cases key _ h; simp +contextual [FieldWriters]
  · cases key _ h; exact writeIndex_fieldWriters s v (by simp)
  · simp +contextual [FieldWriters]

/-- A register write writes its own register only (R159, 12.2). -/
theorem write_fieldWriters {c : Instr} {s : State} {a : BitVec 6} {v : Half} (hw : writeOf c = some (a, v)) : FieldWriters s (s.write a v) c := by
  cases c with
  | registerWrite b w => obtain ⟨b, _ | _⟩ := b <;> cases hw; exact registerWrite_fieldWriters s a v
  | eventsWrite w => cases hw; exact clearEvents_fieldWriters s v (.inl rfl)
  | irqEnableWrite w => cases hw; exact writeEnables_fieldWriters s v (.inl rfl)
  | cmdCodeWrite w => cases hw; exact pushCommand_fieldWriters s v (.inl rfl)
  | reportPop => cases hw; exact popReport_fieldWriters _ s
  | slotRecordSnapshot w => cases hw; exact writeIndex_fieldWriters s v (by simp)
  | stepTableSnapshot w => cases hw; exact writeIndex_fieldWriters s v (by simp)
  | waitEntrySnapshot w => cases hw; exact writeIndex_fieldWriters s v (by simp)
  | episodeRecordSnapshot w => cases hw; exact writeIndex_fieldWriters s v (by simp)
  | profileSnapshot w => cases hw; exact writeIndex_fieldWriters s v (by simp)
  | recencyListSnapshot w => cases hw; exact writeIndex_fieldWriters s v (by simp)
  | tableIndexWriteNoTable w => cases hw; exact writeIndex_fieldWriters s v (by simp)
  | _ => cases hw

/-- Settles O6: each kind of command with the fields it writes. -/
theorem figuresHaveTheirWriters : Obligations.FiguresHaveTheirWriters := by
  intro s t c h h1 h2
  rcases exec_cases h h1 h2 with h | ⟨hc, rfl⟩ | ⟨rfl, rfl⟩ | ⟨a, v, hw, rfl⟩
  · exact (figuresWritten_of_rest h.rest).fieldWriters h.kept
  · obtain ⟨r, hr⟩ := takeHead_figuresWritten hc s
    exact hr.fieldWriters (.takeHead hc s)
  · obtain ⟨r, hr⟩ := srcEvent_figuresWritten s
    exact hr.fieldWriters (.srcEvent s)
  · exact write_fieldWriters hw

end Sys2Proof.Proofs
end

/-! Taking a command from its queue: the RESULT it leaves and the check it is taken with. -/
section
namespace Sys2Proof.Proofs

open Machine Safety

/-- Where there is room a report is appended as itself (R176). -/
theorem append_of_room {s : State} (h : s.reports.length < 31) (r : Report) : s.append r = { s with reports := s.reports ++ [r] } := by
  unfold State.append
  rw [if_pos (show s.reports.length < Config.reportLimit from h)]
  rfl

/-- The command at the head of the queue is taken while fewer than 24 reports are held (R164). -/
theorem canTake_of_takes {s : State} {c : Instr} {e : CmdEntry} (h : TakesCommand s c e) : s.canTake c = true := by
  obtain ⟨h1, h2, h3⟩ := h
  simp [State.canTake, State.headCommand, h2, h3, Config.throttle, h1]

/-- The head entry is taken by the row it spells. -/
theorem exec_of_takes {s : State} {c : Instr} {e : CmdEntry} (h : TakesCommand s c e) : exec c s = .next (s.takeHead c) :=
  exec_takeHead (h.2.2 ▸ commandEntry_entryCommand e) s

theorem takeCommand_of_takes {s : State} {c : Instr} {e : CmdEntry} (h : TakesCommand s c e) (run : State → State) :
    s.takeCommand c run = run s.popCommand := by
  unfold State.takeCommand
  rw [if_pos (canTake_of_takes h)]

/-- P0 of the command being taken (R163). -/
theorem takenP0_of_takes {s : State} {c : Instr} {e : CmdEntry} (h : TakesCommand s c e) : s.takenP0 = e.p0 := by
  obtain ⟨-, h2, -⟩ := h
  unfold State.takenP0
  cases hq : s.cmdQueue with
  | nil => rw [hq] at h2; cases h2
  | cons x l => rw [hq] at h2; cases h2; rfl

/-- The slot field of a RESULT (R175). -/
def namedSlot : Option SlotId → BitVec 4
  | some i => slotField i
  | none => 15

/-- The slot field of a slot command's RESULT is P0, or 15 above 7 (R165, R175). -/
theorem namedSlot_slotOf (p0 : Half) : namedSlot (slotOf p0) = if p0.toNat ≤ 7 then p0.setWidth 4 else 15 := by
  unfold slotOf
  by_cases h : p0.toNat < 8
  · rw [dif_pos h, if_pos (by omega)]
    apply BitVec.eq_of_toNat_eq
    simp [namedSlot, slotField]
  · rw [dif_neg h, if_neg (by omega)]; rfl

theorem result_eq_append (s : State) (code : Nat) (named : Option SlotId) (res : ResultCode) (p0 : Half) :
    s.result code named res p0 = s.append ⟨.result, namedSlot named, half code, half (resultCode res), p0⟩ := by
  cases named <;> rfl

/-- A RESULT appended with room, as the record of the entry (R164, R175). -/
theorem result_eq_taken {s : State} {c : Instr} {e : CmdEntry} (h : TakesCommand s c e) {code : Nat} {named : Option SlotId} {res : ResultCode}
    {p0 : Half} (hn : namedSlot named = resultSlot e) (hc : half code = e.code) (hr : res = expectedResult s c) (hp : p0 = e.p0) :
    s.popCommand.result code named res p0 = taken s c e := by
  have hp0 : (if c = .restart then s.takenP0 else e.p0) = e.p0 := by rw [takenP0_of_takes h]; exact ite_self _
  have hrec : (⟨.result, namedSlot named, half code, half (resultCode res), p0⟩ : Report) = resultRecord s c e := by
    unfold resultRecord
    rw [hn, hc, hr, hp, hp0]
    rfl
  rw [result_eq_append, hrec, append_of_room (show s.popCommand.reports.length < 31 from h.1.trans (by decide))]
  rfl

/-- The result a slot command is taken with (R164, R165). -/
theorem slotCommand_refused (u : State) (code : Nat) (p0 : Half) (check : SlotId → ResultCode) (act : SlotId → State → State)
    (h : slotResult p0 check ≠ .ok) : u.slotCommand code p0 check act = u.result code (slotOf p0) (slotResult p0 check) p0 := by
  unfold State.slotCommand
  unfold slotResult at h ⊢
  cases hs : slotOf p0 with
  | none => rfl
  | some i =>
    rw [hs] at h
    exact if_neg h

theorem ite_inRange (lo hi : Nat) (v : Half) : (if inRange lo hi v = true then ResultCode.ok else .badValue) = rangeResult lo hi v := by
  simp [rangeResult, inRange]

/-- The check of a cap write by the table of R44. -/
theorem checkCap_eq (s : State) (v : Half) (i : SlotId) : s.checkCap v i =
    if rangeResult 1 1023 v = .ok ∧ (s.slot i).state = .active ∧ (s.slot i).card.any (fun c => decide (v.toNat < c.draw 0)) = true
    then .badState else rangeResult 1 1023 v := by
  unfold State.checkCap
  rw [← ite_inRange]
  cases inRange 1 1023 v with
  | false => simp
  | true =>
    by_cases ha : (s.slot i).state = .active
    · cases (s.slot i).card <;> simp [ha]
    · simp [ha]

/-- The check of the host RECLAIM by the table of R166. -/
theorem checkReclaim_eq (s : State) (step : Half) (i : SlotId) : s.checkReclaim step i =
    match (s.slot i).state, (s.slot i).card with
    | .active, some c => if step.toNat < c.held then .ok else .badValue
    | _, _ => .badState := by
  unfold State.checkReclaim
  cases (s.slot i).state
  case active =>
    cases (s.slot i).card with
    | none => rfl
    | some c =>
      by_cases h : step.toNat < c.held
      · simp [h]
      · simp [h, Nat.not_lt.mp h]
  all_goals simp

/-- The check of SET_RESERVE by section 1.5. -/
theorem checkReserve_eq (s : State) (amount force : Half) : s.checkReserve amount force = expectedResult s (.setReserve amount force) := by
  unfold State.checkReserve expectedResult
  simp only [Config.maxBudget]
  by_cases h1 : 4095 < amount.toNat
  · simp [h1]
  · by_cases h2 : 1 < force.toNat
    · simp [h2]
    · by_cases h3 : amount.toNat ≤ s.reserve
      · simp [h1, h2, h3]
      · simp [h1, h2, h3]

/-- The slot commands: code, P0, check and effect of a row whose RESULT names a slot (R165). -/
theorem runSlotRow_refused {s : State} {c : Instr} {e : CmdEntry} (h : TakesCommand s c e) {code : Nat} {check : SlotId → ResultCode}
    {act : SlotId → State → State} (hc : e.code.toNat = code) (h1 : 1 ≤ code) (h6 : code ≤ 6)
    (hx : expectedResult s c = slotResult e.p0 check) (hn : expectedResult s c ≠ .ok) :
    s.popCommand.slotCommand code e.p0 check act = taken s c e := by
  rw [slotCommand_refused _ _ _ _ _ (hx ▸ hn)]
  refine result_eq_taken h ?_ (BitVec.eq_of_toNat_eq ?_) hx.symm rfl
  · rw [namedSlot_slotOf]
    unfold resultSlot
    simp only [hc, h1, h6, true_and]
  · rw [half, BitVec.toNat_ofNat, hc]; omega

/-- A command that names no slot: its RESULT carries 15 (R175). -/
theorem result_none_eq_taken {s : State} {c : Instr} {e : CmdEntry} (h : TakesCommand s c e) {code : Nat} (hc : e.code.toNat = code)
    (h6 : ¬ (1 ≤ code ∧ code ≤ 6)) {res : ResultCode} (hr : res = expectedResult s c) :
    s.popCommand.result code none res e.p0 = taken s c e := by
  refine result_eq_taken h ?_ (BitVec.eq_of_toNat_eq ?_) hr rfl
  · unfold resultSlot namedSlot
    rw [hc, if_neg (fun hh => h6 ⟨hh.1, hh.2.1⟩)]
  · rw [half, BitVec.toNat_ofNat, ← hc]; exact Nat.mod_eq_of_lt e.code.isLt

/-- The codes of the rows (12.2). -/
theorem entryCommand_code {c : Instr} {e : CmdEntry} (h : entryCommand e = c) :
    ∃ e', commandEntry c = some e' ∧ e'.code = e.code ∧ (c = .restart ∨ e'.p0 = e.p0) := by
  subst h
  unfold entryCommand
  split <;> rename_i h <;> (try (split)) <;>
    first
    | exact ⟨_, rfl, rfl, .inr rfl⟩
    | exact ⟨_, rfl, BitVec.eq_of_toNat_eq h.symm, .inr rfl⟩
    | exact ⟨_, rfl, BitVec.eq_of_toNat_eq h.symm, .inl rfl⟩

/-- A code that names no command is none of the slot commands' codes (R165). -/
theorem entryCommand_unknown {e : CmdEntry} {code p0 : Half} (h : entryCommand e = .unknownCommandCode code p0) :
    ¬ (1 ≤ e.code.toNat ∧ e.code.toNat ≤ 6) := by
  rintro ⟨h1, h6⟩
  have hcases : e.code.toNat = 1 ∨ e.code.toNat = 2 ∨ e.code.toNat = 3 ∨ e.code.toNat = 4 ∨ e.code.toNat = 5 ∨ e.code.toNat = 6 := by omega
  rcases hcases with hc | hc | hc | hc | hc | hc <;> simp only [entryCommand, hc] at h
  · split at h <;> cases h
  all_goals cases h

/-- A refused row of the Command Unit answers its RESULT and nothing else (R164, R165). -/
theorem takeHead_refused {s : State} {c : Instr} {e : CmdEntry} (h : TakesCommand s c e) (hn : expectedResult s c ≠ .ok) :
    s.takeHead c = taken s c e := by
  obtain ⟨e', h1, h2, h3⟩ := entryCommand_code h.2.2
  refine (takeCommand_of_takes h _).trans ?_
  have slotRow {code : Nat} {check : SlotId → ResultCode} {act : SlotId → State → State} (hc : e.code.toNat = code) (hl : 1 ≤ code)
      (hu : code ≤ 6) (hx : expectedResult s c = slotResult e.p0 check) := runSlotRow_refused (act := act) h hc hl hu hx hn
  have configRow {inside : Bool} {act : SlotId → State → State} (hc : e.code.toNat = 1)
      (hx : expectedResult s c = slotResult e.p0 (fun _ => if inside then .ok else .badValue)) :
      s.popCommand.configCommand e.p0 inside act = taken s c e := slotRow hc le_rfl (by decide) hx
  have hcode : e.code.toNat = e'.code.toNat := by rw [h2]
  cases c with
  | slotConfigEnabled p0 v => cases h1; obtain rfl : p0 = e.p0 := h3.resolve_left nofun; exact configRow hcode (by rw [ite_inRange]; rfl)
  | slotConfigClass p0 v => cases h1; obtain rfl : p0 = e.p0 := h3.resolve_left nofun; exact configRow hcode (by rw [ite_inRange]; rfl)
  | slotConfigCap p0 v =>
    cases h1; obtain rfl : p0 = e.p0 := h3.resolve_left nofun
    exact slotRow hcode le_rfl (by decide) (congrArg (slotResult _) (funext fun i => (checkCap_eq s v i).symm))
  | slotConfigAdmissionCharge p0 v => cases h1; obtain rfl : p0 = e.p0 := h3.resolve_left nofun; exact configRow hcode (by rw [ite_inRange]; rfl)
  | slotConfigLease p0 v => cases h1; obtain rfl : p0 = e.p0 := h3.resolve_left nofun; exact configRow hcode (by rw [ite_inRange]; rfl)
  | slotConfigSettle p0 v => cases h1; obtain rfl : p0 = e.p0 := h3.resolve_left nofun; exact configRow hcode (by rw [ite_inRange]; rfl)
  | slotConfigDischarge p0 v => cases h1; obtain rfl : p0 = e.p0 := h3.resolve_left nofun; exact configRow hcode (by rw [ite_inRange]; rfl)
  | slotConfigHelloTimeout p0 v => cases h1; obtain rfl : p0 = e.p0 := h3.resolve_left nofun; exact configRow hcode (by rw [ite_inRange]; rfl)
  | slotConfigReplyWindow p0 v => cases h1; obtain rfl : p0 = e.p0 := h3.resolve_left nofun; exact configRow hcode (by rw [ite_inRange]; rfl)
  | slotConfigReclaimWindow p0 v => cases h1; obtain rfl : p0 = e.p0 := h3.resolve_left nofun; exact configRow hcode (by rw [ite_inRange]; rfl)
  | slotConfigFloorOverride p0 v =>
    cases h1; obtain rfl : p0 = e.p0 := h3.resolve_left nofun
    exact configRow hcode (by simp [expectedResult, overrideOk])
  | slotConfigUnknownField p0 f v => cases h1; obtain rfl : p0 = e.p0 := h3.resolve_left nofun; exact configRow hcode rfl
  | enable p0 => cases h1; obtain rfl : p0 = e.p0 := h3.resolve_left nofun; exact slotRow hcode (by decide) (by decide) rfl
  | disable p0 => cases h1; obtain rfl : p0 = e.p0 := h3.resolve_left nofun; exact slotRow hcode (by decide) (by decide) rfl
  | restore p0 => cases h1; obtain rfl : p0 = e.p0 := h3.resolve_left nofun; exact slotRow hcode (by decide) (by decide) rfl
  | reclaim p0 g =>
    cases h1; obtain rfl : p0 = e.p0 := h3.resolve_left nofun
    exact slotRow hcode (by decide) (by decide) (congrArg (slotResult _) (funext fun i => (checkReclaim_eq s g i).symm))
  | dropWait p0 => cases h1; obtain rfl : p0 = e.p0 := h3.resolve_left nofun; exact slotRow hcode (by decide) (by decide) rfl
  | setProfile index n =>
    cases h1; obtain rfl : index = e.p0 := h3.resolve_left nofun
    have hx : ¬ (e.p0.toNat < 4 ∧ n.toNat ≤ 4095) := fun hh => hn (if_pos ⟨by omega, hh.2⟩)
    have hres : ResultCode.badValue = expectedResult s (.setProfile e.p0 n) := (if_neg fun hh => hx ⟨by omega, hh.2⟩).symm
    have hr := result_none_eq_taken h (code := 7) hcode (by decide) hres
    show s.popCommand.runSetProfile e.p0 n = _
    unfold State.runSetProfile
    split
    · exact (if_neg fun hc => hx ⟨‹_›, hc⟩).trans hr
    · exact hr
  | setReserve amount force =>
    cases h1; obtain rfl : amount = e.p0 := h3.resolve_left nofun
    have hx : s.popCommand.checkReserve e.p0 force = expectedResult s (.setReserve e.p0 force) := checkReserve_eq s.popCommand e.p0 force
    have hr := result_none_eq_taken h (code := 8) hcode (by decide) hx
    show s.popCommand.runSetReserve e.p0 force = _
    unfold State.runSetReserve
    dsimp only
    rw [if_neg (hx ▸ hn)]; exact hr
  | setPolicy mode limit preempt =>
    cases h1; obtain rfl : mode = e.p0 := h3.resolve_left nofun
    have hx : policyOk e.p0 limit preempt = false := by
      by_contra hc
      simp only [Bool.not_eq_false, policyOk, Bool.and_eq_true, inRange_iff] at hc
      exact hn (if_pos ⟨hc.1.1.2, hc.1.2.1, hc.1.2.2, hc.2.2⟩)
    have hres : ResultCode.badValue = expectedResult s (.setPolicy e.p0 limit preempt) := by
      refine (if_neg fun hh => ?_).symm
      simp only [Bool.eq_false_iff, policyOk, ne_eq, Bool.and_eq_true, inRange_iff] at hx
      exact hx ⟨⟨⟨Nat.zero_le _, hh.1⟩, hh.2.1, hh.2.2.1⟩, Nat.zero_le _, hh.2.2.2⟩
    have hr := result_none_eq_taken h (code := 9) hcode (by decide) hres
    show s.popCommand.runSetPolicy e.p0 limit preempt = _
    unfold State.runSetPolicy
    rw [hx]; exact hr
  | unknownCommandCode code p0 =>
    cases h1; obtain rfl : p0 = e.p0 := h3.resolve_left nofun
    exact result_none_eq_taken h hcode (hcode ▸ entryCommand_unknown h.2.2) rfl
  | restart => exact absurd rfl hn
  | _ => cases h1

/-- Settles O52: every row by its own check. -/
theorem refusedCommandLeavesOnlyItsResult : Obligations.RefusedCommandLeavesOnlyItsResult := fun _ _ _ h hn => by
  rw [exec_of_takes h, takeHead_refused h hn]

end Sys2Proof.Proofs
end

/-! The form of a Link Engine, and that each of its operations keeps it (R47, R48, R49, R59, R60, R63, R67). -/
section
namespace Sys2Proof.Proofs

open Machine Safety

/-- The form of a link but for what a free transmitter has still to begin. -/
structure LinkPre (on : Bool) (l : Link) : Prop where
  power : l.asm ≠ .off ↔ on = true
  queue : queueFits l.queue = true
  off : offIsEmpty l = true
  assembler : assemblerFits l = true
  outstanding : outstandingFits l = true

/-- The form of a link that is on or off (R47). -/
structure LinkOk (on : Bool) (l : Link) : Prop extends LinkPre on l where
  idle : idleIsDone l = true

/-! Queues. -/

theorem queueFits_iff (q : List Message) : queueFits q = true ↔
    q.length ≤ 4 ∧ (q.filter Message.isReclaim).length ≤ 1 ∧ (q.filter Message.isAward).length ≤ 1 := by
  simp [queueFits, and_assoc]

/-- Every message is a RECLAIM, an AWARD or a NOTICE. -/
theorem length_by_kind (q : List Message) :
    q.length = (q.filter Message.isReclaim).length + (q.filter Message.isAward).length + (q.filter Message.isNotice).length := by
  induction q with
  | nil => rfl
  | cons m q ih => cases m <;> simp only [List.filter_cons, Message.isReclaim, Message.isAward, Message.isNotice, if_true, List.length_cons,
      Bool.false_eq_true, if_false] <;> omega

/-- Taking messages out keeps the form of a queue. -/
theorem queueFits_sublist {p q : List Message} (h : p.Sublist q) (hq : queueFits q = true) : queueFits p = true := by
  rw [queueFits_iff] at *
  exact ⟨h.length_le.trans hq.1, (h.filter _).length_le.trans hq.2.1, (h.filter _).length_le.trans hq.2.2⟩

/-- A message joins the tail of a queue that holds none of its kind, or is a NOTICE (R64, R65, R66). -/
theorem queueFits_joinTail {m : Message} {q : List Message} (hq : queueFits q = true)
    (hr : m.isReclaim = true → q.any Message.isReclaim = false) (ha : m.isAward = true → q.any Message.isAward = false) :
    queueFits (joinTail m q) = true := by
  have none_of (p : Message → Bool) (h : q.any p = false) : q.filter p = [] := by
    rw [List.filter_eq_nil_iff]
    exact fun x hx => List.any_eq_false.mp h x hx
  have hl := length_by_kind q
  obtain ⟨p, hp, hs, hlen⟩ : ∃ p, joinTail m q = p ++ [m] ∧ p.Sublist q ∧ p.length ≤ 3 := by
    unfold joinTail
    split
    · exact ⟨q, rfl, List.Sublist.refl _, by simp only [Config.txQueueSize] at *; omega⟩
    · refine ⟨_, rfl, List.eraseP_sublist, ?_⟩
      rw [queueFits_iff] at hq
      simp only [Config.txQueueSize] at *
      have hn : 0 < (q.filter Message.isNotice).length := by omega
      obtain ⟨x, hx⟩ := List.exists_mem_of_length_pos hn
      obtain ⟨hx, hxn⟩ := List.mem_filter.mp hx
      rw [List.length_eraseP_of_mem hx hxn]
      omega
  rw [hp, queueFits_iff]
  have hp4 := (queueFits_iff p).mp (queueFits_sublist hs hq)
  have kind (f : Message → Bool) (hf : f m = true → q.any f = false) (h1 : (p.filter f).length ≤ 1) : ((p ++ [m]).filter f).length ≤ 1 := by
    rw [List.filter_append, List.length_append]
    cases hm : f m with
    | false => simpa [hm] using h1
    | true =>
      have h0 : (p.filter f) = [] := by
        have := (hs.filter f)
        rw [none_of f (hf hm)] at this
        exact List.sublist_nil.mp this
      simp [h0, hm]
  exact ⟨by rw [List.length_append, List.length_singleton]; omega, kind _ hr hp4.2.1, kind _ ha hp4.2.2⟩

/-- Replacing a message by one of its kind keeps every count. -/
theorem filter_map_same (same f : Message → Bool) (m : Message) (hf : ∀ x, same x = true → f x = f m) (q : List Message) :
    ((q.map (fun x => if same x then m else x)).filter f).length = (q.filter f).length := by
  induction q with
  | nil => rfl
  | cons x q ih =>
    by_cases hx : same x = true
    · have := hf x hx
      cases hm : f m <;> simp_all
    · cases hfx : f x <;> simp_all

/-- A RECLAIM or an AWARD replaces the one that is queued, or joins the tail (R64, R65). -/
theorem queueFits_replaceOrJoin {same : Message → Bool} {m : Message} {q : List Message} (hq : queueFits q = true)
    (hr : ∀ x, same x = true → x.isReclaim = m.isReclaim) (ha : ∀ x, same x = true → x.isAward = m.isAward)
    (hsr : m.isReclaim = true → same = Message.isReclaim) (hsa : m.isAward = true → same = Message.isAward) :
    queueFits (replaceOrJoin same m q) = true := by
  unfold replaceOrJoin
  split
  · rw [queueFits_iff] at *
    rw [List.length_map, filter_map_same same _ m hr, filter_map_same same _ m ha]
    exact hq
  · rename_i hno
    exact queueFits_joinTail hq (fun h => by rw [← hsr h]; simpa using hno) (fun h => by rw [← hsa h]; simpa using hno)

theorem queueFits_placeReclaim {g w : Nat} {q : List Message} (hq : queueFits q = true) :
    queueFits (replaceOrJoin Message.isReclaim (.reclaim g w) q) = true :=
  queueFits_replaceOrJoin hq (fun _ h => h) (fun x h => by cases x <;> first | rfl | cases h) (fun _ => rfl) (fun h => by cases h)

theorem queueFits_placeAward {g w : Nat} {q : List Message} (hq : queueFits q = true) :
    queueFits (replaceOrJoin Message.isAward (.award g w) q) = true :=
  queueFits_replaceOrJoin hq (fun x h => by cases x <;> first | rfl | cases h) (fun _ h => h) (fun h => by cases h) (fun _ => rfl)

/-! Links. -/

theorem offIsEmpty_of_on {l : Link} (h : l.asm ≠ .off) : offIsEmpty l = true := by simp [offIsEmpty, h]

theorem offIsEmpty_off {l : Link} (h : offIsEmpty l = true) (ho : l.asm = .off) :
    l.gap = none ∧ l.replySlot = none ∧ l.outstanding = none ∧ l.queue = [] ∧ l.tx = .idle := by
  simpa [offIsEmpty, ho, and_assoc] using h

theorem idleIsDone_of_busy {l : Link} (h : l.tx ≠ .idle) : idleIsDone l = true := by simp [idleIsDone, h]

namespace LinkPre

variable {on : Bool} {l : Link}

/-- Part of a link that its assembler does not read may change while the link is on. -/
theorem of_on (h : LinkPre true l) {m : Link} (ha : m.asm = l.asm) (hg : m.gap = l.gap) (hq : queueFits m.queue = true)
    (ho : outstandingFits m = true) : LinkPre true m where
  power := by rw [ha]; exact h.power
  queue := hq
  off := offIsEmpty_of_on (by rw [ha]; exact h.power.mpr rfl)
  assembler := by unfold assemblerFits; rw [ha, hg]; exact h.assembler
  outstanding := ho

/-- A transmitter that begins what it can has nothing left to begin (R67). -/
theorem pump (h : LinkPre on l) : LinkOk on l.pump := by
  unfold Link.pump
  split
  · rename_i hc
    refine ⟨h, ?_⟩
    by_cases ha : l.asm = .off
    · obtain ⟨-, h2, h3, h4, -⟩ := offIsEmpty_off h.off ha
      simp [idleIsDone, h2, h3, h4]
    · simp only [ha, decide_false, Bool.false_or, decide_eq_true_eq] at hc
      exact idleIsDone_of_busy hc
  · rename_i hc
    simp only [Bool.or_eq_true, decide_eq_true_eq, not_or, not_not] at hc
    obtain ⟨hon, htx⟩ := hc
    obtain rfl : on = true := h.power.mp hon
    have ho := h.outstanding
    unfold outstandingFits at ho
    split
    · refine ⟨h.of_on rfl rfl h.queue ?_, idleIsDone_of_busy (by simp)⟩
      unfold outstandingFits
      cases hout : l.outstanding <;> simp_all
    · rename_i hr
      split
      · rename_i o hout
        split
        · refine ⟨h.of_on rfl rfl h.queue ?_, idleIsDone_of_busy (by simp)⟩
          simp_all [outstandingFits]
        · exact ⟨h, by simp_all [idleIsDone]⟩
      · rename_i hout
        split
        · exact ⟨h, by simp_all [idleIsDone]⟩
        · rename_i m rest hq
          have hsub : queueFits rest = true := queueFits_sublist (by rw [hq]; exact List.sublist_cons_self _ _) h.queue
          exact ⟨h.of_on rfl rfl hsub (by simp [outstandingFits]), idleIsDone_of_busy (by simp)⟩

end LinkPre

namespace LinkOk

variable {on : Bool} {l : Link}

theorem placeReply (h : LinkOk true l) (tag : BitVec 3) (r : Reply) : LinkOk true (Link.placeReply tag r l) :=
  (h.of_on (m := { l with replySlot := some (tag, r) }) rfl rfl h.queue h.outstanding).pump

theorem answer (h : LinkOk true l) (k : LinkKind) (tag : BitVec 3) (r : Reply) : LinkOk true (Link.answer k tag r l) :=
  (h.of_on (m := { l with
      cache := some { kind := k, tag := tag, reply := r }, undeclared := noteUndeclared k tag r l.undeclared
      replySlot := some (tag, r) }) rfl rfl h.queue h.outstanding).pump

theorem placeReclaim (h : LinkOk true l) (g w : Nat) : LinkOk true (Link.placeReclaim g w l) :=
  (h.of_on (m := { l with queue := replaceOrJoin Message.isReclaim (.reclaim g w) l.queue }) rfl rfl (queueFits_placeReclaim h.queue) h.outstanding).pump

theorem placeAward (h : LinkOk true l) (g w : Nat) : LinkOk true (Link.placeAward g w l) :=
  (h.of_on (m := { l with queue := replaceOrJoin Message.isAward (.award g w) l.queue }) rfl rfl (queueFits_placeAward h.queue) h.outstanding).pump

theorem placeNotice (h : LinkOk true l) (k : NoticeKind) (v : Nat) : LinkOk true (Link.placeNotice k v l) :=
  (h.of_on (m := { l with queue := joinTail (.notice k v) l.queue }) rfl rfl (queueFits_joinTail h.queue (fun h => by cases h) (fun h => by cases h)) h.outstanding).pump

/-- Taking RECLAIM out of the queue (R64). -/
theorem dropReclaim (h : LinkOk on l) : LinkOk on l.dropReclaim := by
  have hsub : queueFits l.dropReclaim.queue = true := queueFits_sublist List.filter_sublist h.queue
  refine ⟨⟨h.power, hsub, ?_, h.assembler, h.outstanding⟩, ?_⟩
  · by_cases ha : l.asm = .off
    · obtain ⟨h1, h2, h3, h4, h5⟩ := offIsEmpty_off h.off ha
      simp [offIsEmpty, Link.dropReclaim, h1, h2, h3, h4, h5]
    · exact offIsEmpty_of_on ha
  · have hi := h.idle
    unfold idleIsDone at hi ⊢
    simp only [Link.dropReclaim]
    cases htx : decide (l.tx ≠ .idle) <;> cases hr : l.replySlot <;> cases ho : l.outstanding <;> simp_all

/-- The link goes back to HUNT, or stays off (R48, R49). -/
theorem rehunt (h : LinkOk on l) : LinkOk on l.rehunt := by
  unfold Link.rehunt
  split
  · exact h
  · rename_i ha
    exact ⟨⟨⟨fun _ => h.power.mp ha, fun _ => nofun⟩, h.queue, offIsEmpty_of_on nofun, rfl, h.outstanding⟩, h.idle⟩

/-- An acknowledged message is no longer outstanding (R61). -/
theorem acknowledge (h : LinkOk on l) (q : Bool) : LinkOk on (Link.acknowledge q l) := by
  unfold Link.acknowledge
  split
  · rename_i o ho
    split
    · have ha : l.asm ≠ .off := fun ha => by rw [(offIsEmpty_off h.off ha).2.2.1] at ho; cases ho
      obtain rfl : on = true := h.power.mp ha
      exact (h.of_on (m := { l with outstanding := none }) rfl rfl h.queue rfl).pump
    · exact h
  · exact h

/-- The frame on LTX ends (R59, R60, R67). -/
theorem sent (h : LinkOk on l) (w : Nat) : LinkOk on (Link.sent w l) := by
  have busy (hx : l.tx ≠ .idle) : on = true :=
    h.power.mp fun ha => hx (offIsEmpty_off h.off ha).2.2.2.2
  have ho := h.outstanding
  unfold Link.sent
  split
  · exact h
  · rename_i tag r htx
    obtain rfl := busy (by simp [htx])
    refine (h.of_on (m := { l with tx := .idle }) rfl rfl h.queue ?_).pump
    unfold outstandingFits at ho ⊢
    cases hout : l.outstanding <;> simp_all
  · rename_i m q htx
    obtain rfl := busy (by simp [htx])
    refine (h.of_on (m := { l with tx := .idle, outstanding := l.outstanding.map (fun o => { o with window := Timer.start w }) })
      rfl rfl h.queue ?_).pump
    unfold outstandingFits at ho ⊢
    cases hout : l.outstanding <;> simp_all [Timer.start]

/-- A retransmission becomes due (R60). -/
theorem retry (h : LinkOk on l) {o : Outstanding} (ho : l.outstanding = some o) (hw : o.window.isSome = true) (hr : o.retries < 3) :
    LinkOk on (Link.retry o l) := by
  have ha : l.asm ≠ .off := fun ha => by rw [(offIsEmpty_off h.off ha).2.2.1] at ho; cases ho
  obtain rfl : on = true := h.power.mp ha
  have hf := h.outstanding
  refine (h.of_on (m := { l with outstanding := some { o with retries := o.retries + 1, due := true, window := none } })
    rfl rfl h.queue ?_).pump
  unfold outstandingFits at hf ⊢
  rw [ho] at hf
  cases htx : l.tx <;> simp_all [Config.maxRetries]

/-- A link that is switched off at a cut (R68). -/
theorem flush (l : Link) : LinkOk false l.flush :=
  ⟨⟨by simp [Link.flush], rfl, rfl, rfl, rfl⟩, rfl⟩

/-- A link that is switched on (R28, R48). -/
theorem switchOn (l : Link) : LinkOk true l.switchOn :=
  ⟨⟨by simp [Link.switchOn], rfl, rfl, rfl, rfl⟩, rfl⟩

/-- The cache and the requests refused before the declaration are of no consequence to the form. -/
theorem forget (h : LinkOk on l) (c : Option CacheRecord) (u : List (LinkKind × BitVec 3)) :
    LinkOk on { l with cache := c, undeclared := u } :=
  ⟨⟨h.power, h.queue, h.off, h.assembler, h.outstanding⟩, h.idle⟩

/-- A byte passes through the assembler (R48, R49). -/
theorem afterByte (h : LinkOk on l) (b : Byte) : LinkOk on (Link.afterByte (receiveByte l.asm b).1 l) := by
  have hoff : (receiveByte l.asm b).1 = .off ↔ l.asm = .off := by
    unfold receiveByte
    cases l.asm <;> dsimp only <;> (try split) <;> simp
  have hbody : ∀ len bytes, (receiveByte l.asm b).1 = .body len bytes → len ≤ Config.maxLen ∧ bytes.length < len + 3 := by
    intro len bytes hb
    have ha := h.assembler
    unfold receiveByte at hb
    unfold assemblerFits at ha
    cases hasm : l.asm with
    | off => simp [hasm] at hb
    | hunt => rw [hasm] at hb; dsimp only at hb; split at hb <;> cases hb
    | length =>
      rw [hasm] at hb; dsimp only at hb
      split at hb
      · cases hb
      · cases hb; exact ⟨Nat.not_lt.mp ‹_›, by simp⟩
    | body n l' =>
      rw [hasm] at hb ha; dsimp only at hb
      split at hb
      · rename_i hl
        cases hb
        simp only [Bool.and_eq_true, decide_eq_true_eq] at ha
        exact ⟨ha.2.1, hl⟩
      · cases hb
  generalize hr : (receiveByte l.asm b).1 = a at hoff hbody
  have hasm : (Link.afterByte a l).asm = a := rfl
  refine ⟨⟨?_, h.queue, ?_, ?_, h.outstanding⟩, h.idle⟩
  · rw [hasm, ← h.power]; exact not_congr hoff
  · by_cases ha : a = .off
    · obtain ⟨h1, h2, h3, h4, h5⟩ := offIsEmpty_off h.off (hoff.mp ha)
      simp [offIsEmpty, Link.afterByte, ha, h2, h3, h4, h5, Assembler.busy]
    · exact offIsEmpty_of_on (by rw [hasm]; exact ha)
  · unfold assemblerFits
    cases a with
    | body len bytes =>
      obtain ⟨h1, h2⟩ := hbody len bytes rfl
      simp [Link.afterByte, Assembler.busy, Timer.start, h1, h2]
    | _ => simp [Link.afterByte, Assembler.busy, Timer.start]

/-- A tick counts the timers of a link (R1, R49). -/
theorem tick (h : LinkOk on l) (ended underWay : Bool) : LinkOk on (l.tick ended underWay) := by
  have hw : ∀ t : Timer, (t.tick).isSome = t.isSome := fun t => by cases t <;> rfl
  refine ⟨⟨h.power, h.queue, ?_, ?_, ?_⟩, ?_⟩
  · by_cases ha : l.asm = .off
    · obtain ⟨h1, h2, h3, h4, h5⟩ := offIsEmpty_off h.off ha
      simp [offIsEmpty, Link.tick, ha, h1, h2, h3, h4, h5, Assembler.busy, Timer.tick]
    · exact offIsEmpty_of_on ha
  · have hg : (l.tick ended underWay).gap.isSome = l.gap.isSome := by
      have ha := h.assembler
      unfold assemblerFits at ha
      simp only [Bool.and_eq_true, beq_iff_eq] at ha
      unfold Link.tick gapAtTick
      dsimp only
      cases hb : l.asm.busy with
      | false => exact hw _
      | true =>
        cases underWay
        · cases ended
          · exact hw _
          · rw [ha.1, hb]; rfl
        · rw [ha.1, hb]; rfl
    have ha := h.assembler
    unfold assemblerFits at ha ⊢
    rw [hg]; exact ha
  · have ho := h.outstanding
    unfold outstandingFits at ho ⊢
    simp only [Link.tick]
    cases hout : l.outstanding with
    | none => rfl
    | some o =>
      rw [hout] at ho
      cases htx : l.tx <;> cases hwin : o.window <;> simp_all [Timer.tick]
  · have : idleIsDone (l.tick ended underWay) = idleIsDone l := by
      unfold idleIsDone Link.tick
      cases l.outstanding <;> rfl
    rw [this]; exact h.idle

end LinkOk

end Sys2Proof.Proofs
end

/-! The form of one slot, by its state (R2, R3, R20, R22, R31, R34, R39, R47, R97, R123, R140). -/
section
namespace Sys2Proof.Proofs

open Machine Safety

/-- The link is on in LISTENING and ACTIVE (R47). -/
def linkOn (st : SlotState) : Bool := decide (st = .listening) || decide (st = .active)

/-- What the block's invariant asks of slot i by itself, at frame counter n. -/
structure SlotOk (n : Nat) (i : SlotId) (t : Slot) : Prop where
  cfg : configFits t.cfg = true
  fits : slotFits t = true
  charge : chargeFits t = true
  link : LinkOk (linkOn t.state) t.link
  run : t.run = runAt n i t

/-- What a slot outside ACTIVE does not hold. -/
structure Inactive (t : Slot) : Prop where
  cfg : configFits t.cfg = true
  reclaim : t.reclaim = none
  curWidth : t.curWidth = none
  pendWidth : t.pendWidth = none
  lease : t.lease = none
  run : t.run = false

/-- What a slot outside CUTTING does not hold. -/
structure Uncut (t : Slot) : Prop where
  cutReason : t.cutReason = none
  destEmpty : t.destEmpty = false
  discharge : t.discharge = none

/-- A slot that draws nothing: EMPTY, DISABLED, LOCKED or ADMITTING. -/
structure Unpowered (t : Slot) : Prop extends Inactive t, Uncut t where
  charge : t.charge = 0
  card : t.card = none
  settle : t.settle = none
  hello : t.hello = none
  swen : t.swen = false
  link : LinkOk false t.link

/-- A powered slot has a card seated and is enabled, with its switch closed. -/
structure Supplied (t : Slot) : Prop extends Uncut t where
  swen : t.swen = true
  pres : t.pres.value = true
  enabled : t.enabled = true

/-- A slot in SETTLING. -/
structure Settling (t : Slot) : Prop extends Inactive t, Supplied t where
  lo : 1 ≤ t.charge
  hi : t.charge ≤ 255
  card : t.card = none
  settle : t.settle.isSome = true
  hello : t.hello = none
  link : LinkOk false t.link

/-- A slot in LISTENING. -/
structure Listening (t : Slot) : Prop extends Inactive t, Supplied t where
  lo : 1 ≤ t.charge
  hi : t.charge ≤ 255
  card : t.card = none
  settle : t.settle = none
  hello : t.hello.isSome = true
  link : LinkOk true t.link

/-- A slot in CUTTING. -/
structure Cutting (t : Slot) : Prop extends Inactive t where
  lo : 1 ≤ t.charge
  hi : t.charge ≤ 1023
  card : ∀ c, t.card = some c → cardFits c = true
  cutReason : t.cutReason.isSome = true
  discharge : t.discharge.isSome = true
  settle : t.settle = none
  hello : t.hello = none
  swen : t.swen = false
  link : LinkOk false t.link

/-- What the reclaim record of an ACTIVE slot asks of charge and widths (R123). -/
def reclaimOk (t : Slot) (c : Card) : Prop :=
  match t.reclaim with
  | none => t.charge = c.heldDraw ∧ t.curWidth = none ∧ t.pendWidth = none
  | some r => reclaimFits t c r = true

/-- A slot in ACTIVE with its step table. -/
structure Active (n : Nat) (i : SlotId) (t : Slot) (c : Card) : Prop extends Supplied t where
  cfg : configFits t.cfg = true
  card : t.card = some c
  shape : cardFits c = true
  current : cardCurrent t.cfg c = true
  reclaim : reclaimOk t c
  lease : t.lease.isSome = true → 0 < c.held
  settle : t.settle = none
  hello : t.hello = none
  run : t.run = runAt n i t
  link : LinkOk true t.link

/-- The states of a slot that draws nothing. -/
def unpowered : SlotState → Bool
  | .empty | .disabled | .locked | .admitting => true
  | .settling | .listening | .active | .cutting => false

section
variable {n : Nat} {i : SlotId} {t : Slot}

theorem runAt_inactive (h : t.state ≠ .active) : runAt n i t = false := by simp [runAt_eq, h]

theorem slotOk_unpowered (h : unpowered t.state = true) : SlotOk n i t ↔
    Unpowered t ∧ t.pres.value = decide (t.state ≠ .empty) ∧ (t.state = .admitting → t.enabled = true) := by
  have hna : t.state ≠ .active := by rintro ha; simp [ha, unpowered] at h
  have hrun := runAt_inactive (n := n) (i := i) hna
  constructor
  · rintro ⟨hc, hf, hk, hl, hr⟩
    rw [hrun] at hr
    refine ⟨⟨⟨hc, ?_, ?_, ?_, ?_, hr⟩, ⟨?_, ?_, ?_⟩, ?_, ?_, ?_, ?_, ?_, ?_⟩, ?_, ?_⟩ <;>
      cases hst : t.state <;> cases hcard : t.card <;>
      simp_all [slotFits, chargeFits, unpowered, linkOn, Slot.powered, seated, mustBeEnabled, leaseFits]
  · rintro ⟨⟨⟨h1, h2, h3, h4, h5, h6⟩, ⟨h7, h8, h9⟩, h10, h11, h12, h13, h14, h15⟩, hp, he⟩
    refine ⟨h1, ?_, ?_, ?_, by rw [hrun]; exact h6⟩ <;>
      cases hst : t.state <;>
      simp_all [slotFits, chargeFits, unpowered, linkOn, Slot.powered, seated, mustBeEnabled, leaseFits]

theorem slotOk_settling (h : t.state = .settling) : SlotOk n i t ↔ Settling t := by
  have hrun := runAt_inactive (n := n) (i := i) (t := t) (by simp [h])
  have hlink : linkOn t.state = false := by rw [h]; rfl
  constructor
  · rintro ⟨hc, hf, hk, hl, hr⟩
    rw [hrun] at hr
    rw [hlink] at hl
    refine ⟨⟨hc, ?_, ?_, ?_, ?_, hr⟩, ⟨⟨?_, ?_, ?_⟩, ?_, ?_, ?_⟩, ?_, ?_, ?_, ?_, ?_, hl⟩ <;> cases hcard : t.card <;>
      simp_all [slotFits, chargeFits, Slot.powered, seated, mustBeEnabled, leaseFits]
  · rintro ⟨⟨h1, h2, h3, h4, h5, h6⟩, ⟨⟨h7, h8, h9⟩, h10, h11, h12⟩, h13, h14, h15, h16, h17, h18⟩
    refine ⟨h1, ?_, ?_, by rw [hlink]; exact h18, by rw [hrun]; exact h6⟩ <;>
      simp_all [slotFits, chargeFits, Slot.powered, seated, mustBeEnabled, leaseFits]

theorem slotOk_listening (h : t.state = .listening) : SlotOk n i t ↔ Listening t := by
  have hrun := runAt_inactive (n := n) (i := i) (t := t) (by simp [h])
  have hlink : linkOn t.state = true := by rw [h]; rfl
  constructor
  · rintro ⟨hc, hf, hk, hl, hr⟩
    rw [hrun] at hr
    rw [hlink] at hl
    refine ⟨⟨hc, ?_, ?_, ?_, ?_, hr⟩, ⟨⟨?_, ?_, ?_⟩, ?_, ?_, ?_⟩, ?_, ?_, ?_, ?_, ?_, hl⟩ <;> cases hcard : t.card <;>
      simp_all [slotFits, chargeFits, Slot.powered, seated, mustBeEnabled, leaseFits]
  · rintro ⟨⟨h1, h2, h3, h4, h5, h6⟩, ⟨⟨h7, h8, h9⟩, h10, h11, h12⟩, h13, h14, h15, h16, h17, h18⟩
    refine ⟨h1, ?_, ?_, by rw [hlink]; exact h18, by rw [hrun]; exact h6⟩ <;>
      simp_all [slotFits, chargeFits, Slot.powered, seated, mustBeEnabled, leaseFits]

theorem slotOk_cutting (h : t.state = .cutting) : SlotOk n i t ↔ Cutting t := by
  have hrun := runAt_inactive (n := n) (i := i) (t := t) (by simp [h])
  have hlink : linkOn t.state = false := by rw [h]; rfl
  constructor
  · rintro ⟨hc, hf, hk, hl, hr⟩
    rw [hrun] at hr
    rw [hlink] at hl
    refine ⟨⟨hc, ?_, ?_, ?_, ?_, hr⟩, ?_, ?_, ?_, ?_, ?_, ?_, ?_, ?_, hl⟩ <;> cases hcard : t.card <;>
      simp_all [slotFits, chargeFits, Slot.powered, seated, mustBeEnabled, leaseFits]
  · rintro ⟨⟨h1, h2, h3, h4, h5, h6⟩, h7, h8, h9, h10, h11, h12, h13, h14, h15⟩
    refine ⟨h1, ?_, ?_, by rw [hlink]; exact h15, by rw [hrun]; exact h6⟩ <;> cases hcard : t.card <;>
      simp_all [slotFits, chargeFits, Slot.powered, seated, mustBeEnabled, leaseFits]

theorem slotOk_active (h : t.state = .active) : SlotOk n i t ↔ ∃ c, Active n i t c := by
  have hlink : linkOn t.state = true := by rw [h]; rfl
  constructor
  · rintro ⟨hc, hf, hk, hl, hr⟩
    rw [hlink] at hl
    cases hcard : t.card with
    | none => simp [chargeFits, h, hcard] at hk
    | some c =>
      refine ⟨c, ⟨⟨?_, ?_, ?_⟩, ?_, ?_, ?_⟩, hc, hcard, ?_, ?_, ?_, ?_, ?_, ?_, hr, hl⟩ <;>
        simp_all [slotFits, chargeFits, Slot.powered, seated, mustBeEnabled, leaseFits, reclaimOk]
      · cases hrec : t.reclaim <;> simp_all
      · intro hlease
        cases hls : t.lease <;> simp_all
  · rintro ⟨c, ⟨⟨h7, h8, h9⟩, h10, h11, h12⟩, h13, h14, h15, h16, h17, h18, h19, h20, h21, h22⟩
    refine ⟨h13, ?_, ?_, by rw [hlink]; exact h22, h21⟩
    · cases hls : t.lease <;> simp_all [slotFits, Slot.powered, seated, mustBeEnabled, leaseFits]
    · unfold reclaimOk at h17
      simp only [chargeFits, h, h14, h16, Bool.true_and]
      cases hrec : t.reclaim <;> simp_all

end

end Sys2Proof.Proofs
end

/-! Step tables, paced widths and charges (R71, R77, R78, R133), and what the operations of a reclaim make of an ACTIVE slot. -/
section
namespace Sys2Proof.Proofs

open Machine Safety Laws

/-! Step tables. -/

/-- An accepted step table with its steps (R71, R77, R78). -/
structure CardShape (c : Card) : Prop where
  lo : 1 ≤ c.count
  hi : c.count ≤ 6
  first : 1 ≤ c.draw 0
  rises : ∀ k, k + 1 < c.count → c.draw k < c.draw (k + 1)
  floor : c.declaredFloor < c.count
  held : c.held < c.count
  effFloor : c.effFloor < c.count
  usableTop : c.usableTop < c.count

theorem cardFits_iff (c : Card) : cardFits c = true ↔ CardShape c := by
  simp only [cardFits, Bool.and_eq_true, decide_eq_true_eq, shapeOk_iff]
  constructor
  · rintro ⟨⟨⟨⟨h1, h2, h3, h4, h5⟩, h6⟩, h7⟩, h8⟩
    exact ⟨h1, h2, h3, h4, h5, h6, h7, h8⟩
  · rintro ⟨h1, h2, h3, h4, h5, h6, h7, h8⟩
    exact ⟨⟨⟨⟨h1, h2, h3, h4, h5⟩, h6⟩, h7⟩, h8⟩

theorem cardCurrent_iff (cfg : SlotConfig) (c : Card) : cardCurrent cfg c = true ↔
    c.usableTop = usableTopOf c.draws cfg.cap ∧ c.draw 0 ≤ cfg.cap ∧ c.effFloor = effectiveFloorOf cfg.floorOverride c.declaredFloor c.count
      ∧ c.heldDraw ≤ 1023 := by
  simp [cardCurrent, and_assoc]

namespace CardShape

variable {c : Card}

theorem draw_lt (h : CardShape c) {j k : Nat} (hjk : j < k) (hk : k < c.count) : c.draw j < c.draw k := by
  induction k with
  | zero => omega
  | succ k ih =>
    have hs := h.rises k hk
    by_cases hj : j = k
    · rw [hj]; exact hs
    · exact (ih (by omega) (by omega)).trans hs

theorem draw_le (h : CardShape c) {j k : Nat} (hjk : j ≤ k) (hk : k < c.count) : c.draw j ≤ c.draw k := by
  rcases Nat.lt_or_eq_of_le hjk with hlt | rfl
  · exact (h.draw_lt hlt hk).le
  · exact le_rfl

theorem draw_pos (h : CardShape c) {k : Nat} (hk : k < c.count) : 1 ≤ c.draw k := h.first.trans (h.draw_le (Nat.zero_le k) hk)

theorem setHeld (h : CardShape c) {k : Nat} (hk : k < c.count) : CardShape { c with held := k } :=
  ⟨h.lo, h.hi, h.first, h.rises, h.floor, hk, h.effFloor, h.usableTop⟩

/-- The usable top step is the highest step within the cap (R77). -/
theorem usableTopOf_spec (h : CardShape c) {cap : Nat} (h0 : c.draw 0 ≤ cap) : usableTopOf c.draws cap < c.count
    ∧ c.draw (usableTopOf c.draws cap) ≤ cap ∧ ∀ k, usableTopOf c.draws cap < k → k < c.count → cap < c.draw k := by
  have hlo := h.lo
  have hs := highest_spec (fun k => decide (c.draws.getD k 0 ≤ cap)) 0 (c.draws.length - 1)
  have hd : c.count = c.draws.length := rfl
  unfold usableTopOf
  cases hh : highest (fun k => decide (c.draws.getD k 0 ≤ cap)) 0 (c.draws.length - 1) with
  | none =>
    have := hs.2.mp hh 0 (le_refl 0) (Nat.zero_le _)
    rw [decide_eq_false_iff_not] at this
    exact absurd h0 this
  | some g =>
    obtain ⟨-, h2, h3, h4⟩ := (hs.1 g).mp hh
    simp only [decide_eq_true_eq, decide_eq_false_iff_not, Nat.not_le] at h3 h4
    exact ⟨by simp only [Option.getD_some]; omega, h3, fun k hk hc => h4 k hk (by omega)⟩

end CardShape

theorem effectiveFloorOf_lt {o : Option Nat} {d n : Nat} (h : d < n) : effectiveFloorOf o d n < n := by
  unfold effectiveFloorOf
  split
  · exact h
  · split <;> omega

/-! Paced widths and charges (R133). -/

theorem pacedWidth_mono {d0 db dg dh : Nat} (h : dg ≤ dh) : pacedWidth d0 db dg ≤ pacedWidth d0 db dh := by
  unfold pacedWidth
  exact Nat.div_le_div_right (Nat.mul_le_mul_right _ (by omega))

theorem pacedWidth_le {d0 db dg : Nat} (h : dg < db) (h0 : d0 ≤ dg) : pacedWidth d0 db dg ≤ 30 := by
  unfold pacedWidth
  have : (dg - d0) * Config.frameLength / (db - d0) < 31 := by
    rw [Nat.div_lt_iff_lt_mul (by omega)]
    simp only [Config.frameLength]
    omega
  omega

theorem pacedCharge_mono {d0 db v w : Nat} (h : v ≤ w) : pacedCharge d0 db v ≤ pacedCharge d0 db w := by
  unfold pacedCharge
  have := Nat.mul_le_mul_left (db - d0) h
  exact Nat.add_le_add_left (Nat.div_le_div_right (by omega)) _

theorem pacedCharge_le {d0 db w : Nat} (h : d0 ≤ db) (hw : w ≤ 31) : pacedCharge d0 db w ≤ db := by
  unfold pacedCharge
  have h1 : (db - d0) * w ≤ (db - d0) * 31 := Nat.mul_le_mul_left _ hw
  have h2 : ((db - d0) * w + (Config.frameLength - 1)) / Config.frameLength ≤ db - d0 := by
    rw [Nat.div_le_iff_le_mul_add_pred (by simp [Config.frameLength])]
    simp only [Config.frameLength]
    omega
  omega

namespace CardShape

variable {c : Card}

theorem width_mono (h : CardShape c) (b : Nat) {j k : Nat} (hjk : j ≤ k) (hk : k < c.count) : c.width b j ≤ c.width b k :=
  pacedWidth_mono (h.draw_le hjk hk)

theorem width_le (h : CardShape c) {b k : Nat} (hkb : k < b) (hb : b < c.count) : c.width b k ≤ 30 :=
  pacedWidth_le (h.draw_lt hkb hb) (h.draw_le (Nat.zero_le k) (by omega))

theorem paced_le (h : CardShape c) {b w : Nat} (hb : b < c.count) (hw : w ≤ 30) : c.paced b w ≤ c.draw b :=
  pacedCharge_le (h.draw_le (Nat.zero_le b) hb) (by omega)

theorem paced_pos (h : CardShape c) (b w : Nat) : 1 ≤ c.paced b w := h.first.trans (Nat.le_add_right _ _)

end CardShape

/-! The reclaim record by its phases (R123). -/

theorem reclaimFits_reclaiming {t : Slot} {c : Card} {r : Reclaim} (h : r.phase = .reclaiming) : reclaimFits t c r = true ↔
    r.target < c.held ∧ r.window.isSome = true ∧ r.basis = none ∧ r.liftPending = false ∧ t.curWidth = none ∧ t.pendWidth = none
      ∧ t.charge = c.heldDraw := by
  simp [reclaimFits, h, and_assoc]

theorem reclaimFits_pacePending {t : Slot} {c : Card} {r : Reclaim} (h : r.phase = .pacePending) : reclaimFits t c r = true ↔
    r.target < c.held ∧ r.window = none ∧ r.basis = some c.held ∧ r.liftPending = false ∧ t.curWidth = none
      ∧ t.pendWidth = some (c.width c.held r.target) ∧ t.charge = c.heldDraw := by
  simp [reclaimFits, h, and_assoc]

/-- What a paced slot holds: the basis step b, the width w that stands, and whether a conclusion is held open (R131, R141). -/
structure Paced (t : Slot) (c : Card) (r : Reclaim) (b w : Nat) : Prop where
  basis : r.basis = some b
  width : t.curWidth = some w
  step : b < c.count
  held : c.held ≤ b
  target : r.target < b
  draw : c.draw b ≤ 1023
  window : r.window = none
  narrow : w ≤ 30
  wide : c.width b r.target ≤ w
  charge : t.charge = c.paced b w
  lift : r.liftPending = true → r.target = c.held ∧ t.pendWidth = none ∧ t.charge < c.heldDraw
  plain : r.liftPending = false → r.target < c.held ∧ (t.pendWidth = some (c.width b r.target) ∨ (t.pendWidth = none ∧ w = c.width b r.target))

theorem reclaimFits_paced {t : Slot} {c : Card} {r : Reclaim} (h : r.phase = .paced) :
    reclaimFits t c r = true ↔ ∃ b w, Paced t c r b w := by
  unfold reclaimFits
  rw [h]
  constructor
  · intro hf
    cases hb : r.basis with
    | none => cases hw : t.curWidth <;> simp [hb, hw] at hf
    | some b =>
      cases hw : t.curWidth with
      | none => simp [hb, hw] at hf
      | some w =>
        simp only [hb, hw, Bool.and_eq_true, decide_eq_true_eq, Option.isNone_iff_eq_none] at hf
        obtain ⟨⟨⟨⟨⟨⟨⟨⟨h1, h2⟩, h3⟩, h4⟩, h5⟩, h6⟩, h7⟩, h8⟩, h9⟩ := hf
        refine ⟨b, w, hb, hw, h1, h2, h3, h4, h5, h6, h7, h8, fun hl => ?_, fun hl => ?_⟩
        · simpa [hl, and_assoc] using h9
        · simpa [hl] using h9
  · rintro ⟨b, w, hp⟩
    simp only [hp.basis, hp.width, Bool.and_eq_true, decide_eq_true_eq, Option.isNone_iff_eq_none]
    refine ⟨⟨⟨⟨⟨⟨⟨⟨hp.step, hp.held⟩, hp.target⟩, hp.draw⟩, hp.window⟩, hp.narrow⟩, hp.wide⟩, hp.charge⟩, ?_⟩
    cases hl : r.liftPending with
    | true => simpa [and_assoc] using hp.lift hl
    | false => simpa using hp.plain hl

/-! Charges. -/

section
variable {n : Nat} {i : SlotId} {t : Slot} {c : Card}

/-- The charge of an ACTIVE slot is within its held or basis draw. -/
theorem Active.charge_le (h : Active n i t c) : t.charge ≤ 1023 := by
  have hs := (cardFits_iff c).mp h.shape
  have hd := ((cardCurrent_iff _ _).mp h.current).2.2.2
  have hr := h.reclaim
  unfold reclaimOk at hr
  cases hrec : t.reclaim with
  | none => rw [hrec] at hr; rw [hr.1]; exact hd
  | some r =>
    rw [hrec] at hr
    cases hp : r.phase with
    | reclaiming => obtain ⟨-, -, -, -, -, -, hk⟩ := (reclaimFits_reclaiming hp).mp hr; rw [hk]; exact hd
    | pacePending => obtain ⟨-, -, -, -, -, -, hk⟩ := (reclaimFits_pacePending hp).mp hr; rw [hk]; exact hd
    | paced =>
      obtain ⟨b, w, hb⟩ := (reclaimFits_paced hp).mp hr
      rw [hb.charge]
      exact (hs.paced_le hb.step hb.narrow).trans hb.draw

theorem Active.charge_pos (h : Active n i t c) : 1 ≤ t.charge := by
  have hs := (cardFits_iff c).mp h.shape
  have hr := h.reclaim
  have hh : 1 ≤ c.heldDraw := hs.draw_pos hs.held
  unfold reclaimOk at hr
  cases hrec : t.reclaim with
  | none => rw [hrec] at hr; rw [hr.1]; exact hh
  | some r =>
    rw [hrec] at hr
    cases hp : r.phase with
    | reclaiming => obtain ⟨-, -, -, -, -, -, hk⟩ := (reclaimFits_reclaiming hp).mp hr; rw [hk]; exact hh
    | pacePending => obtain ⟨-, -, -, -, -, -, hk⟩ := (reclaimFits_pacePending hp).mp hr; rw [hk]; exact hh
    | paced =>
      obtain ⟨b, w, hb⟩ := (reclaimFits_paced hp).mp hr
      rw [hb.charge]
      exact hs.paced_pos b w

/-- No slot draws more than 1023 units. -/
theorem SlotOk.charge_le (h : SlotOk n i t) : t.charge ≤ 1023 := by
  cases hst : t.state with
  | settling => have := ((slotOk_settling hst).mp h).hi; omega
  | listening => have := ((slotOk_listening hst).mp h).hi; omega
  | cutting => exact ((slotOk_cutting hst).mp h).hi
  | active => obtain ⟨c, hc⟩ := (slotOk_active hst).mp h; exact hc.charge_le
  | _ =>
    have := ((slotOk_unpowered (by rw [hst]; rfl)).mp h).1.charge
    omega

/-- A powered slot is charged (R3). -/
theorem SlotOk.charge_pos (h : SlotOk n i t) (hp : t.powered = true) : 1 ≤ t.charge := by
  cases hst : t.state with
  | settling => exact ((slotOk_settling hst).mp h).lo
  | listening => exact ((slotOk_listening hst).mp h).lo
  | active => obtain ⟨c, hc⟩ := (slotOk_active hst).mp h; exact hc.charge_pos
  | _ => simp [Slot.powered, hst] at hp

/-- Only a card in ACTIVE or CUTTING is stored, and it has an accepted shape. -/
theorem SlotOk.cardFits (h : SlotOk n i t) {c : Card} (hc : t.card = some c) : cardFits c = true := by
  have := h.fits
  simp only [slotFits, hc, Bool.and_eq_true] at this
  exact this.1.1.1.1.1.1.1.1.1.2.1

/-- A link may be replaced by another that fits. -/
theorem SlotOk.setLink (h : SlotOk n i t) {l : Link} (hl : LinkOk (linkOn t.state) l) : SlotOk n i { t with link := l } :=
  ⟨h.cfg, h.fits, h.charge, hl, h.run⟩

theorem SlotOk.clearFrame (h : SlotOk n i t) : SlotOk n i { t with frameDue := false } := ⟨h.cfg, h.fits, h.charge, h.link, h.run⟩

end

end Sys2Proof.Proofs
end

/-! What the operations on one slot make of it (R24, R28, R34, R36, R74, R86, R92, R125 to R135, R141). -/
section
namespace Sys2Proof.Proofs

open Machine Safety Laws

variable {n : Nat} {i : SlotId} {t : Slot} {c : Card}

theorem Active.cardShape (h : Active n i t c) : CardShape c := (cardFits_iff c).mp h.shape

theorem Active.heldDraw_le (h : Active n i t c) : c.heldDraw ≤ 1023 := ((cardCurrent_iff _ _).mp h.current).2.2.2

/-- Every step up to the usable top is within the cap, and so is a charge. -/
theorem Active.draw_le (h : Active n i t c) {g : Nat} (hg : g ≤ c.usableTop) : c.draw g ≤ 1023 := by
  obtain ⟨hu, h0, -, -⟩ := (cardCurrent_iff _ _).mp h.current
  obtain ⟨h1, h2, -⟩ := h.cardShape.usableTopOf_spec h0
  have hc := (configFits_iff _).mp h.cfg
  rw [← hu] at h1 h2
  exact (h.cardShape.draw_le hg h1).trans (h2.trans hc.cap.2)

theorem Active.draw_le_held (h : Active n i t c) {g : Nat} (hg : g ≤ c.held) : c.draw g ≤ 1023 :=
  (h.cardShape.draw_le hg h.cardShape.held).trans h.heldDraw_le

theorem current_setHeld {cfg : SlotConfig} {c : Card} {g : Nat} (h : cardCurrent cfg c = true) (hg : c.draw g ≤ 1023) :
    cardCurrent cfg { c with held := g } = true := by
  obtain ⟨h1, h2, h3, -⟩ := (cardCurrent_iff _ _).mp h
  exact (cardCurrent_iff _ _).mpr ⟨h1, h2, h3, hg⟩

theorem Active.ok (h : Active n i t c) (hs : t.state = .active) : SlotOk n i t := (slotOk_active hs).mpr ⟨c, h⟩

/-- What may be changed of an ACTIVE slot, and what has to fit again. -/
theorem Active.update (h : Active n i t c) (hs : t.state = .active) {c' : Card} {k : Nat} {r : Option Reclaim} {w p : Option Nat} {l : Timer} {b : Bool}
    {m : Link} (shape : CardShape c') (current : cardCurrent t.cfg c' = true)
    (reclaim : reclaimOk { t with charge := k, reclaim := r, curWidth := w, pendWidth := p } c') (lease : l.isSome = true → 0 < c'.held)
    (run : b = runAt n i { t with curWidth := w }) (link : LinkOk true m) :
    SlotOk n i { t with charge := k, card := some c', reclaim := r, curWidth := w, pendWidth := p, lease := l, run := b, link := m } :=
  (slotOk_active (by exact hs)).mpr ⟨c',
    { toUncut := ⟨h.cutReason, h.destEmpty, h.discharge⟩, swen := h.swen, pres := h.pres, enabled := h.enabled, cfg := h.cfg, card := rfl
      shape := (cardFits_iff _).mpr shape, current := current, reclaim := reclaim, lease := lease, settle := h.settle, hello := h.hello
      run := run, link := link }⟩

/-- Without a reclaim no width stands and RUN is high. -/
theorem Active.free (h : Active n i t c) (hr : t.reclaim = none) : t.charge = c.heldDraw ∧ t.curWidth = none ∧ t.pendWidth = none := by
  have hk := h.reclaim
  rwa [reclaimOk, hr] at hk

theorem Active.filled (h : Active n i t c) {r : Reclaim} (hr : t.reclaim = some r) : reclaimFits t c r = true := by
  have hk := h.reclaim
  rwa [reclaimOk, hr] at hk

/-- A step is granted or yielded to while no reclaim is in progress (R86, R92, R116). -/
theorem Active.hold (h : Active n i t c) (hs : t.state = .active) (hr : t.reclaim = none) {g : Nat} (hg : g < c.count) (hd : c.draw g ≤ 1023)
    {l : Timer} (hl : l.isSome = true → 0 < g) {k : Link} (hk : LinkOk true k) :
    SlotOk n i { t with charge := c.draw g, card := some { c with held := g }, lease := l, link := k } := by
  obtain ⟨-, h2, h3⟩ := h.free hr
  refine h.update hs (h.cardShape.setHeld hg) (current_setHeld h.current hd) ?_ hl h.run hk
  rw [reclaimOk, hr]
  exact ⟨rfl, h2, h3⟩

theorem leaseAtEnd_isSome {g : Nat} {l : Timer} (h : (leaseAtEnd g l).isSome = true) : 0 < g := by
  unfold leaseAtEnd at h
  split at h
  · cases h
  · omega

/-- A reclaim ends at step g (R128, R129, R130, R131). -/
theorem Active.endReclaim (h : Active n i t c) (hs : t.state = .active) {g : Nat} (hg : g ≤ c.held) {k : Link} (hk : LinkOk true k) :
    SlotOk n i { Slot.endReclaim c g t with link := k } :=
  h.update hs (h.cardShape.setHeld (hg.trans_lt h.cardShape.held)) (current_setHeld h.current (h.draw_le_held hg)) ⟨rfl, rfl, rfl⟩
    leaseAtEnd_isSome (b := true) (by simp [Slot.endReclaim, runAt_eq, hs]) hk

/-- A reclaim starts (R125). -/
theorem Active.startReclaim (h : Active n i t c) (hs : t.state = .active) (hr : t.reclaim = none) {g : Nat} (hg : g < c.held) (cause : ReclaimCause)
    (w : Nat) {k : Link} (hk : LinkOk true k) :
    SlotOk n i { t with
      lease := none
      reclaim := some { target := g, cause := cause, phase := .reclaiming, window := some w, basis := none, liftPending := false }
      link := k } := by
  obtain ⟨h1, h2, h3⟩ := h.free hr
  have := h.update hs (k := t.charge) (w := t.curWidth) (p := t.pendWidth) (l := none) (b := t.run) h.cardShape h.current
    (r := some { target := g, cause := cause, phase := .reclaiming, window := some w, basis := none, liftPending := false })
    ((reclaimFits_reclaiming rfl).mpr ⟨hg, rfl, rfl, rfl, h2, h3, h1⟩) nofun h.run hk
  rwa [← h.card] at this

/-- A reclaim is retargeted to a lower step (R135). -/
theorem Active.retarget (h : Active n i t c) (hs : t.state = .active) {r : Reclaim} (hr : t.reclaim = some r) {g : Nat} (hg : g < r.target)
    (cause : ReclaimCause) {k : Link} (hk : LinkOk true k) : SlotOk n i { Slot.retarget c g cause r t with link := k } := by
  have hf := h.filled hr
  have hsh := h.cardShape
  unfold Slot.retarget
  cases hp : r.phase with
  | reclaiming =>
    obtain ⟨h1, h2, h3, h4, h5, h6, h7⟩ := (reclaimFits_reclaiming hp).mp hf
    have := h.update hs (k := t.charge) (w := t.curWidth) (p := t.pendWidth) (l := t.lease) (b := t.run) hsh h.current
      (r := some { r with target := g, cause := cause, liftPending := false, window := Timer.start t.cfg.windowTicks })
      ((reclaimFits_reclaiming (by exact hp)).mpr ⟨hg.trans h1, rfl, h3, rfl, h5, h6, h7⟩) h.lease h.run hk
    rwa [← h.card, hp] at this
  | pacePending =>
    obtain ⟨h1, h2, h3, h4, h5, h6, h7⟩ := (reclaimFits_pacePending hp).mp hf
    have := h.update hs (k := t.charge) (w := t.curWidth) (p := some (c.width c.held g)) (l := t.lease) (b := t.run) hsh h.current
      (r := some { r with target := g, cause := cause, liftPending := false, basis := some c.held })
      ((reclaimFits_pacePending (by exact hp)).mpr ⟨hg.trans h1, h2, rfl, rfl, h5, rfl, h7⟩) h.lease h.run hk
    rwa [← h.card, hp] at this
  | paced =>
    obtain ⟨b, w, hb⟩ := (reclaimFits_paced hp).mp hf
    have hlow : r.target ≤ c.held := by
      cases hl : r.liftPending with
      | true => exact (hb.lift hl).1.le
      | false => exact (hb.plain hl).1.le
    have := h.update hs (k := t.charge) (w := t.curWidth) (p := some (c.width b g)) (l := t.lease) (b := t.run) hsh h.current
      (r := some { r with target := g, cause := cause, liftPending := false })
      ((reclaimFits_paced (by exact hp)).mpr ⟨b, w, hb.basis, hb.width, hb.step, hb.held, hg.trans hb.target, hb.draw, hb.window, hb.narrow,
        (hsh.width_mono b hg.le (hb.target.trans hb.step)).trans hb.wide, hb.charge, nofun, fun _ => ⟨hg.trans_le hlow, .inl rfl⟩⟩)
      h.lease h.run hk
    simp only [hb.basis, Option.getD_some]
    rwa [← h.card, hp, hb.basis] at this

/-- The reclaim window expires (R134). -/
theorem Active.windowExpires (h : Active n i t c) (hs : t.state = .active) {r : Reclaim} (hr : t.reclaim = some r) (hp : r.phase = .reclaiming) :
    SlotOk n i (Slot.windowExpires c r t) := by
  obtain ⟨h1, h2, h3, h4, h5, h6, h7⟩ := (reclaimFits_reclaiming hp).mp (h.filled hr)
  have := h.update hs (k := t.charge) (w := t.curWidth) (p := some (c.width c.held r.target)) (l := t.lease) (b := t.run) h.cardShape h.current
    (r := some { r with phase := .pacePending, basis := some c.held, window := none })
    ((reclaimFits_pacePending rfl).mpr ⟨h1, rfl, rfl, h4, h5, rfl, h7⟩) h.lease h.run h.link
  rwa [← h.card] at this

/-- The basis of a paced slot or one that is to be paced, and the width that waits (R133, R134, R135, R141). -/
structure Pending (t : Slot) (c : Card) (r : Reclaim) (w b : Nat) : Prop where
  basis : r.basis.getD c.held = b
  step : b < c.count
  held : c.held ≤ b
  target : r.target < c.held
  draw : c.draw b ≤ 1023
  window : r.window = none
  width : w = c.width b r.target
  lift : r.liftPending = false
  lower : c.paced b w ≤ t.charge

/-- A width waits only in a slot that is paced or to be paced, and does not raise its charge (R133, R141). -/
theorem Active.pending (h : Active n i t c) {r : Reclaim} (hr : t.reclaim = some r) {w : Nat} (hw : t.pendWidth = some w) :
    r.basis.isSome = true ∧ ∃ b, Pending t c r w b := by
  have hf := h.filled hr
  have hsh := h.cardShape
  cases hp : r.phase with
  | reclaiming =>
    obtain ⟨-, -, -, -, -, h6, -⟩ := (reclaimFits_reclaiming hp).mp hf
    rw [hw] at h6; cases h6
  | pacePending =>
    obtain ⟨h1, h2, h3, h4, h5, h6, h7⟩ := (reclaimFits_pacePending hp).mp hf
    rw [hw, Option.some.injEq] at h6
    refine ⟨by rw [h3]; rfl, c.held, by rw [h3]; rfl, hsh.held, le_rfl, h1, h.heldDraw_le, h2, h6, h4, ?_⟩
    rw [h7, h6]
    exact hsh.paced_le hsh.held (hsh.width_le h1 hsh.held)
  | paced =>
    obtain ⟨b, v, hb⟩ := (reclaimFits_paced hp).mp hf
    have hl : r.liftPending = false := by
      by_contra hc
      have := (hb.lift (by simpa using hc)).2.1
      rw [hw] at this; cases this
    obtain ⟨h1, h2⟩ := hb.plain hl
    have hwb : w = c.width b r.target := by simpa [hw] using h2
    refine ⟨by rw [hb.basis]; rfl, b, by rw [hb.basis]; rfl, hb.step, hb.held, h1, hb.draw, hb.window, hwb, hl, ?_⟩
    rw [hb.charge, hwb]
    exact pacedCharge_mono hb.wide

/-- A pending width takes effect (R141). -/
theorem Active.applyWidth (h : Active n i t c) (hs : t.state = .active) {r : Reclaim} (hr : t.reclaim = some r) {w : Nat} (hw : t.pendWidth = some w) :
    SlotOk n i (driven n i (Slot.applyWidth c r w t)) := by
  obtain ⟨hb, b, hp⟩ := h.pending hr hw
  have hbas : r.basis = some b := by
    obtain ⟨x, hx⟩ := Option.isSome_iff_exists.mp hb
    have := hp.basis
    rw [hx] at this ⊢
    simpa using this
  have hlt := hp.target.trans_le hp.held
  have := h.update hs (k := c.paced (r.basis.getD c.held) w) (w := some w) (p := none) (l := t.lease) (b := runAt n i (Slot.applyWidth c r w t))
    h.cardShape h.current (r := some { r with phase := .paced })
    ((reclaimFits_paced rfl).mpr ⟨b, w, hbas, rfl, hp.step, hp.held, hlt, hp.draw, hp.window, hp.width ▸ h.cardShape.width_le hlt hp.step,
      hp.width ▸ le_rfl, by rw [hp.basis], fun hl => absurd (hp.lift.symm.trans hl) (by simp),
      fun _ => ⟨hp.target, .inr ⟨rfl, hp.width⟩⟩⟩) h.lease rfl (h.link.placeNotice .paced w)
  rwa [← h.card] at this

/-- A conclusion is held open at step g (R131). -/
theorem Active.holdOpen (h : Active n i t c) (hs : t.state = .active) {r : Reclaim} (hr : t.reclaim = some r) (hp : r.phase = .paced) {g : Nat}
    (hg : g < c.held) (ht : g ≤ r.target) (hc : t.charge < c.draw g) {k : Link} (hk : LinkOk true k) :
    SlotOk n i { Slot.holdOpen c g r t with link := k } := by
  obtain ⟨b, w, hb⟩ := (reclaimFits_paced hp).mp (h.filled hr)
  have hsh := h.cardShape
  have hpos : 0 < g := by
    by_contra h0
    obtain rfl : g = 0 := by omega
    have : c.draw 0 ≤ t.charge := hb.charge ▸ Nat.le_add_right _ _
    omega
  exact h.update hs (hsh.setHeld (hg.trans hsh.held)) (current_setHeld h.current (h.draw_le_held hg.le))
    ((reclaimFits_paced (by exact hp)).mpr ⟨b, w, hb.basis, hb.width, hb.step, hg.le.trans hb.held, ht.trans_lt hb.target, hb.draw, hb.window, hb.narrow,
      (hsh.width_mono b ht (hb.target.trans hb.step)).trans hb.wide, hb.charge, fun _ => ⟨rfl, rfl, hc⟩, nofun⟩)
    (fun _ => hpos) h.run hk

/-- Partial progress at a step above the target (R132). -/
theorem Active.progress (h : Active n i t c) (hs : t.state = .active) {r : Reclaim} (hr : t.reclaim = some r) {g : Nat} (hg : g < c.held)
    (ht : r.target < g) {k : Link} (hk : LinkOk true k) : SlotOk n i { Slot.progress c g r t with link := k } := by
  have hsh := h.cardShape
  have hsh' := hsh.setHeld (hg.trans hsh.held)
  have hcur := current_setHeld h.current (h.draw_le_held hg.le)
  have hpos : 0 < g := by omega
  have hf := h.filled hr
  unfold Slot.progress
  cases hp : r.phase with
  | reclaiming =>
    obtain ⟨h1, h2, h3, h4, h5, h6, h7⟩ := (reclaimFits_reclaiming hp).mp hf
    have := h.update hs (k := c.draw g) (w := t.curWidth) (p := t.pendWidth) (l := t.lease) (b := t.run) (r := some r) hsh' hcur
      ((reclaimFits_reclaiming (by exact hp)).mpr ⟨ht, h2, h3, h4, h5, h6, rfl⟩) (fun _ => hpos) h.run hk
    rwa [← hr] at this
  | pacePending =>
    obtain ⟨h1, h2, h3, h4, h5, h6, h7⟩ := (reclaimFits_pacePending hp).mp hf
    have := h.update hs (k := c.draw g) (w := t.curWidth) (p := some (c.width g r.target)) (l := t.lease) (b := t.run) hsh' hcur
      (r := some { r with basis := some g })
      ((reclaimFits_pacePending (by exact hp)).mpr ⟨ht, h2, rfl, h4, h5, rfl, rfl⟩) (fun _ => hpos) h.run hk
    rwa [hp] at this
  | paced =>
    obtain ⟨b, w, hb⟩ := (reclaimFits_paced hp).mp hf
    have hl : r.liftPending = false := by
      by_contra hc
      have := (hb.lift (by simpa using hc)).1
      omega
    have := h.update hs (k := t.charge) (w := t.curWidth) (p := t.pendWidth) (l := t.lease) (b := t.run) (r := some r) hsh' hcur
      ((reclaimFits_paced (by exact hp)).mpr ⟨b, w, hb.basis, hb.width, hb.step, hg.le.trans hb.held, hb.target, hb.draw, hb.window, hb.narrow,
        hb.wide, hb.charge, fun hl' => absurd (hl.symm.trans hl') (by simp), fun _ => ⟨ht, (hb.plain hl).2⟩⟩) (fun _ => hpos) h.run hk
    rwa [← hr] at this

/-! The power path. -/

/-- A slot that may be admitted (R24). -/
structure Admissible (t : Slot) : Prop extends Unpowered t where
  pres : t.pres.value = true
  enabled : t.enabled = true

/-- The switch closes for an admissible slot (R24, R25). -/
theorem Admissible.powerUp (h : Admissible t) : SlotOk n i { t with
    charge := t.cfg.admission, swen := true, state := .settling, settle := Timer.start (Config.ticksPerUnit * t.cfg.settle) } := by
  have hc := (configFits_iff _).mp h.cfg
  exact (slotOk_settling rfl).mpr ⟨⟨h.cfg, h.reclaim, h.curWidth, h.pendWidth, h.lease, h.run⟩, ⟨⟨h.cutReason, h.destEmpty, h.discharge⟩, rfl, h.pres,
    h.enabled⟩, hc.admission.1, hc.admission.2, h.card, rfl, h.hello, h.link⟩

/-- An admissible slot waits for its admission (R24, R25). -/
theorem Admissible.wait (h : Admissible t) : SlotOk n i { t with state := .admitting } :=
  (slotOk_unpowered rfl).mpr ⟨⟨⟨h.cfg, h.reclaim, h.curWidth, h.pendWidth, h.lease, h.run⟩, ⟨h.cutReason, h.destEmpty, h.discharge⟩, h.charge, h.card,
    h.settle, h.hello, h.swen, h.link⟩, h.pres, fun _ => h.enabled⟩

/-- The link of a settled slot is switched on (R28). -/
theorem Settling.listen (h : Settling t) : SlotOk n i t.listen :=
  (slotOk_listening rfl).mpr ⟨⟨h.cfg, h.reclaim, h.curWidth, h.pendWidth, h.lease, h.run⟩, ⟨⟨h.cutReason, h.destEmpty, h.discharge⟩, h.swen, h.pres,
    h.enabled⟩, h.lo, h.hi, h.card, rfl, rfl, .switchOn _⟩

/-- A cut starts in a powered slot, whatever its presence and its enabled flag have become (R34). -/
theorem SlotOk.cut (h : SlotOk n i t) (hp : t.powered = true) (r : CutReason) (p : Debounce Bool) (b : Bool) :
    SlotOk n i (Slot.cut r { t with pres := p, enabled := b }) :=
  (slotOk_cutting rfl).mpr ⟨⟨h.cfg, rfl, rfl, rfl, rfl, rfl⟩, h.charge_pos hp, h.charge_le, fun _ hc => h.cardFits hc, rfl, rfl, rfl, rfl, rfl,
    .flush _⟩

/-- What a completed cut leaves draws nothing (R36). -/
theorem Cutting.discharged (h : Cutting t) (d : Destination) : Unpowered (t.discharged d) :=
  ⟨⟨h.cfg, h.reclaim, h.curWidth, h.pendWidth, h.lease, h.run⟩, ⟨rfl, rfl, rfl⟩, rfl, rfl, h.settle, h.hello, h.swen, h.link.forget _ _⟩

/-- A declaration is accepted (R71 to R77). -/
theorem Listening.declare (h : Listening t) {c : Card} (hc : CardShape c) (h0 : c.held = 0) (hcap : c.draw 0 ≤ t.cfg.cap)
    (hu : c.usableTop = usableTopOf c.draws t.cfg.cap) (hf : c.effFloor = effectiveFloorOf t.cfg.floorOverride c.declaredFloor c.count)
    {k : Link} (hk : LinkOk true k) :
    SlotOk n i { t with charge := c.draw 0, card := some c, state := .active, hello := none, run := true, link := k } := by
  have hd : c.heldDraw = c.draw 0 := by rw [Card.heldDraw, h0]
  refine (slotOk_active rfl).mpr ⟨c, ⟨⟨⟨h.cutReason, h.destEmpty, h.discharge⟩, h.swen, h.pres, h.enabled⟩, h.cfg, rfl, (cardFits_iff c).mpr hc,
    (cardCurrent_iff _ _).mpr ⟨hu, hcap, hf, ?_⟩, ?_, ?_, h.settle, rfl, ?_, hk⟩⟩
  · rw [hd]; exact hcap.trans ((configFits_iff _).mp h.cfg).cap.2
  · simp [reclaimOk, h.reclaim, h.curWidth, h.pendWidth, hd]
  · rw [h.lease]; nofun
  · simp [runAt_eq, h.curWidth]

end Sys2Proof.Proofs
end

/-! The block's invariant as what each slot asks and what the lists ask, with slots that an event has between two states. -/
section
namespace Sys2Proof.Proofs

open Machine Safety Laws

/-- An entry belongs to a slot that may hold it (R105, R106). -/
def EntryOk (t : Slot) (e : WaitEntry) : Prop :=
  e.cls = t.cfg.cls ∧
    match e.kind with
    | .admission => t.state = .admitting
    | .step asked floor => t.state = .active ∧ t.reclaim = none ∧
        ∃ c, t.card = some c ∧ c.held < floor ∧ floor ≤ asked ∧ asked < c.count ∧ floor ≤ c.usableTop

/-- A victim's record agrees with its slot (R148). -/
def VictimOk (t : Slot) (v : Victim) : Prop :=
  ∃ c r, t.card = some c ∧ t.reclaim = some r ∧ r.target = v.target ∧ r.liftPending = false ∧ v.remaining = t.charge - c.draw v.target

/-- What the invariant asks of slot i. -/
structure Holds (s : State) (i : SlotId) : Prop where
  ok : SlotOk s.frameCounter i (s.slot i)
  entries : ∀ e ∈ s.waitList, e.slot = i → EntryOk (s.slot i) e
  waits : (s.slot i).state = .admitting → ∃ e ∈ s.waitList, e.slot = i
  recent : i ∈ s.recency → (s.slot i).state = .active
  victims : ∀ v ∈ s.episode.victims, v.slot = i → VictimOk (s.slot i) v
  cuts : ∀ x ∈ s.episode.cuts, x.slot = i → (s.slot i).state = .cutting ∧ (s.slot i).charge = x.counted

/-- What the invariant asks of the Arbiter's lists by themselves. -/
structure Lists (s : State) : Prop where
  slots : (s.waitList.map WaitEntry.slot).Nodup
  sorted : s.waitList.Pairwise (fun a b => b.cls ≤ a.cls)
  overtaken : ∀ e ∈ s.waitList, e.overtaken ≤ 7
  recency : s.recency.Nodup
  shed : (s.episode.victims.map Victim.slot ++ s.episode.cuts.map CutEntry.slot).Nodup
  target : s.episode.target ≤ 8184
  closed : s.episode.kind = .none → s.episode = Episode.closed

/-- Only the beneficiary of an open PREEMPT has a marked entry (R144). -/
structure Marks (e : Episode) (l : List WaitEntry) : Prop where
  preempt : e.kind = .preempt → ∃ b, e.beneficiary = some b ∧ (l.filter WaitEntry.beneficiary).map WaitEntry.slot = [b]
    ∧ ∀ x ∈ l, x.beneficiary = true → x.kind ≠ .admission
  plain : e.kind ≠ .preempt → e.beneficiary = none ∧ ∀ x ∈ l, x.beneficiary = false

/-- Above A only while an OVERDRAFT is open (R9). -/
def Funded (s : State) : Prop := s.available < s.committed → s.episode.kind = .overdraft

/-- An OVERDRAFT is open only above A (R155). -/
def Settled (s : State) : Prop := s.episode.kind = .overdraft → s.available < s.committed

/-- Slot i stands in none of the Arbiter's lists. -/
structure Vacant (s : State) (i : SlotId) : Prop where
  entry : ∀ e ∈ s.waitList, e.slot ≠ i
  recent : i ∉ s.recency
  victim : ∀ v ∈ s.episode.victims, v.slot ≠ i
  cut : ∀ x ∈ s.episode.cuts, x.slot ≠ i

/-- The Arbiter's part of the invariant. Slots in P are between two states: of them it is asked only that they stand in no list. -/
structure Core (P : SlotId → Prop) (s : State) : Prop where
  lists : Lists s
  marks : Marks s.episode s.waitList
  holds : ∀ j, ¬ P j → Holds s j
  vacant : ∀ j, P j → Vacant s j
  funded : Funded s

/-- The part of the invariant after an event has had its follow-up. -/
structure Sound (P : SlotId → Prop) (s : State) : Prop extends Core P s where
  settled : Settled s

/-- No slot is between two states. -/
def nobody (_ : SlotId) : Prop := False

/-- Slot i is between two states, with those of P. -/
def also (i : SlotId) (P : SlotId → Prop) (j : SlotId) : Prop := j = i ∨ P j

theorem victimFits_iff {s : State} {v : Victim} {n : Nat} (h : SlotOk n v.slot (s.slot v.slot)) : victimFits s v = true ↔ VictimOk (s.slot v.slot) v := by
  unfold victimFits VictimOk
  cases hr : (s.slot v.slot).reclaim with
  | none => simp
  | some r =>
    have hst : (s.slot v.slot).state = .active := by
      by_contra hn
      have := h.fits
      simp [slotFits, hn, hr] at this
    obtain ⟨c, hc⟩ := (slotOk_active hst).mp h
    simp [hc.card, State.remainingFor, and_assoc]

theorem entryFits_iff (s : State) (e : WaitEntry) : entryFits s e = true ↔ EntryOk (s.slot e.slot) e ∧ e.overtaken ≤ 7 := by
  unfold entryFits EntryOk stepFits
  cases e.kind with
  | admission => simp; tauto
  | step a f => cases (s.slot e.slot).card <;> simp [and_assoc]; tauto

theorem entryOf_isSome (s : State) (i : SlotId) : (s.entryOf i).isSome = true ↔ ∃ e ∈ s.waitList, e.slot = i := by
  simp [State.entryOf]

/-- The block's invariant, taken apart. -/
theorem blockInv_iff (s : State) : BlockInv s ↔
    ReportForm s ∧ CommandForm s ∧ CounterForm s ∧ FiguresForm s ∧ Sound nobody s := by
  constructor
  · rintro ⟨h1, h2, h3, h4, h5, ⟨h6, h7⟩, ⟨h8, h9⟩, ⟨h10, h11⟩, h12, h13, h14, h15, ⟨e1, e2, e3, e4, e5, e6, e7⟩, h17⟩
    have hok : ∀ i, SlotOk s.frameCounter i (s.slot i) := fun i => by
      obtain ⟨l1, l2, l3, l4, l5, l6⟩ := h14 i
      refine ⟨h4 i, h12 i, h13 i, ⟨⟨?_, l1, l2, l5, l6⟩, l3⟩, h15 i⟩
      simp only [linkOnFits, beq_iff_eq] at l4
      rw [linkOn, ← l4, decide_eq_true_iff]
    refine ⟨h1, h2, h3, h5, ⟨⟨h6, h7, fun e he => ((entryFits_iff s e).mp (h8 e he)).2, h10, e1, e4, e5⟩, ⟨?_, ?_⟩, fun i _ => ?_, nofun, h17.mpr⟩, h17.mp⟩
    · intro hk
      obtain ⟨hb, hm, ha⟩ := e6 hk
      obtain ⟨b, hb⟩ := Option.isSome_iff_exists.mp hb
      refine ⟨b, hb, ?_, fun x hx hxb => ?_⟩
      · rw [hb] at hm
        have : ((s.waitList.filter WaitEntry.beneficiary).map WaitEntry.slot).map some = [b].map some := by simpa [Function.comp_def] using hm
        exact List.map_injective_iff.mpr (Option.some_injective _) this
      · simpa [hxb] using List.all_eq_true.mp ha x hx
    · intro hk
      obtain ⟨hb, ha⟩ := e7 hk
      exact ⟨hb, by simpa using ha⟩
    · refine ⟨hok i, fun e he hi => ?_, fun hst => (entryOf_isSome s i).mp (h9 i hst), fun hr => h11 i hr, fun v hv hi => ?_, fun x hx hi => ?_⟩
      · subst hi; exact ((entryFits_iff s e).mp (h8 e he)).1
      · subst hi; exact (victimFits_iff (hok _)).mp (e2 v hv)
      · subst hi; exact e3 x hx
  · rintro ⟨h1, h2, h3, h5, ⟨⟨⟨l1, l2, l3, l4, l5, l6, l7⟩, ⟨m1, m2⟩, hh, -, hf⟩, hset⟩⟩
    have hh : ∀ i, Holds s i := fun i => hh i id
    refine ⟨h1, h2, h3, fun i => (hh i).ok.cfg, h5, ⟨l1, l2⟩, ⟨fun e he => (entryFits_iff s e).mpr ⟨(hh _).entries e he rfl, l3 e he⟩,
      fun i hi => (entryOf_isSome s i).mpr ((hh i).waits hi)⟩, ⟨l4, fun i hi => (hh i).recent hi⟩, fun i => (hh i).ok.fits,
      fun i => (hh i).ok.charge, fun i => ?_, fun i => (hh i).ok.run, ⟨l5, fun v hv => (victimFits_iff (hh _).ok).mpr ((hh _).victims v hv rfl),
      fun x hx => (hh _).cuts x hx rfl, l6, l7, fun hk => ?_, fun hk => ?_⟩, ⟨hset, hf⟩⟩
    · obtain ⟨⟨hp, hq, ho, ha, hu⟩, hi⟩ := (hh i).ok.link
      refine ⟨hq, ho, hi, ?_, ha, hu⟩
      simp only [linkOnFits, beq_iff_eq]
      rw [Bool.eq_iff_iff, decide_eq_true_iff, hp]
      rfl
    · obtain ⟨b, hb, hm, ha⟩ := m1 hk
      refine ⟨by rw [hb]; rfl, ?_, ?_⟩
      · have := congrArg (List.map some) hm
        rw [hb]
        simpa [Function.comp_def] using this
      · simp only [List.all_eq_true, Bool.or_eq_true, Bool.not_eq_true', decide_eq_true_eq]
        intro x hx
        cases hxb : x.beneficiary with
        | false => exact .inl rfl
        | true => exact .inr (ha x hx hxb)
    · obtain ⟨hb, ha⟩ := m2 hk
      exact ⟨hb, by simpa using ha⟩

end Sys2Proof.Proofs
end

/-! What an operation on slot i leaves of the invariant: every other slot holds what it held, and the lists keep their form. Each lemma has the
form "what has been kept apart so far stays apart through the operation". -/
section
namespace Sys2Proof.Proofs

open Machine Safety Laws

/-- From s to u, only slot i, its entry and its places in the recency list and in the episode record change, but that an episode may close. -/
structure Apart (i : SlotId) (s u : State) : Prop where
  rest : u.rest = s.rest
  slot : ∀ j, j ≠ i → u.slot j = s.slot j
  entry : ∀ e, e.slot ≠ i → (e ∈ u.waitList ↔ e ∈ s.waitList)
  recent : ∀ j, j ≠ i → j ∈ u.recency → j ∈ s.recency
  victim : ∀ v, v.slot ≠ i → v ∈ u.episode.victims → v ∈ s.episode.victims
  cut : ∀ x, x.slot ≠ i → x ∈ u.episode.cuts → x ∈ s.episode.cuts
  kind : u.episode.kind = .overdraft ↔ s.episode.kind = .overdraft
  lists : Lists u
  marks : Marks u.episode u.waitList

theorem frameCounter_of_rest {s u : State} (h : u.rest = s.rest) : u.frameCounter = s.frameCounter := by
  change u.rest.frameCounter = s.rest.frameCounter; rw [h]
theorem policy_of_rest {s u : State} (h : u.rest = s.rest) : u.policy = s.policy := by
  change u.rest.policy = s.rest.policy; rw [h]

theorem available_of_rest {s u : State} (h : u.rest = s.rest) : u.available = s.available := by
  change u.rest.available = s.rest.available; rw [h]

/-- K moves by the change of the one charge that changes (R2). -/
theorem committed_change {s u : State} {i : SlotId} (h : ∀ j, j ≠ i → u.slot j = s.slot j) :
    u.committed + (s.slot i).charge = s.committed + (u.slot i).charge := by
  simp only [State.committed_eq_sum]
  rw [← Finset.add_sum_erase _ _ (Finset.mem_univ i), ← Finset.add_sum_erase (a := i) Finset.univ (fun j => (s.slot j).charge) (Finset.mem_univ i)]
  have : ∑ j ∈ Finset.univ.erase i, (u.slot j).charge = ∑ j ∈ Finset.univ.erase i, (s.slot j).charge :=
    Finset.sum_congr rfl fun j hj => by rw [h j (Finset.ne_of_mem_erase hj)]
  rw [this]
  omega

/-- What a slot asks speaks of its own part of the state. -/
theorem Holds.of_same {s u : State} {j : SlotId} (h : Holds s j) (hn : u.frameCounter = s.frameCounter) (hs : u.slot j = s.slot j)
    (he : ∀ e, e.slot = j → (e ∈ u.waitList ↔ e ∈ s.waitList)) (hr : j ∈ u.recency → j ∈ s.recency)
    (hv : ∀ v, v.slot = j → v ∈ u.episode.victims → v ∈ s.episode.victims) (hx : ∀ x, x.slot = j → x ∈ u.episode.cuts → x ∈ s.episode.cuts) :
    Holds u j where
  ok := by rw [hn, hs]; exact h.ok
  entries e hm hj := by rw [hs]; exact h.entries e ((he e hj).mp hm) hj
  waits hst := by
    rw [hs] at hst
    obtain ⟨e, hm, hj⟩ := h.waits hst
    exact ⟨e, (he e hj).mpr hm, hj⟩
  recent hm := by rw [hs]; exact h.recent (hr hm)
  victims v hm hj := by rw [hs]; exact h.victims v (hv v hj hm) hj
  cuts x hm hj := by rw [hs]; exact h.cuts x (hx x hj hm) hj

/-! Marks. -/

namespace Marks

variable {e : Episode} {l : List WaitEntry}

theorem closed (h : ∀ x ∈ l, x.beneficiary = false) : Marks Episode.closed l := ⟨nofun, fun _ => ⟨rfl, h⟩⟩

/-- Entries that carry no mark may leave. -/
theorem sublist (h : Marks e l) {m : List WaitEntry} (hm : m.Sublist l) (hb : ∀ x ∈ l, x.beneficiary = true → x ∈ m) : Marks e m := by
  refine ⟨fun hk => ?_, fun hk => ⟨(h.plain hk).1, fun x hx => (h.plain hk).2 x (hm.subset hx)⟩⟩
  obtain ⟨b, h1, h2, h3⟩ := h.preempt hk
  refine ⟨b, h1, ?_, fun x hx => h3 x (hm.subset hx)⟩
  have hs : ((m.filter WaitEntry.beneficiary).map WaitEntry.slot).Sublist [b] := h2 ▸ (hm.filter _).map _
  rcases List.sublist_singleton.mp hs with h0 | h0
  · exfalso
    have hne : (l.filter WaitEntry.beneficiary) ≠ [] := by intro hc; rw [hc] at h2; cases h2
    obtain ⟨x, hx⟩ := List.exists_mem_of_ne_nil _ hne
    obtain ⟨hxl, hxb⟩ := List.mem_filter.mp hx
    have : x ∈ m.filter WaitEntry.beneficiary := List.mem_filter.mpr ⟨hb x hxl hxb, hxb⟩
    simp only [List.map_eq_nil_iff] at h0
    rw [h0] at this
    cases this
  · exact h0

/-- The marked entry is the beneficiary's. -/
theorem marked (h : Marks e l) {x : WaitEntry} (hx : x ∈ l) (hb : x.beneficiary = true) : e.kind = .preempt ∧ e.beneficiary = some x.slot := by
  by_cases hk : e.kind = .preempt
  · obtain ⟨b, h1, h2, -⟩ := h.preempt hk
    have : x.slot ∈ (l.filter WaitEntry.beneficiary).map WaitEntry.slot := List.mem_map.mpr ⟨x, List.mem_filter.mpr ⟨hx, hb⟩, rfl⟩
    rw [h2, List.mem_singleton] at this
    exact ⟨hk, by rw [h1, this]⟩
  · rw [(h.plain hk).2 x hx] at hb; cases hb

/-- What is the same for marks: kind and beneficiary. -/
theorem of_episode (h : Marks e l) {f : Episode} (hk : f.kind = e.kind) (hb : f.beneficiary = e.beneficiary) : Marks f l :=
  ⟨fun h' => by rw [hb]; exact h.preempt (hk ▸ h'), fun h' => by rw [hb]; exact h.plain (hk ▸ h')⟩

end Marks

/-! Entries. -/

theorem mem_withoutSlot {i : SlotId} {l : List WaitEntry} {e : WaitEntry} : e ∈ withoutSlot i l ↔ e ∈ l ∧ e.slot ≠ i := by simp [withoutSlot]

theorem withoutSlot_sublist (i : SlotId) (l : List WaitEntry) : (withoutSlot i l).Sublist l := List.filter_sublist

theorem mem_insertEntry {e x : WaitEntry} {l : List WaitEntry} : x ∈ insertEntry e l ↔ x = e ∨ x ∈ l := by
  induction l with
  | nil => simp [insertEntry]
  | cons y l ih =>
    unfold insertEntry
    split
    · simp only [List.mem_cons, ih]; tauto
    · simp only [List.mem_cons]

theorem insertEntry_perm (e : WaitEntry) (l : List WaitEntry) : (insertEntry e l).Perm (e :: l) := by
  induction l with
  | nil => exact List.Perm.refl _
  | cons y l ih =>
    unfold insertEntry
    split
    · exact (ih.cons y).trans (List.Perm.swap _ _ _)
    · exact List.Perm.refl _

theorem insertEntry_sorted {e : WaitEntry} {l : List WaitEntry} (h : l.Pairwise (fun a b => b.cls ≤ a.cls)) :
    (insertEntry e l).Pairwise (fun a b => b.cls ≤ a.cls) := by
  rw [insertEntry_of_sorted e l h, List.pairwise_append, List.pairwise_cons]
  refine ⟨h.filter _, ⟨fun x hx => ?_, h.filter _⟩, fun x hx y hy => ?_⟩
  · have := (List.mem_filter.mp hx).2
    simp only [decide_eq_true_eq] at this
    omega
  · have h1 := (List.mem_filter.mp hx).2
    simp only [decide_eq_true_eq] at h1
    rcases List.mem_cons.mp hy with rfl | hy
    · exact h1
    · have h2 := (List.mem_filter.mp hy).2
      simp only [decide_eq_true_eq] at h2
      omega

theorem entryOf_mem {s : State} {i : SlotId} {e : WaitEntry} (h : s.entryOf i = some e) : e ∈ s.waitList ∧ e.slot = i :=
  ⟨List.mem_of_find?_eq_some h, by simpa using List.find?_some h⟩

theorem entryOf_none {s : State} {i : SlotId} : s.entryOf i = none ↔ ∀ e ∈ s.waitList, e.slot ≠ i := by simp [State.entryOf]

/-- A slot holds one entry. -/
theorem eq_of_slot {l : List WaitEntry} (h : (l.map WaitEntry.slot).Nodup) {x y : WaitEntry} (hx : x ∈ l) (hy : y ∈ l) (hs : x.slot = y.slot) : x = y :=
  List.inj_on_of_nodup_map h hx hy hs

/-! Lists. -/

namespace Lists

variable {s u : State}

/-- The form speaks of wait list, recency list and episode record only. -/
theorem of_same (h : Lists s) (hw : u.waitList = s.waitList) (hr : u.recency = s.recency) (he : u.episode = s.episode) : Lists u where
  slots := by rw [hw]; exact h.slots
  sorted := by rw [hw]; exact h.sorted
  overtaken := by rw [hw]; exact h.overtaken
  recency := by rw [hr]; exact h.recency
  shed := by rw [he]; exact h.shed
  target := by rw [he]; exact h.target
  closed := by rw [he]; exact h.closed

theorem setWait (h : Lists s) {l : List WaitEntry} (hn : (l.map WaitEntry.slot).Nodup) (hp : l.Pairwise (fun a b => b.cls ≤ a.cls))
    (ho : ∀ e ∈ l, e.overtaken ≤ 7) : Lists (s.setWait l) := ⟨hn, hp, ho, h.recency, h.shed, h.target, h.closed⟩

theorem sublist (h : Lists s) {l : List WaitEntry} (hl : l.Sublist s.waitList) : Lists (s.setWait l) :=
  h.setWait (h.slots.sublist (hl.map _)) (h.sorted.sublist hl) (fun e he => h.overtaken e (hl.subset he))

theorem setRecency (h : Lists s) {l : List SlotId} (hn : l.Nodup) : Lists (s.setRecency l) :=
  ⟨h.slots, h.sorted, h.overtaken, hn, h.shed, h.target, h.closed⟩

theorem setEpisode (h : Lists s) {e : Episode} (hs : (e.victims.map Victim.slot ++ e.cuts.map CutEntry.slot).Nodup) (ht : e.target ≤ 8184)
    (hc : e.kind = .none → e = Episode.closed) : Lists (s.setEpisode e) := ⟨h.slots, h.sorted, h.overtaken, h.recency, hs, ht, hc⟩

theorem close (h : Lists s) : Lists (s.setEpisode Episode.closed) := h.setEpisode (by simp [Episode.closed]) (by simp [Episode.closed]) (fun _ => rfl)

end Lists

namespace Apart

variable {i : SlotId} {s u : State}

theorem refl (i : SlotId) (hl : Lists s) (hm : Marks s.episode s.waitList) : Apart i s s :=
  ⟨rfl, fun _ _ => rfl, fun _ _ => Iff.rfl, fun _ _ => id, fun _ _ => id, fun _ _ => id, Iff.rfl, hl, hm⟩

theorem modSlot (h : Apart i s u) (f : Slot → Slot) : Apart i s (u.modSlot i f) :=
  ⟨h.rest, fun j hj => by rw [u.modSlot_slot_other f hj]; exact h.slot j hj, h.entry, h.recent, h.victim, h.cut, h.kind, h.lists.of_same rfl rfl rfl,
    h.marks⟩

theorem modLink (h : Apart i s u) (f : Link → Link) : Apart i s (u.modLink i f) := h.modSlot _
theorem notice (h : Apart i s u) (k : NoticeKind) (v : Nat) : Apart i s (u.notice i k v) := h.modLink _
theorem sendReclaim (h : Apart i s u) (g : Nat) : Apart i s (u.sendReclaim i g) := h.modLink _
theorem answer (h : Apart i s u) (k : LinkKind) (tag : BitVec 3) (r : Reply) : Apart i s (u.answer i k tag r) := h.modLink _

theorem append (h : Apart i s u) (r : Report) : Apart i s (u.append r) :=
  ⟨by rw [State.rest_append]; exact h.rest, by simpa using h.slot, by simpa using h.entry, by simpa using h.recent, by simpa using h.victim,
    by simpa using h.cut, by simpa using h.kind, h.lists.of_same (by simp) (by simp) (by simp), by simpa using h.marks⟩

theorem report (h : Apart i s u) (k : ReportKind) (j : SlotId) (a b c : Nat) : Apart i s (u.report k j a b c) := h.append _

theorem toHead (h : Apart i s u) : Apart i s (u.toHead i) :=
  ⟨h.rest, h.slot, h.entry, fun j hj hm => by
      rcases List.mem_cons.mp hm with rfl | hm
      · exact absurd rfl hj
      · exact h.recent j hj (List.mem_of_mem_filter hm), h.victim, h.cut, h.kind,
    h.lists.setRecency (List.nodup_cons.mpr ⟨by simp, h.lists.recency.filter _⟩), h.marks⟩

theorem leaveRecency (h : Apart i s u) : Apart i s (u.leaveRecency i) :=
  ⟨h.rest, h.slot, h.entry, fun j hj hm => h.recent j hj (List.mem_of_mem_filter hm), h.victim, h.cut, h.kind,
    h.lists.setRecency (h.lists.recency.filter _), h.marks⟩

/-- The wait list changes at the entry of slot i. -/
theorem setWait (h : Apart i s u) {l : List WaitEntry} (he : ∀ e, e.slot ≠ i → (e ∈ l ↔ e ∈ u.waitList)) (hl : Lists (u.setWait l))
    (hm : Marks u.episode l) : Apart i s (u.setWait l) :=
  ⟨h.rest, h.slot, fun e hi => (he e hi).trans (h.entry e hi), h.recent, h.victim, h.cut, h.kind, hl, hm⟩

/-- The entry of slot i leaves the list, where it carries no mark. -/
theorem removeEntry (h : Apart i s u) (hb : u.beneficiary ≠ some i) : Apart i s (u.removeEntry i) := by
  refine h.setWait (fun e hi => ?_) (h.lists.sublist (withoutSlot_sublist _ _)) (h.marks.sublist (withoutSlot_sublist _ _) fun x hx hxb => ?_)
  · rw [mem_withoutSlot]; simp [hi]
  · refine mem_withoutSlot.mpr ⟨hx, fun hi => hb ?_⟩
    obtain ⟨hk, hbn⟩ := h.marks.marked hx hxb
    simp [State.beneficiary, hk, hbn, hi]

/-- A new entry of a slot that held none (R106). -/
theorem insert (h : Apart i s u) {kind : WaitKind} {cls : Nat} (hn : ∀ e ∈ u.waitList, e.slot ≠ i) :
    Apart i s (u.setWait (insertEntry (newEntry i kind cls) u.waitList)) := by
  have hp := insertEntry_perm (newEntry i kind cls) u.waitList
  refine h.setWait (fun e hi => ?_) (h.lists.setWait ?_ (insertEntry_sorted h.lists.sorted) fun e he => ?_) ⟨fun hk => ?_, fun hk => ?_⟩
  · rw [mem_insertEntry]
    exact ⟨fun hh => hh.resolve_left fun hc => hi (by rw [hc]; rfl), .inr⟩
  · rw [(hp.map _).nodup_iff, List.map_cons, List.nodup_cons]
    refine ⟨fun hc => ?_, h.lists.slots⟩
    obtain ⟨x, hx, hxi⟩ := List.mem_map.mp hc
    exact hn x hx hxi
  · rcases mem_insertEntry.mp he with rfl | he
    · exact Nat.zero_le _
    · exact h.lists.overtaken e he
  · obtain ⟨b, h1, h2, h3⟩ := h.marks.preempt hk
    refine ⟨b, h1, ?_, fun x hx hxb => ?_⟩
    · have : ((insertEntry (newEntry i kind cls) u.waitList).filter WaitEntry.beneficiary).Perm (u.waitList.filter WaitEntry.beneficiary) := by
        refine (hp.filter _).trans ?_
        rw [List.filter_cons_of_neg (by simp [newEntry])]
      exact List.perm_singleton.mp (h2 ▸ this.map _)
    · rcases mem_insertEntry.mp hx with rfl | hx
      · cases hxb
      · exact h3 x hx hxb
  · obtain ⟨h1, h2⟩ := h.marks.plain hk
    refine ⟨h1, fun x hx => ?_⟩
    rcases mem_insertEntry.mp hx with rfl | hx
    · rfl
    · exact h2 x hx

/-- The victim list and the cut list change at slot i. -/
theorem setEpisode (h : Apart i s u) {e : Episode} (hk : e.kind = u.episode.kind) (hb : e.beneficiary = u.episode.beneficiary)
    (ht : e.target = u.episode.target) (hv : ∀ v, v.slot ≠ i → v ∈ e.victims → v ∈ u.episode.victims)
    (hx : ∀ x, x.slot ≠ i → x ∈ e.cuts → x ∈ u.episode.cuts) (hn : (e.victims.map Victim.slot ++ e.cuts.map CutEntry.slot).Nodup)
    (hc : e.kind = .none → e.victims = [] ∧ e.cuts = []) : Apart i s (u.setEpisode e) := by
  refine ⟨h.rest, h.slot, h.entry, h.recent, fun v hi hm => h.victim v hi (hv v hi hm), fun x hi hm => h.cut x hi (hx x hi hm), hk ▸ h.kind,
    h.lists.setEpisode hn (ht ▸ h.lists.target) fun hnone => ?_, h.marks.of_episode hk hb⟩
  obtain ⟨c1, c2⟩ := hc hnone
  have hu := h.lists.closed (hk ▸ hnone)
  obtain ⟨k, b, t, vs, xs⟩ := e
  simp only at hk hb ht c1 c2
  rw [hk, hb, ht, c1, c2, hu]
  rfl

/-- A victim's record is written again (R148). -/
theorem mapVictims (h : Apart i s u) (f : Victim → Victim) (hf : ∀ v, (f v).slot = v.slot) (ho : ∀ v, v.slot ≠ i → f v = v) :
    Apart i s (u.setVictims (u.episode.victims.map f)) := by
  have hmap : (u.episode.victims.map f).map Victim.slot = u.episode.victims.map Victim.slot := by simp [Function.comp_def, hf]
  refine h.setEpisode rfl rfl rfl (fun v hi hm => ?_) (fun _ _ => id) (by simpa only [hmap] using h.lists.shed) fun hk => ?_
  · obtain ⟨w, hw, rfl⟩ := List.mem_map.mp hm
    rw [hf] at hi
    rwa [ho w hi]
  · have := h.lists.closed hk
    simp [this, Episode.closed]

theorem refreshVictim (h : Apart i s u) : Apart i s (u.refreshVictim i) :=
  h.mapVictims _ (fun v => by split <;> rfl) (fun v hv => if_neg hv)

theorem retargetVictim (h : Apart i s u) (g : Nat) : Apart i s (u.retargetVictim i g) :=
  h.mapVictims _ (fun v => by split <;> rfl) (fun v hv => if_neg hv)

theorem leaveVictims (h : Apart i s u) : Apart i s (u.leaveVictims i) := by
  refine h.setEpisode rfl rfl rfl (fun v _ hm => List.mem_of_mem_filter hm) (fun _ _ => id) ?_ fun hk => ?_
  · exact h.lists.shed.sublist ((List.filter_sublist.map _).append_right _)
  · have := h.lists.closed hk
    simp [this, Episode.closed]

theorem leaveCuts (h : Apart i s u) : Apart i s (u.leaveCuts i) := by
  refine h.setEpisode rfl rfl rfl (fun _ _ => id) (fun v _ hm => List.mem_of_mem_filter hm) ?_ fun hk => ?_
  · exact h.lists.shed.sublist ((List.filter_sublist.map _).append_left _)
  · have := h.lists.closed hk
    simp [this, Episode.closed]

/-- Slot i is entered in the victim list of an open episode (R146). -/
theorem enterVictim (h : Apart i s u) (g : Nat) (ho : u.episode.kind ≠ .none) (hv : ∀ v ∈ u.episode.victims, v.slot ≠ i)
    (hx : ∀ x ∈ u.episode.cuts, x.slot ≠ i) : Apart i s (u.enterVictim i g) := by
  refine h.setEpisode rfl rfl rfl (fun v hi hm => ?_) (fun _ _ => id) ?_ (fun hk => absurd hk ho)
  · rcases List.mem_append.mp hm with hm | hm
    · exact hm
    · rw [List.mem_singleton] at hm
      exact absurd (by rw [hm]) hi
  · have hp : (List.map Victim.slot (u.episode.victims ++ [{ slot := i, target := g, remaining := u.remainingFor i g }])
        ++ u.episode.cuts.map CutEntry.slot).Perm (i :: (u.episode.victims.map Victim.slot ++ u.episode.cuts.map CutEntry.slot)) := by
      simp only [List.map_append, List.map_cons, List.map_nil, List.append_assoc, List.singleton_append]
      exact List.perm_middle
    refine hp.nodup_iff.mpr (List.nodup_cons.mpr ⟨fun hc => ?_, h.lists.shed⟩)
    rcases List.mem_append.mp hc with hc | hc
    · obtain ⟨v, hm, hi⟩ := List.mem_map.mp hc; exact hv v hm hi
    · obtain ⟨x, hm, hi⟩ := List.mem_map.mp hc; exact hx x hm hi

/-- Slot i is entered in the cut list of an open episode (R147, R148). -/
theorem enterCut (h : Apart i s u) (ho : u.episode.kind ≠ .none) (hv : ∀ v ∈ u.episode.victims, v.slot ≠ i)
    (hx : ∀ x ∈ u.episode.cuts, x.slot ≠ i) : Apart i s (u.enterCut i) := by
  refine h.setEpisode rfl rfl rfl (fun _ _ => id) (fun x hi hm => ?_) ?_ (fun hk => absurd hk ho)
  · rcases List.mem_append.mp hm with hm | hm
    · exact hm
    · rw [List.mem_singleton] at hm
      exact absurd (by rw [hm]) hi
  · have hp : (u.episode.victims.map Victim.slot ++ List.map CutEntry.slot (u.episode.cuts ++ [{ slot := i, counted := (u.slot i).charge }])).Perm
        (i :: (u.episode.victims.map Victim.slot ++ u.episode.cuts.map CutEntry.slot)) := by
      simp only [List.map_append, List.map_cons, List.map_nil]
      rw [← List.append_assoc]
      exact List.perm_append_singleton _ _
    refine hp.nodup_iff.mpr (List.nodup_cons.mpr ⟨fun hc => ?_, h.lists.shed⟩)
    rcases List.mem_append.mp hc with hc | hc
    · obtain ⟨v, hm, hi⟩ := List.mem_map.mp hc; exact hv v hm hi
    · obtain ⟨x, hm, hi⟩ := List.mem_map.mp hc; exact hx x hm hi

theorem open_of_victim (h : Lists u) {v : Victim} (hv : v ∈ u.episode.victims) : u.episode.kind ≠ .none := fun hk => by
  rw [h.closed hk] at hv; cases hv

/-- A victim that is cut moves from the victim list to the cut list (R148). -/
theorem cutVictim (h : Apart i s u) : Apart i s (u.cutVictim i) := by
  unfold State.cutVictim
  split
  · rename_i hvic
    obtain ⟨v, hv, hvi⟩ := List.any_eq_true.mp hvic
    simp only [decide_eq_true_eq] at hvi
    refine h.leaveVictims.enterCut (open_of_victim (u := u) h.lists hv) (fun w hw => by simpa using (List.mem_filter.mp hw).2) fun x hx hxi => ?_
    exact (List.disjoint_of_nodup_append h.lists.shed) (List.mem_map.mpr ⟨v, hv, hvi⟩) (List.mem_map.mpr ⟨x, hx, hxi⟩)
  · exact h

/-- The beneficiary's entry leaves and its PREEMPT closes (R150, R151). -/
theorem closing (h : Apart i s u) (hb : u.beneficiary = some i) {w : State} (rest : w.rest = u.rest) (slot : ∀ j, j ≠ i → w.slot j = u.slot j)
    (wait : w.waitList = withoutSlot i u.waitList) (recent : ∀ j, j ≠ i → j ∈ w.recency → j ∈ u.recency) (nodup : w.recency.Nodup)
    (closed : w.episode = Episode.closed) : Apart i s w := by
  obtain ⟨hk, hbn⟩ : u.episode.kind = .preempt ∧ u.episode.beneficiary = some i := by
    unfold State.beneficiary at hb
    cases hk : u.episode.kind <;> simp_all
  have hl := h.lists.sublist (withoutSlot_sublist i u.waitList)
  refine ⟨rest.trans h.rest, fun j hj => (slot j hj).trans (h.slot j hj), fun e he => ?_, fun j hj hm => h.recent j hj (recent j hj hm), ?_, ?_, ?_,
    (hl.close.setRecency nodup).of_same wait rfl closed, ?_⟩
  · rw [wait, mem_withoutSlot, ← h.entry e he]
    simp [he]
  · rw [closed]; nofun
  · rw [closed]; nofun
  · rw [closed, ← h.kind, hk]; exact ⟨nofun, nofun⟩
  · rw [closed, wait]
    refine Marks.closed fun x hx => ?_
    obtain ⟨hx, hxi⟩ := mem_withoutSlot.mp hx
    by_contra hc
    have := (h.marks.marked hx (by simpa using hc)).2
    rw [hbn, Option.some.injEq] at this
    exact hxi this.symm

/-- The entry of slot i is dropped, and with it a PREEMPT whose beneficiary it was (R118, R119, R151). -/
theorem dropEntry (h : Apart i s u) {e : WaitEntry} (he : e.slot = i) (r : DropReason) : Apart i s (u.dropEntry e r) := by
  subst he
  unfold State.dropEntry State.abandonFor
  have hb : ((u.removeEntry e.slot).report .waitDropped e.slot (dropCode r) 0 0).beneficiary = u.beneficiary := by
    simp [State.beneficiary, State.removeEntry]
  rw [hb]
  split
  · rename_i hbi
    exact h.closing hbi (by simp) (by simp [State.removeEntry]) (by simp [State.removeEntry]) (by simp [State.removeEntry, State.endEpisode])
      (by simpa [State.removeEntry, State.endEpisode] using h.lists.recency) (by simp [State.endEpisode])
  · rename_i hbi
    exact (h.removeEntry hbi).report _ _ _ _ _

theorem noticeDropped (h : Apart i s u) {e : WaitEntry} (he : e.slot = i) : Apart i s (u.noticeDropped e) := by
  unfold State.noticeDropped
  split
  · exact h
  · rw [he]; exact h.notice _ _

/-! What comes of it. -/

theorem committed (h : Apart i s u) : u.committed + (s.slot i).charge = s.committed + (u.slot i).charge := committed_change h.slot

theorem available (h : Apart i s u) : u.available = s.available := available_of_rest h.rest

/-- A charge that does not rise leaves the account within A (R9). -/
theorem funded (h : Apart i s u) (hf : Funded s) (hc : (u.slot i).charge ≤ (s.slot i).charge) : Funded u := fun hlt => by
  have := h.committed
  rw [h.available] at hlt
  exact h.kind.mpr (hf (by omega))

theorem settled (h : Apart i s u) (hf : Settled s) (hc : (s.slot i).charge ≤ (u.slot i).charge) : Settled u := fun hk => by
  have := h.committed
  have := hf (h.kind.mp hk)
  rw [h.available]
  omega

/-- Every other slot holds what it held. -/
theorem holds (h : Apart i s u) {j : SlotId} (hj : j ≠ i) (hs : Holds s j) : Holds u j :=
  hs.of_same (frameCounter_of_rest h.rest) (h.slot j hj) (fun e he => h.entry e (he ▸ hj)) (h.recent j hj) (fun v hv => h.victim v (hv ▸ hj))
    (fun x hx => h.cut x (hx ▸ hj))

theorem vacant (h : Apart i s u) {j : SlotId} (hj : j ≠ i) (hs : Vacant s j) : Vacant u j where
  entry e he hi := hs.entry e ((h.entry e (hi ▸ hj)).mp he) hi
  recent hr := hs.recent (h.recent j hj hr)
  victim v hv hi := hs.victim v (h.victim v (hi ▸ hj) hv) hi
  cut x hx hi := hs.cut x (h.cut x (hi ▸ hj) hx) hi

/-- The invariant stands again once slot i holds what it must, or stands in no list. -/
theorem core' (h : Apart i s u) {P Q : SlotId → Prop} (hs : Core Q s) (hPQ : ∀ j, j ≠ i → (P j ↔ Q j)) (hi : ¬ P i → Holds u i)
    (hv : P i → Vacant u i) (hf : Funded u) : Core P u where
  lists := h.lists
  marks := h.marks
  holds j hj := by
    by_cases hji : j = i
    · subst hji; exact hi hj
    · exact h.holds hji (hs.holds j fun hc => hj ((hPQ j hji).mpr hc))
  vacant j hj := by
    by_cases hji : j = i
    · subst hji; exact hv hj
    · exact h.vacant hji (hs.vacant j ((hPQ j hji).mp hj))
  funded := hf

theorem core (h : Apart i s u) {P : SlotId → Prop} (hs : Core P s) (hP : ¬ P i) (hi : Holds u i) (hf : Funded u) : Core P u :=
  h.core' hs (fun _ _ => Iff.rfl) (fun _ => hi) (fun hc => absurd hc hP) hf

end Apart

namespace Core

variable {P : SlotId → Prop} {s u : State} {i : SlotId}

theorem apart (h : Core P s) (i : SlotId) : Apart i s s := .refl i h.lists h.marks

/-- The invariant speaks of slots, lists, episode and account only. -/
theorem of_view (h : Core P s) (hn : u.frameCounter = s.frameCounter) (ha : u.available = s.available) (hs : u.slots = s.slots)
    (hw : u.waitList = s.waitList) (hr : u.recency = s.recency) (he : u.episode = s.episode) : Core P u where
  lists := h.lists.of_same hw hr he
  marks := by rw [hw, he]; exact h.marks
  holds j hj := (h.holds j hj).of_same hn (by rw [State.slot, State.slot, hs]) (by rw [hw]; exact fun _ _ => Iff.rfl) (by rw [hr]; exact id)
    (by rw [he]; exact fun _ _ => id) (by rw [he]; exact fun _ _ => id)
  vacant j hj := by
    obtain ⟨h1, h2, h3, h4⟩ := h.vacant j hj
    exact ⟨by rw [hw]; exact h1, by rw [hr]; exact h2, by rw [he]; exact h3, by rw [he]; exact h4⟩
  funded := by
    unfold Funded State.committed
    rw [ha, hs, he]
    exact h.funded

end Core

theorem Sound.of_view {P : SlotId → Prop} {s u : State} (h : Sound P s) (hn : u.frameCounter = s.frameCounter) (ha : u.available = s.available)
    (hs : u.slots = s.slots) (hw : u.waitList = s.waitList) (hr : u.recency = s.recency) (he : u.episode = s.episode) : Sound P u :=
  ⟨h.toCore.of_view hn ha hs hw hr he, by unfold Settled State.committed; rw [ha, hs, he]; exact h.settled⟩

/-- A report is no part of it. -/
theorem Sound.append {P : SlotId → Prop} {s : State} (h : Sound P s) (r : Report) : Sound P (s.append r) :=
  h.of_view (by simp) (by simp) (by simp) (by simp) (by simp) (by simp)

theorem Core.append {P : SlotId → Prop} {s : State} (h : Core P s) (r : Report) : Core P (s.append r) :=
  h.of_view (by simp) (by simp) (by simp) (by simp) (by simp) (by simp)

end Sys2Proof.Proofs
end

/-! A grant, the release walk and the follow-up keep the invariant (R10, R114 to R116, R150, R155). -/
section
namespace Sys2Proof.Proofs

open Machine Safety Laws

/-! Counting entries as overtaken (R110). -/

/-- An entry less what overtaking counts. -/
def bare (e : WaitEntry) : WaitEntry := { e with overtaken := 0, anchored := false }

@[simp] theorem bare_overtake (n : Nat) (e : WaitEntry) : bare (e.overtake n) = bare e := rfl

theorem overtake_le (n : Nat) {e : WaitEntry} (h : e.overtaken ≤ 7) : (e.overtake n).overtaken ≤ 7 := by
  simp only [WaitEntry.overtake, Config.maxOvertaken]
  grind

/-- A list whose entries differ from another's only in what overtaking counts. -/
structure Counted (l m : List WaitEntry) : Prop where
  same : m.map bare = l.map bare
  le : ∀ e ∈ m, e.overtaken ≤ 7

namespace Counted

variable {l m : List WaitEntry}

theorem of_map (h : ∀ e ∈ l, e.overtaken ≤ 7) (n : Nat) : Counted l (l.map (WaitEntry.overtake n)) where
  same := by simp [Function.comp_def]
  le e he := by
    obtain ⟨x, hx, rfl⟩ := List.mem_map.mp he
    exact overtake_le n (h x hx)

theorem append {l' m' : List WaitEntry} (h : Counted l m) (h' : Counted l' m') : Counted (l ++ l') (m ++ m') where
  same := by rw [List.map_append, List.map_append, h.same, h'.same]
  le e he := (List.mem_append.mp he).elim (h.le e) (h'.le e)

theorem refl (h : ∀ e ∈ l, e.overtaken ≤ 7) : Counted l l := ⟨rfl, h⟩

theorem mem (h : Counted l m) {e : WaitEntry} (he : e ∈ m) : ∃ x ∈ l, bare x = bare e := by
  have : bare e ∈ l.map bare := h.same ▸ List.mem_map_of_mem he
  simpa using this

theorem slots (h : Counted l m) : m.map WaitEntry.slot = l.map WaitEntry.slot := by
  have := congrArg (List.map WaitEntry.slot) h.same
  simpa [Function.comp_def, bare] using this

theorem symm_mem (h : Counted l m) {e : WaitEntry} (he : e ∈ l) : ∃ x ∈ m, x.slot = e.slot := by
  have : e.slot ∈ m.map WaitEntry.slot := h.slots ▸ List.mem_map_of_mem he
  simpa using this

theorem sorted (h : Counted l m) (hl : l.Pairwise (fun a b => b.cls ≤ a.cls)) : m.Pairwise (fun a b => b.cls ≤ a.cls) := by
  have hb (k : List WaitEntry) : (k.map bare).Pairwise (fun a b => b.cls ≤ a.cls) ↔ k.Pairwise (fun a b => b.cls ≤ a.cls) := by
    rw [List.pairwise_map]; rfl
  rw [← hb, h.same, hb]
  exact hl

theorem marks (h : Counted l m) {e : Episode} (hl : Marks e l) : Marks e m := by
  have hb (k : List WaitEntry) : ((k.map bare).filter WaitEntry.beneficiary).map WaitEntry.slot = (k.filter WaitEntry.beneficiary).map WaitEntry.slot := by
    rw [List.filter_map]
    simp [Function.comp_def, bare]
  refine ⟨fun hk => ?_, fun hk => ⟨(hl.plain hk).1, fun x hx => ?_⟩⟩
  · obtain ⟨b, h1, h2, h3⟩ := hl.preempt hk
    refine ⟨b, h1, by rw [← hb, h.same, hb]; exact h2, fun x hx hxb => ?_⟩
    obtain ⟨y, hy, he⟩ := h.mem hx
    have hkind : y.kind = x.kind := by have := congrArg WaitEntry.kind he; simpa [bare] using this
    have hmark : y.beneficiary = x.beneficiary := by have := congrArg WaitEntry.beneficiary he; simpa [bare] using this
    rw [← hkind]
    exact h3 y hy (hmark.trans hxb)
  · obtain ⟨y, hy, he⟩ := h.mem hx
    have hmark : y.beneficiary = x.beneficiary := by have := congrArg WaitEntry.beneficiary he; simpa [bare] using this
    rw [← hmark]
    exact (hl.plain hk).2 y hy

end Counted

theorem entryOk_bare {t : Slot} {x y : WaitEntry} (h : bare x = bare y) : EntryOk t x ↔ EntryOk t y := by
  have : ∀ z, EntryOk t z ↔ EntryOk t (bare z) := fun z => Iff.rfl
  rw [this x, this y, h]

/-- Counting entries as overtaken keeps the invariant. -/
theorem Core.count {P : SlotId → Prop} {s : State} (h : Core P s) {m : List WaitEntry} (hm : Counted s.waitList m) : Core P (s.setWait m) where
  lists := h.lists.setWait (hm.slots ▸ h.lists.slots) (hm.sorted h.lists.sorted) hm.le
  marks := hm.marks h.marks
  holds j hj := by
    have hs := h.holds j hj
    refine ⟨hs.ok, fun e he hi => ?_, fun hst => ?_, hs.recent, hs.victims, hs.cuts⟩
    · obtain ⟨x, hx, hb⟩ := hm.mem he
      have hslot : x.slot = e.slot := by have := congrArg WaitEntry.slot hb; simpa [bare] using this
      exact (entryOk_bare hb).mp (hs.entries x hx (hslot.trans hi))
    · obtain ⟨e, he, hi⟩ := hs.waits hst
      obtain ⟨x, hx, hxe⟩ := hm.symm_mem he
      exact ⟨x, hx, hxe.trans hi⟩
  vacant j hj := by
    have hs := h.vacant j hj
    refine ⟨fun e he hi => ?_, hs.recent, hs.victim, hs.cut⟩
    obtain ⟨x, hx, hb⟩ := hm.mem he
    have hslot : x.slot = e.slot := by have := congrArg WaitEntry.slot hb; simpa [bare] using this
    exact hs.entry x hx (hslot.trans hi)
  funded := h.funded

theorem counted_countOvertaken (s : State) (i : SlotId) (c : Nat) (h : ∀ e ∈ s.waitList, e.overtaken ≤ 7) :
    ∃ m, Counted s.waitList m ∧ s.countOvertaken i c = s.setWait m := by
  unfold State.countOvertaken
  split
  · exact ⟨_, .refl h, rfl⟩
  · split
    · refine ⟨_, ?_, rfl⟩
      have hd := List.takeWhile_append_dropWhile (p := fun e : WaitEntry => decide (e.slot ≠ i)) (l := s.waitList)
      have hmem : ∀ e, e ∈ s.waitList.takeWhile (fun e => decide (e.slot ≠ i)) ∨ e ∈ s.waitList.dropWhile (fun e => decide (e.slot ≠ i)) →
          e.overtaken ≤ 7 := fun e he => h e (by rw [← hd]; exact List.mem_append.mpr he)
      have := (Counted.of_map (fun e he => hmem e (.inl he)) s.policy.limit).append (.refl (fun e he => hmem e (.inr he)))
      rwa [hd] at this
    · refine ⟨_, ⟨?_, fun e he => ?_⟩, rfl⟩
      · rw [List.map_map]
        refine List.map_congr_left fun e _ => ?_
        simp only [Function.comp]
        split <;> rfl
      · obtain ⟨x, hx, rfl⟩ := List.mem_map.mp he
        split
        · exact overtake_le _ (h x hx)
        · exact h x hx

/-- Counting entries as overtaken keeps the invariant. -/
theorem Core.countOvertaken {P : SlotId → Prop} {s : State} (h : Core P s) (i : SlotId) (c : Nat) : Core P (s.countOvertaken i c) := by
  obtain ⟨m, hm, he⟩ := counted_countOvertaken s i c h.lists.overtaken
  rw [he]
  exact h.count hm

/-! A grant. -/

theorem Apart.powerUp {i : SlotId} {s u : State} (h : Apart i s u) : Apart i s (u.powerUp i) := (h.modSlot _).report _ _ _ _ _

theorem Apart.grantStep {i : SlotId} {s u : State} (h : Apart i s u) (c : Card) (g : Nat) : Apart i s (u.grantStep i c g) := (h.modSlot _).toHead

theorem Apart.grantEntry {i : SlotId} {s u : State} (h : Apart i s u) {e : WaitEntry} (he : e.slot = i) (g : Nat) : Apart i s (u.grantEntry e g) := by
  subst he
  unfold State.grantEntry
  split
  · exact h.powerUp
  · split
    · exact ((h.grantStep _ _).modLink _).report _ _ _ _ _
    · exact h

theorem within_iff (s : State) (k : Int) : s.within k = true ↔ k + s.committed ≤ s.available := by
  rw [State.within, decide_eq_true_iff, State.headroom]
  omega

/-- An entry that the walk would grant, and its grant: the slot is well, holds no reclaim, and K stays within A (R4, R115, R116). -/
structure Granted (n : Nat) (s : State) (e : WaitEntry) (u : State) : Prop where
  ok : SlotOk n e.slot (u.slot e.slot)
  reclaim : (s.slot e.slot).reclaim = none
  uncut : (s.slot e.slot).state ≠ .cutting
  seated : (u.slot e.slot).state = .settling ∨ (u.slot e.slot).state = .active
  recency : (u.slot e.slot).state = .active ∨ (u.recency = s.recency ∧ (s.slot e.slot).state ≠ .active)
  fits : u.committed ≤ s.available

theorem grantEntry_granted {n : Nat} {s : State} {e : WaitEntry} {g : Nat} (hok : SlotOk n e.slot (s.slot e.slot)) (he : EntryOk (s.slot e.slot) e)
    (hg : s.grantFor e = some g) : Granted n s e (s.grantEntry e g) := by
  unfold State.grantFor at hg
  unfold State.grantEntry
  obtain ⟨-, he⟩ := he
  cases hk : e.kind with
  | admission =>
    simp only [hk] at he hg ⊢
    have hu := (slotOk_unpowered (by rw [he]; rfl)).mp hok
    have had : Admissible (s.slot e.slot) := ⟨hu.1, by simpa [he] using hu.2.1, hu.2.2 he⟩
    have hw : s.within (s.slot e.slot).cfg.admission = true := by
      by_contra hc
      rw [if_neg hc] at hg; cases hg
    rw [within_iff] at hw
    have hslot : (s.powerUp e.slot).slot e.slot = { s.slot e.slot with
        charge := (s.slot e.slot).cfg.admission, swen := true, state := .settling
        settle := Timer.start (Config.ticksPerUnit * (s.slot e.slot).cfg.settle) } := by simp [State.powerUp]
    refine ⟨by rw [hslot]; exact had.powerUp, hu.1.reclaim, by simp [he], by rw [hslot]; exact .inl rfl, .inr ⟨by simp [State.powerUp], by simp [he]⟩, ?_⟩
    have hK : (s.powerUp e.slot).committed + (s.slot e.slot).charge = s.committed + (s.slot e.slot).cfg.admission := by
      simp only [State.powerUp, State.committed_report]
      exact s.committed_modSlot e.slot _
    rw [hu.1.charge] at hK
    omega
  | step asked floor =>
    simp only [hk] at he hg ⊢
    obtain ⟨hst, hr, c, hc, hf1, hf2, hf3, hf4⟩ := he
    obtain ⟨c', ha⟩ := (slotOk_active hst).mp hok
    obtain rfl : c' = c := Option.some.inj (ha.card.symm.trans hc)
    rw [hc] at hg
    simp only [hc]
    obtain ⟨h1, h2, h3, -⟩ := ((highest_spec _ _ _).1 g).mp hg
    have hslot : (s.award e.slot c' g).slot e.slot = { s.slot e.slot with
        charge := c'.draw g, card := some { c' with held := g }, lease := leaseAtGrant (s.slot e.slot).cfg.lease
        link := Link.placeAward g (s.slot e.slot).cfg.lease (s.slot e.slot).link } := by
      simp [State.award, State.grantStep, State.toHead, State.modLink]
    have hu : g ≤ c'.usableTop := h2.trans (min_le_right _ _)
    refine ⟨?_, hr, by simp [hst], by rw [hslot]; exact .inr hst, by rw [hslot]; exact .inl hst, ?_⟩
    · rw [hslot]
      exact ha.hold hst hr (hu.trans_lt ha.cardShape.usableTop) (ha.draw_le hu) (fun _ => by omega) (ha.link.placeAward _ _)
    · rw [within_iff_fits, decide_eq_true_iff] at h3
      have hK := committed_change (s := s) (u := s.award e.slot c' g) (i := e.slot) fun j hj => by
        simp [State.award, State.grantStep, State.toHead, State.modLink_slot_other _ hj, State.modSlot_slot_other _ _ hj]
      rw [hslot] at hK
      simp only [Fits] at h3
      dsimp only at hK
      omega

/-- What a slot holds once its entry has been granted and has left. -/
theorem Granted.holds {n : Nat} {s w u : State} {e : WaitEntry} (h : Granted n s e w) (hs : Holds s e.slot) (hn : u.frameCounter = n)
    (hslot : u.slot e.slot = w.slot e.slot) (hw : ∀ x ∈ u.waitList, x.slot ≠ e.slot) (hr : u.recency = w.recency)
    (hv : ∀ v ∈ u.episode.victims, v ∈ s.episode.victims) (hx : ∀ x ∈ u.episode.cuts, x ∈ s.episode.cuts) : Holds u e.slot where
  ok := by rw [hn, hslot]; exact h.ok
  entries x hm hi := absurd hi (hw x hm)
  waits hst := by
    rw [hslot] at hst
    rcases h.seated with h | h <;> · rw [h] at hst; cases hst
  recent hm := by
    rw [hslot]
    rcases h.recency with h | ⟨h1, h2⟩
    · exact h
    · rw [hr, h1] at hm
      exact absurd (hs.recent hm) h2
  victims v hm hi := by
    obtain ⟨_, _, -, hr, -⟩ := hs.victims v (hv v hm) hi
    rw [h.reclaim] at hr; cases hr
  cuts x hm hi := absurd (hs.cuts x (hx x hm) hi).1 h.uncut

theorem powerUp_setWait (s : State) (l : List WaitEntry) (i : SlotId) : (s.setWait l).powerUp i = (s.powerUp i).setWait l :=
  append_setWait (s.modSlot i fun t =>
    { t with
      charge := (s.slot i).cfg.admission
      swen := true
      state := .settling
      settle := Timer.start (Config.ticksPerUnit * (s.slot i).cfg.settle) }) l _

theorem grantEntry_setWait (s : State) (l : List WaitEntry) (e : WaitEntry) (g : Nat) :
    (s.setWait l).grantEntry e g = (s.grantEntry e g).setWait l := by
  unfold State.grantEntry
  split
  · exact powerUp_setWait s l e.slot
  · simp only [State.setWait_slot]
    split
    · exact append_setWait ((s.grantStep e.slot _ g).modLink e.slot _) l _
    · rfl

theorem grantEntry_episode (s : State) (e : WaitEntry) (g : Nat) : (s.grantEntry e g).episode = s.episode := by
  unfold State.grantEntry
  split
  · simp [State.powerUp]
  · split
    · simp [State.award, State.grantStep, State.toHead]
    · rfl

/-- Entries belong to slots that are in their state. -/
theorem Core.free {P : SlotId → Prop} {s : State} (h : Core P s) (e : WaitEntry) (he : e ∈ s.waitList) : ¬ P e.slot :=
  fun hP => (h.vacant _ hP).entry e he rfl

/-- A grant within the walk keeps the invariant (R115, R116). -/
theorem Core.grant {P : SlotId → Prop} {s : State} (h : Core P s) (hk : s.episode.kind = .none) {e : WaitEntry} (he : e ∈ s.waitList)
    {g : Nat} (hg : s.grantFor e = some g) : Core P ((s.grantEntry e g).setWait (withoutSlot e.slot s.waitList)) := by
  have hP := h.free e he
  have hs := h.holds e.slot hP
  have hgr := grantEntry_granted hs.ok (hs.entries e he rfl) hg
  have hb : s.beneficiary ≠ some e.slot := by simp [State.beneficiary, hk]
  have ha := ((h.apart e.slot).removeEntry hb).grantEntry rfl g
  rw [State.removeEntry, grantEntry_setWait] at ha
  refine ha.core h hP (hgr.holds hs (frameCounter_of_rest ha.rest) rfl (fun x hx => (mem_withoutSlot.mp hx).2) rfl ?_ ?_) fun hlt => ?_
  · simp [grantEntry_episode]
  · simp [grantEntry_episode]
  · have := hgr.fits
    rw [ha.available] at hlt
    exact absurd hlt (by simpa using this)

theorem withoutSlot_middle {l m : List WaitEntry} {e : WaitEntry} (h : ((l ++ e :: m).map WaitEntry.slot).Nodup) :
    withoutSlot e.slot (l ++ e :: m) = l ++ m := by
  have hp : ((e :: (l ++ m)).map WaitEntry.slot).Nodup := (List.perm_middle.map _).nodup_iff.mp h
  rw [List.map_cons, List.nodup_cons] at hp
  have hne : ∀ x ∈ l ++ m, x.slot ≠ e.slot := fun x hx hc => hp.1 (List.mem_map.mpr ⟨x, hx, hc⟩)
  unfold withoutSlot
  rw [List.filter_append, List.filter_cons_of_neg (by simp), ← List.filter_append, List.filter_eq_self]
  simpa using hne

/-- The release walk keeps the invariant (R114). -/
theorem walkOver_core {P : SlotId → Prop} {passed rest : List WaitEntry} {s : State} (h : Core P (s.setWait (passed ++ rest)))
    (hk : s.episode.kind = .none) : Core P (walkOver passed rest s) ∧ (walkOver passed rest s).episode.kind = .none := by
  induction rest generalizing passed s with
  | nil => rw [List.append_nil] at h; exact ⟨h, hk⟩
  | cons e rest ih =>
    have granted : ∀ g, s.grantFor e = some g → Core P ((s.grantEntry e g).setWait (passed ++ rest)) := fun g hg => by
      have := h.grant hk (e := e) (by simp) hg
      rwa [State.setWait_waitList, withoutSlot_middle h.lists.slots, grantEntry_setWait, State.setWait_setWait] at this
    unfold walkOver
    cases hg : s.grantFor e with
    | some g =>
      have hkg : (s.grantEntry e g).episode.kind = .none := by rw [grantEntry_episode]; exact hk
      have hcg := granted g hg
      have ho := hcg.lists.overtaken
      cases s.policy.mode with
      | strict => exact ih hcg hkg
      | fit =>
        have hcount := hcg.count ((Counted.of_map (fun x hx => ho x (List.mem_append_left _ hx)) s.policy.limit).append
          (.refl fun x hx => ho x (List.mem_append_right _ hx)))
        rw [State.setWait_setWait] at hcount
        dsimp only
        split
        · exact ⟨hcount, hkg⟩
        · exact ih hcount hkg
    | none =>
      cases s.policy.mode with
      | strict => exact ⟨h, hk⟩
      | fit =>
        dsimp only
        split
        · exact ⟨h, hk⟩
        · exact ih (by simpa using h) hk

theorem Core.walk {P : SlotId → Prop} {s : State} (h : Core P s) (hk : s.episode.kind = .none) : Sound P s.walk := by
  obtain ⟨h1, h2⟩ := walkOver_core (passed := []) (rest := s.waitList) (s := s) h hk
  exact ⟨h1, fun hk' => by rw [State.walk, h2] at hk'; cases hk'⟩

/-- An episode that closes leaves nothing behind in the record (R155). -/
theorem Core.endEpisode {P : SlotId → Prop} {s : State} (h : Core P s) (hk : s.episode.kind = .overdraft) (hf : s.committed ≤ s.available)
    (o : EpisodeOutcome) : Core P (s.endEpisode o) where
  lists := (h.append _).lists.close
  marks := Marks.closed (by simpa [State.endEpisode] using (h.marks.plain (by simp [hk])).2)
  holds j hj := ((h.append _).holds j hj).of_same rfl rfl (fun _ _ => Iff.rfl) id nofun nofun
  vacant j hj := ⟨((h.append _).vacant j hj).entry, ((h.append _).vacant j hj).recent, nofun, nofun⟩
  funded hlt := absurd hlt (by simpa [State.endEpisode] using hf)

/-- The follow-up keeps the invariant, and settles an OVERDRAFT that is covered (R10, R150, R155). -/
theorem Core.followUp {P : SlotId → Prop} {s : State} (h : Core P s) : Sound P s.followUp := by
  unfold State.followUp
  cases hk : s.episode.kind with
  | none =>
    rw [if_neg (by simp [State.episodeOpen, hk])]
    exact h.walk hk
  | overdraft =>
    rw [if_pos (by simp [State.episodeOpen, hk])]
    simp only [State.episodeCheck, hk]
    split
    · rename_i hc
      exact (h.endEpisode hk hc .covered).walk rfl
    · rename_i hc
      exact ⟨h, fun _ => Nat.not_le.mp hc⟩
  | preempt =>
    rw [if_pos (by simp [State.episodeOpen, hk])]
    have stays : Sound P s := ⟨h, fun hk' => by rw [hk] at hk'; cases hk'⟩
    simp only [State.episodeCheck, hk]
    split
    · exact stays
    · rename_i e he
      split
      · rename_i g hg
        obtain ⟨b, hb, hbe⟩ := Option.bind_eq_some_iff.mp he
        obtain ⟨hm, rfl⟩ := entryOf_mem hbe
        obtain ⟨m, hcm, hceq⟩ := counted_countOvertaken s e.slot e.cls h.lists.overtaken
        have hc : Core P (s.setWait m) := h.count hcm
        have hs := hc.holds e.slot (h.free e hm)
        have hgr := grantEntry_granted hs.ok ((h.holds e.slot (h.free e hm)).entries e hm rfl) hg
        have hb' : (s.setWait m).beneficiary = some e.slot := hb
        have hg' : ((s.setWait m).removeEntry e.slot).grantEntry e g = ((s.setWait m).grantEntry e g).setWait (withoutSlot e.slot m) :=
          grantEntry_setWait _ _ _ _
        unfold State.grantBeneficiary
        rw [hceq, hg']
        have ha : Apart e.slot (s.setWait m) ((((s.setWait m).grantEntry e g).setWait (withoutSlot e.slot m)).endEpisode .granted) := by
          refine (hc.apart e.slot).closing hb' ?_ (fun j hj => ?_) ?_ ?_ ?_ ?_
          · simp
          · rw [State.endEpisode_slot, State.setWait_slot, State.grantEntry_slot_other _ _ _ hj]
          · simp [State.endEpisode]
          · have := ((hc.apart e.slot).grantEntry rfl g).recent
            simpa [State.endEpisode] using this
          · simpa [State.endEpisode] using ((hc.apart e.slot).grantEntry rfl g).lists.recency
          · simp [State.endEpisode]
        refine Core.walk (ha.core hc (h.free e hm) (hgr.holds hs (frameCounter_of_rest ha.rest) ?_ ?_ ?_ ?_ ?_) fun hlt => ?_) rfl
        · simp
        · simp [State.endEpisode, mem_withoutSlot]
        · simp [State.endEpisode]
        · simp [State.endEpisode, Episode.closed]
        · simp [State.endEpisode, Episode.closed]
        · have := hgr.fits
          rw [ha.available] at hlt
          exact absurd hlt (by simpa [State.endEpisode] using this)
      · exact stays

end Sys2Proof.Proofs
end

/-! The power path keeps the invariant: admission, the cut, its completion, presence, ENABLE, DISABLE, RESTORE and RESTART (R22 to R37, R120, R168). -/
section
namespace Sys2Proof.Proofs

open Machine Safety Laws

section
variable {P : SlotId → Prop} {s u : State} {i : SlotId}

/-! How an operation on slot i ends. -/

/-- With a follow-up, where the charge has not risen. -/
theorem Apart.followed (h : Apart i s u) (hs : Sound P s) (hP : ¬ P i) (hi : Holds u i) (hc : (u.slot i).charge ≤ (s.slot i).charge) :
    Sound P u.followUp := (h.core hs.toCore hP hi (h.funded hs.funded hc)).followUp

/-- With no follow-up, where the charge stands. -/
theorem Apart.stands (h : Apart i s u) (hs : Sound P s) (hP : ¬ P i) (hi : Holds u i) (hc : (u.slot i).charge = (s.slot i).charge) : Sound P u :=
  ⟨h.core hs.toCore hP hi (h.funded hs.funded hc.le), h.settled hs.settled hc.ge⟩

/-- With no follow-up, where the charge was raised within A. -/
theorem Apart.raised (h : Apart i s u) (hs : Sound P s) (hP : ¬ P i) (hi : Holds u i) (hc : (s.slot i).charge ≤ (u.slot i).charge)
    (hf : u.committed ≤ s.available) : Sound P u :=
  ⟨h.core hs.toCore hP hi fun hlt => absurd hlt (by rw [h.available]; omega), h.settled hs.settled hc⟩

/-- With a follow-up where the charge was lowered. -/
theorem Apart.followedIf (h : Apart i s u) (hs : Sound P s) (hP : ¬ P i) (hi : Holds u i) {b : Bool} (hc : (u.slot i).charge ≤ (s.slot i).charge)
    (hb : b = false → (u.slot i).charge = (s.slot i).charge) : Sound P (u.followUpIf b) := by
  unfold State.followUpIf
  cases b with
  | true => exact h.followed hs hP hi hc
  | false => exact h.stands hs hP hi (hb rfl)

theorem Apart.ok (h : Apart i s u) {t : Slot} (ht : SlotOk s.frameCounter i t) (hu : u.slot i = t) : SlotOk u.frameCounter i (u.slot i) := by
  rw [frameCounter_of_rest h.rest, hu]; exact ht

/-! A dropped entry. -/

@[simp] theorem dropEntry_slot (s : State) (e : WaitEntry) (r : DropReason) (j : SlotId) : (s.dropEntry e r).slot j = s.slot j := by
  rw [dropEntry_eq_entryDropped, entryDropped_slot]

@[simp] theorem dropEntry_waitList (s : State) (e : WaitEntry) (r : DropReason) : (s.dropEntry e r).waitList = withoutSlot e.slot s.waitList := by
  unfold State.dropEntry State.abandonFor
  split <;> simp [State.removeEntry]

@[simp] theorem dropEntry_recency (s : State) (e : WaitEntry) (r : DropReason) : (s.dropEntry e r).recency = s.recency := by
  unfold State.dropEntry State.abandonFor
  split <;> simp [State.removeEntry, State.endEpisode]

theorem dropEntry_episode (s : State) (e : WaitEntry) (r : DropReason) :
    (s.dropEntry e r).episode = s.episode ∨ (s.dropEntry e r).episode = Episode.closed := by
  unfold State.dropEntry State.abandonFor
  split
  · exact .inr (by simp [State.endEpisode])
  · exact .inl (by simp [State.removeEntry])

theorem dropEntry_victim {s : State} {e : WaitEntry} {r : DropReason} {v : Victim} (h : v ∈ (s.dropEntry e r).episode.victims) : v ∈ s.episode.victims := by
  rcases dropEntry_episode s e r with he | he <;> rw [he] at h
  · exact h
  · cases h

theorem dropEntry_cut {s : State} {e : WaitEntry} {r : DropReason} {x : CutEntry} (h : x ∈ (s.dropEntry e r).episode.cuts) : x ∈ s.episode.cuts := by
  rcases dropEntry_episode s e r with he | he <;> rw [he] at h
  · exact h
  · cases h

/-- What a slot in no list holds is its own. -/
theorem Vacant.holds (h : Vacant s i) (hok : SlotOk s.frameCounter i (s.slot i)) (hst : (s.slot i).state ≠ .admitting) : Holds s i where
  ok := hok
  entries e he hi := absurd hi (h.entry e he)
  waits hs := absurd hs hst
  recent hr := absurd hr h.recent
  victims v hv hi := absurd hi (h.victim v hv)
  cuts x hx hi := absurd hi (h.cut x hx)

/-- A slot that is neither ACTIVE nor CUTTING nor ADMITTING stands in no list (R91, R105, R148). -/
theorem Holds.vacant (h : Holds s i) (h1 : (s.slot i).state ≠ .active) (h2 : (s.slot i).state ≠ .cutting)
    (h3 : ∀ e ∈ s.waitList, e.slot ≠ i) : Vacant s i where
  entry := h3
  recent hr := h1 (h.recent hr)
  victim v hv hi := by
    obtain ⟨c, r, -, hr, -⟩ := h.victims v hv hi
    have := h.ok.fits
    simp [slotFits, h1, hr] at this
  cut x hx hi := h2 (h.cuts x hx hi).1

/-- Only slots in ADMITTING and ACTIVE hold entries (R105). -/
theorem Holds.noEntry (h : Holds s i) (h1 : (s.slot i).state ≠ .admitting) (h2 : (s.slot i).state ≠ .active) : ∀ e ∈ s.waitList, e.slot ≠ i := by
  intro e he hi
  obtain ⟨-, hk⟩ := h.entries e he hi
  cases hkind : e.kind with
  | admission => rw [hkind] at hk; exact h1 hk
  | step a f => rw [hkind] at hk; exact h2 hk.1

/-! Admission (R24). -/

theorem Sound.startAdmission (h : Sound (also i P) s) (hP : ¬ P i) (ht : Admissible (s.slot i)) : Sound P (s.startAdmission i) := by
  have hv := h.vacant i (.inl rfl)
  have hPQ : ∀ j, j ≠ i → (P j ↔ also i P j) := fun j hj => ⟨.inr, fun hc => hc.resolve_left hj⟩
  unfold State.startAdmission
  dsimp only
  split
  · rename_i hc
    simp only [Bool.and_eq_true, Bool.not_eq_true', within_iff] at hc
    obtain ⟨⟨hopen, hfit⟩, -⟩ := hc
    have hcount := h.toCore.countOvertaken i (s.slot i).cfg.cls
    obtain ⟨m, hm, he⟩ := counted_countOvertaken s i (s.slot i).cfg.cls h.lists.overtaken
    rw [he] at hcount ⊢
    have hv' := hcount.vacant i (.inl rfl)
    have ha := (hcount.apart i).powerUp
    have hslot : ((s.setWait m).powerUp i).slot i = { s.slot i with
        charge := (s.slot i).cfg.admission, swen := true, state := .settling
        settle := Timer.start (Config.ticksPerUnit * (s.slot i).cfg.settle) } := by simp [State.powerUp]
    have hvac : Vacant ((s.setWait m).powerUp i) i :=
      ⟨by simpa [State.powerUp] using hv'.entry, by simpa [State.powerUp] using hv'.recent, by simpa [State.powerUp] using hv'.victim,
        by simpa [State.powerUp] using hv'.cut⟩
    have hK := ha.committed
    rw [hslot, State.setWait_slot, ht.charge] at hK
    dsimp only [State.committed_setWait] at hK
    have hep : ((s.setWait m).powerUp i).episode = s.episode := by simp [State.powerUp]
    refine ⟨ha.core' hcount hPQ (fun _ => hvac.holds (ha.ok ht.powerUp hslot) (by rw [hslot]; nofun)) (fun hc => absurd hc hP) fun hlt => ?_, fun hk => ?_⟩
    · rw [ha.available, State.available_setWait] at hlt
      omega
    · rw [hep] at hk
      simp [State.episodeOpen, hk] at hopen
  · have ha := (((h.toCore.apart i).insert (kind := .admission) (cls := (s.slot i).cfg.cls) hv.entry).modSlot
      (fun t => { t with state := .admitting })).report .deferred i
        ((s.setWait (insertEntry (newEntry i .admission (s.slot i).cfg.cls) s.waitList)).position i) 0 0
    generalize hu : State.report _ .deferred i _ 0 0 = u at ha ⊢
    have hslot : u.slot i = { s.slot i with state := .admitting } := by rw [← hu]; simp
    have hwait : u.waitList = insertEntry (newEntry i .admission (s.slot i).cfg.cls) s.waitList := by rw [← hu]; simp
    refine ⟨ha.core' h.toCore hPQ (fun _ => ⟨ha.ok ht.wait hslot, fun e he hi => ?_, fun _ => ?_, fun hr => ?_, fun v hm hi => ?_, fun x hm hi => ?_⟩)
      (fun hc => absurd hc hP) (ha.funded h.funded (by rw [hslot])), ha.settled h.settled (by rw [hslot])⟩
    · rw [hwait] at he
      rcases mem_insertEntry.mp he with rfl | he
      · rw [hslot]; exact ⟨rfl, rfl⟩
      · exact absurd hi (hv.entry e he)
    · rw [hwait]; exact ⟨_, mem_insertEntry.mpr (.inl rfl), rfl⟩
    · rw [← hu] at hr; exact absurd (by simpa using hr) hv.recent
    · rw [← hu] at hm; exact absurd hi (hv.victim v (by simpa using hm))
    · rw [← hu] at hm; exact absurd hi (hv.cut x (by simpa using hm))

/-! The start of a cut (R34). -/

theorem cutVictim_victims (s : State) (i : SlotId) : ∀ v ∈ (s.cutVictim i).episode.victims, v.slot ≠ i := by
  unfold State.cutVictim
  split
  · intro v hv
    simpa using (List.mem_filter.mp hv).2
  · rename_i hn
    intro v hv hi
    exact hn (List.any_eq_true.mpr ⟨v, hv, by simpa using hi⟩)

theorem cutVictim_cuts (s : State) (i : SlotId) : ∀ x ∈ (s.cutVictim i).episode.cuts, x ∈ s.episode.cuts ∨ x.counted = (s.slot i).charge := by
  unfold State.cutVictim
  split
  · intro x hx
    rcases List.mem_append.mp hx with hx | hx
    · exact .inl hx
    · rw [List.mem_singleton] at hx
      exact .inr (by rw [hx]; rfl)
  · exact fun x hx => .inl hx

@[simp] theorem cutVictim_slot (s : State) (i j : SlotId) : (s.cutVictim i).slot j = s.slot j := by
  unfold State.cutVictim; split <;> rfl

@[simp] theorem cutVictim_waitList (s : State) (i : SlotId) : (s.cutVictim i).waitList = s.waitList := by
  unfold State.cutVictim; split <;> rfl

@[simp] theorem cutVictim_recency (s : State) (i : SlotId) : (s.cutVictim i).recency = s.recency := by
  unfold State.cutVictim; split <;> rfl

/-- The state in which a cut has begun, before the follow-up that the removal of the slot's own entry calls for. -/
def cutBegun (s : State) (i : SlotId) (r : CutReason) : State :=
  let v := (((s.modSlot i (Slot.cut r)).leaveRecency i).cutVictim i).report .cutStart i (cutReasonCode r) (s.slot i).charge 0
  match v.entryOf i with
  | some e => v.dropEntry e .cut
  | none => v

theorem startCut_eq (s : State) (i : SlotId) (r : CutReason) : s.startCut i r = (cutBegun s i r).followUpIf (s.entryOf i).isSome := by
  unfold State.startCut cutBegun
  dsimp only
  have he : ((((s.modSlot i (Slot.cut r)).leaveRecency i).cutVictim i).report .cutStart i (cutReasonCode r) (s.slot i).charge 0).entryOf i = s.entryOf i := by
    simp [State.entryOf, State.leaveRecency]
  rw [he]
  cases s.entryOf i <;> rfl

theorem Apart.cutBegun (h : Apart i s u) (r : CutReason) : Apart i s (cutBegun u i r) := by
  unfold Proofs.cutBegun
  have ha := (((h.modSlot (Slot.cut r)).leaveRecency).cutVictim).report .cutStart i (cutReasonCode r) (u.slot i).charge 0
  dsimp only
  split
  · rename_i e he
    exact ha.dropEntry (entryOf_mem he).2 .cut
  · exact ha

/-- What the beginning of a cut writes (R34, R68, R91, R118, R148). -/
theorem cutBegun_spec (s : State) (i : SlotId) (r : CutReason) :
    (cutBegun s i r).slot i = (s.slot i).cut r ∧ (cutBegun s i r).waitList = withoutSlot i s.waitList ∧ i ∉ (cutBegun s i r).recency
      ∧ (∀ v ∈ (cutBegun s i r).episode.victims, v.slot ≠ i)
      ∧ ∀ x ∈ (cutBegun s i r).episode.cuts, x ∈ s.episode.cuts ∨ x.counted = (s.slot i).charge := by
  unfold cutBegun
  dsimp only
  have hvic := cutVictim_victims ((s.modSlot i (Slot.cut r)).leaveRecency i) i
  have hcut : ∀ x ∈ (((s.modSlot i (Slot.cut r)).leaveRecency i).cutVictim i).episode.cuts, x ∈ s.episode.cuts ∨ x.counted = (s.slot i).charge := by
    intro x hm
    rcases cutVictim_cuts _ _ x hm with hm | hc
    · exact .inl hm
    · exact .inr (by rw [hc]; simp [State.leaveRecency, Slot.cut])
  generalize hv : State.report _ .cutStart i _ _ 0 = v
  have hvs : v.slot i = (s.slot i).cut r := by rw [← hv]; simp [State.leaveRecency]
  have hvw : v.waitList = s.waitList := by rw [← hv]; simp [State.leaveRecency]
  have hvr : i ∉ v.recency := by rw [← hv]; simp [State.leaveRecency]
  have hvv : ∀ w ∈ v.episode.victims, w.slot ≠ i := by rw [← hv]; simpa using hvic
  have hvc : ∀ x ∈ v.episode.cuts, x ∈ s.episode.cuts ∨ x.counted = (s.slot i).charge := by rw [← hv]; simpa using hcut
  split
  · rename_i e he
    obtain ⟨-, hei⟩ := entryOf_mem he
    exact ⟨by rw [dropEntry_slot]; exact hvs, by rw [dropEntry_waitList, hei, hvw], by rw [dropEntry_recency]; exact hvr,
      fun w hm => hvv w (dropEntry_victim hm), fun x hm => hvc x (dropEntry_cut hm)⟩
  · rename_i he
    have hn := entryOf_none.mp he
    rw [hvw] at hn
    exact ⟨hvs, by rw [hvw, withoutSlot, List.filter_eq_self.mpr (by simpa using hn)], hvr, hvv, hvc⟩

/-- A cut, also of a slot whose presence or enabled flag has just changed, or that the cut list has just taken in (R34, R147). -/
theorem Apart.startCut (h : Apart i s u) (hs : Sound P s) (hP : ¬ P i) {r : CutReason} (hok : SlotOk s.frameCounter i ((u.slot i).cut r))
    (hc : (u.slot i).charge = (s.slot i).charge) (hx : ∀ x ∈ u.episode.cuts, x.slot = i → x.counted = (s.slot i).charge) :
    Sound P (u.startCut i r) := by
  have ha := h.cutBegun r
  obtain ⟨h1, h2, h3, h4, h5⟩ := cutBegun_spec u i r
  have hcc : ((Proofs.cutBegun u i r).slot i).charge = (s.slot i).charge := by rw [h1]; exact hc
  rw [startCut_eq]
  refine ha.followedIf hs hP ⟨ha.ok hok h1, fun e he hi => ?_, fun hn => ?_, fun hr => absurd hr h3, fun v hv hi => absurd hi (h4 v hv), fun x hm hi => ?_⟩
    hcc.le fun _ => hcc
  · rw [h2] at he; exact absurd hi (mem_withoutSlot.mp he).2
  · rw [h1] at hn; cases hn
  · refine ⟨by rw [h1]; rfl, hcc.trans ?_⟩
    rcases h5 x hm with hm | hm
    · exact (hx x hm hi).symm
    · rw [hm, hc]

/-- A powered slot is in no cut list. -/
theorem Holds.noCut (h : Holds s i) (hp : (s.slot i).powered = true) : ∀ x ∈ s.episode.cuts, x.slot ≠ i := fun x hx hi => by
  simp [Slot.powered, (h.cuts x hx hi).1] at hp

/-- A cut of a powered slot, whose presence or enabled flag may have just changed (R23, R32, R34). -/
theorem Sound.cutChanged (h : Sound P s) (hP : ¬ P i) (hp : (s.slot i).powered = true) (p : Debounce Bool) (b : Bool) (r : CutReason) :
    Sound P ((s.modSlot i (fun t => { t with pres := p, enabled := b })).startCut i r) :=
  ((h.toCore.apart i).modSlot _).startCut h hP (by rw [State.modSlot_slot_same]; exact (h.holds i hP).ok.cut hp r p b)
    (by rw [State.modSlot_slot_same]) fun x hx hi => absurd hi ((h.holds i hP).noCut hp x hx)

theorem Sound.startCut (h : Sound P s) (hP : ¬ P i) (hp : (s.slot i).powered = true) (r : CutReason) : Sound P (s.startCut i r) :=
  (h.toCore.apart i).startCut h hP ((h.holds i hP).ok.cut hp r _ _) rfl fun x hx hi => absurd hi ((h.holds i hP).noCut hp x hx)

theorem Sound.cutIfPowered (h : Sound P s) (hP : ¬ P i) (r : CutReason) : Sound P (s.cutIfPowered i r) := by
  unfold State.cutIfPowered
  split
  · exact h.startCut hP ‹_› r
  · exact h

end

end Sys2Proof.Proofs
end

/-! The events of the power path and the commands on it keep the invariant (R22, R23, R26 to R37, R120, R168). -/
section
namespace Sys2Proof.Proofs

open Machine Safety Laws

section
variable {P : SlotId → Prop} {s u : State} {i : SlotId}

/-! A slot between two states. -/

theorem also_iff {j : SlotId} (hj : j ≠ i) : P j ↔ also i P j := ⟨.inr, fun h => h.resolve_left hj⟩

/-- Slot i leaves its state and every list. -/
theorem Apart.leaves (h : Apart i s u) (hs : Sound P s) (hv : Vacant u i) (hc : (u.slot i).charge ≤ (s.slot i).charge) : Core (also i P) u :=
  h.core' hs.toCore (fun _ hj => (also_iff hj).symm) (fun hn => absurd (.inl rfl) hn) (fun _ => hv) (h.funded hs.funded hc)

/-- A slot in no list leaves its state. -/
theorem Sound.leave (h : Sound P s) (hv : Vacant s i) (f : Slot → Slot) (hc : (f (s.slot i)).charge = (s.slot i).charge) :
    Sound (also i P) (s.modSlot i f) := by
  have ha := (h.toCore.apart i).modSlot f
  exact ⟨ha.leaves h ⟨hv.entry, hv.recent, hv.victim, hv.cut⟩ (by rw [State.modSlot_slot_same, hc]), ha.settled h.settled (by rw [State.modSlot_slot_same, hc])⟩

/-- Slot i enters a state in which it is in no list. -/
theorem Sound.enter (h : Sound (also i P) s) (hP : ¬ P i) (f : Slot → Slot) (hc : (f (s.slot i)).charge = (s.slot i).charge)
    (hok : SlotOk s.frameCounter i (f (s.slot i))) (hst : (f (s.slot i)).state ≠ .admitting) : Sound P (s.modSlot i f) := by
  have ha := (h.toCore.apart i).modSlot f
  have hv := h.vacant i (.inl rfl)
  have hv' : Vacant (s.modSlot i f) i := ⟨hv.entry, hv.recent, hv.victim, hv.cut⟩
  exact ⟨ha.core' h.toCore (fun _ => also_iff) (fun _ => hv'.holds (by rw [State.modSlot_slot_same]; exact hok) (by rw [State.modSlot_slot_same]; exact hst))
    (fun hc => absurd hc hP) (ha.funded h.funded (by rw [State.modSlot_slot_same, hc])), ha.settled h.settled (by rw [State.modSlot_slot_same, hc])⟩

theorem modSlot_self (s : State) (i : SlotId) : s.modSlot i (fun t => t) = s := withSlot_self s i

theorem Sound.stay (h : Sound (also i P) s) (hP : ¬ P i) (hok : SlotOk s.frameCounter i (s.slot i)) (hst : (s.slot i).state ≠ .admitting) : Sound P s := by
  have := h.enter hP (fun t => t) rfl hok hst
  rwa [modSlot_self] at this

/-- A slot that draws nothing, in a state with no entry. -/
theorem Unpowered.ok {n : Nat} {t : Slot} (h : Unpowered t) (hs : unpowered t.state = true) (hp : t.pres.value = decide (t.state ≠ .empty))
    (ha : t.state ≠ .admitting) : SlotOk n i t := (slotOk_unpowered hs).mpr ⟨h, hp, fun hc => absurd hc ha⟩

theorem Unpowered.setState {t : Slot} (h : Unpowered t) (st : SlotState) : Unpowered { t with state := st } :=
  ⟨⟨h.cfg, h.reclaim, h.curWidth, h.pendWidth, h.lease, h.run⟩, ⟨h.cutReason, h.destEmpty, h.discharge⟩, h.charge, h.card, h.settle, h.hello, h.swen, h.link⟩

theorem Unpowered.setPresence {t : Slot} (h : Unpowered t) (p : Debounce Bool) : Unpowered { t with pres := p } :=
  ⟨⟨h.cfg, h.reclaim, h.curWidth, h.pendWidth, h.lease, h.run⟩, ⟨h.cutReason, h.destEmpty, h.discharge⟩, h.charge, h.card, h.settle, h.hello, h.swen, h.link⟩

theorem Unpowered.setEnabled {t : Slot} (h : Unpowered t) (b : Bool) : Unpowered { t with enabled := b } :=
  ⟨⟨h.cfg, h.reclaim, h.curWidth, h.pendWidth, h.lease, h.run⟩, ⟨h.cutReason, h.destEmpty, h.discharge⟩, h.charge, h.card, h.settle, h.hello, h.swen, h.link⟩

/-- Presence in EMPTY (R22). -/
theorem Sound.arriveInEmpty (h : Sound (also i P) s) (hP : ¬ P i) (hu : Unpowered (s.slot i)) (hp : (s.slot i).pres.value = true) :
    Sound P (s.arriveInEmpty i) := by
  unfold State.arriveInEmpty
  split
  · exact h.startAdmission hP ⟨hu, hp, ‹_›⟩
  · exact h.enter hP _ rfl ((hu.setState .disabled).ok rfl (by simpa using hp) nofun) nofun

/-- A cut completes (R36, R37). -/
theorem Sound.completeCut (h : Sound P s) (hP : ¬ P i) (hst : (s.slot i).state = .cutting) : Sound P (s.completeCut i) := by
  have hh := h.holds i hP
  have hcut := (slotOk_cutting hst).mp hh.ok
  unfold State.completeCut
  dsimp only
  generalize hd : (s.slot i).destination = d
  have ha := (((h.toCore.apart i).leaveCuts).modSlot (Slot.discharged d)).report .cutDone i (destinationCode d) 0 0
  generalize hv : State.report _ .cutDone i _ 0 0 = v at ha ⊢
  have hvs : v.slot i = (s.slot i).discharged d := by rw [← hv]; simp [State.leaveCuts, State.setCuts]
  have hne := hh.noEntry (by simp [hst]) (by simp [hst])
  have hvac : Vacant v i := by
    rw [← hv]
    refine ⟨by simpa [State.leaveCuts, State.setCuts] using hne, fun hr => ?_, fun w hw hi => ?_, fun x hx => ?_⟩
    · have := hh.recent (by simpa [State.leaveCuts, State.setCuts] using hr)
      simp [hst] at this
    · obtain ⟨_, _, -, hr, -⟩ := hh.victims w (by simpa [State.leaveCuts, State.setCuts] using hw) hi
      rw [hcut.reclaim] at hr; cases hr
    · simp only [State.report_episode, State.modSlot_episode, State.leaveCuts, State.setCuts, State.setEpisode_episode] at hx
      simpa using (List.mem_filter.mp hx).2
  have hf : Sound (also i P) v.followUp := (ha.leaves h hvac (by rw [hvs]; exact Nat.zero_le _)).followUp
  have hfs : v.followUp.slot i = (s.slot i).discharged d := by rw [State.followUp_slot_noEntry hvac.entry, hvs]
  have hu : Unpowered (v.followUp.slot i) := by rw [hfs]; exact hcut.discharged d
  have hpres : (v.followUp.slot i).pres.value = (s.slot i).pres.value := by rw [hfs]; rfl
  have hstate : (v.followUp.slot i).state = d.state := by rw [hfs]; rfl
  have hseat : d ≠ .empty → (s.slot i).pres.value = true := by
    intro hne
    by_contra hc
    apply hne
    rw [← hd, Slot.destination, if_pos (by simp [hc])]
  cases d with
  | admission =>
    refine hf.startAdmission hP ⟨hu, by rw [hpres]; exact hseat nofun, ?_⟩
    have hen : (v.followUp.slot i).enabled = (s.slot i).enabled := by rw [hfs]; rfl
    rw [hen]
    by_contra hc
    unfold Slot.destination at hd
    split at hd
    · cases hd
    · split at hd <;> simp_all
  | empty =>
    dsimp only
    split
    · exact hf.arriveInEmpty hP hu ‹_›
    · refine hf.stay hP (hu.ok (by rw [hstate]; rfl) ?_ (by rw [hstate]; nofun)) (by rw [hstate]; nofun)
      rename_i hpn
      rw [hstate]
      simpa [Destination.state] using hpn
  | disabled =>
    exact hf.stay hP (hu.ok (by rw [hstate]; rfl) (by rw [hpres, hstate]; exact hseat nofun) (by rw [hstate]; nofun)) (by rw [hstate]; nofun)
  | locked =>
    exact hf.stay hP (hu.ok (by rw [hstate]; rfl) (by rw [hpres, hstate]; exact hseat nofun) (by rw [hstate]; nofun)) (by rw [hstate]; nofun)

/-- A slot leaves ADMITTING with its entry (R23, R26, R32). -/
theorem Sound.endAdmitting (h : Sound P s) (hP : ¬ P i) (hst : (s.slot i).state = .admitting) (f : Slot → Slot) (st : SlotState)
    (hc : (f (s.slot i)).charge = (s.slot i).charge) (hok : SlotOk s.frameCounter i { f (s.slot i) with state := st }) (hn : st ≠ .admitting)
    (r : DropReason) : Sound P ((s.modSlot i f).endAdmitting i r st) := by
  have hh := h.holds i hP
  have hrec := ((slotOk_unpowered (by rw [hst]; rfl)).mp hh.ok).1.reclaim
  have hr : i ∉ s.recency := fun hr => by have := hh.recent hr; simp [hst] at this
  have hvi : ∀ v ∈ s.episode.victims, v.slot ≠ i := fun v hv hi => by
    obtain ⟨_, _, -, hr, -⟩ := hh.victims v hv hi
    rw [hrec] at hr; cases hr
  have hx : ∀ x ∈ s.episode.cuts, x.slot ≠ i := fun x hx hi => by have := (hh.cuts x hx hi).1; simp [hst] at this
  have ha := ((h.toCore.apart i).modSlot f).modSlot (fun t => { t with state := st })
  unfold State.endAdmitting
  dsimp only
  generalize hu : (s.modSlot i f).modSlot i (fun t => { t with state := st }) = u at ha ⊢
  have hslot : u.slot i = { f (s.slot i) with state := st } := by rw [← hu]; simp
  have hcu : (u.slot i).charge = (s.slot i).charge := by rw [hslot]; exact hc
  have hnu : (u.slot i).state ≠ .admitting := by rw [hslot]; exact hn
  have hru : u.recency = s.recency := by rw [← hu]; rfl
  have heu : u.episode = s.episode := by rw [← hu]; rfl
  split
  · rename_i e he
    obtain ⟨-, hei⟩ := entryOf_mem he
    have had := ha.dropEntry hei r
    have hv : Vacant (u.dropEntry e r) i :=
      ⟨fun x hm => by rw [dropEntry_waitList, mem_withoutSlot, hei] at hm; exact hm.2, by rw [dropEntry_recency, hru]; exact hr,
        fun v hm => hvi v (heu ▸ dropEntry_victim hm), fun x hm => hx x (heu ▸ dropEntry_cut hm)⟩
    exact had.followed h hP (hv.holds (had.ok hok (by rw [dropEntry_slot, hslot])) (by rw [dropEntry_slot]; exact hnu))
      (by rw [dropEntry_slot]; exact hcu.le)
  · rename_i he
    have hv : Vacant u i := ⟨entryOf_none.mp he, by rw [hru]; exact hr, by rw [heu]; exact hvi, by rw [heu]; exact hx⟩
    exact ha.stands h hP (hv.holds (ha.ok hok hslot) hnu) hcu

/-- A change of a slot of which the Arbiter's lists do not speak. -/
theorem Sound.modSlot (h : Sound P s) (hP : ¬ P i) (f : Slot → Slot) (hok : SlotOk s.frameCounter i (f (s.slot i)))
    (hst : (f (s.slot i)).state = (s.slot i).state) (hcls : (f (s.slot i)).cfg.cls = (s.slot i).cfg.cls) (hc : (f (s.slot i)).charge = (s.slot i).charge)
    (hcard : (f (s.slot i)).card = (s.slot i).card) (hrec : (f (s.slot i)).reclaim = (s.slot i).reclaim) : Sound P (s.modSlot i f) := by
  have ha := (h.toCore.apart i).modSlot f
  have hh := h.holds i hP
  have hs := s.modSlot_slot_same i f
  refine ha.stands h hP ⟨ha.ok hok hs, fun e he hi => ?_, fun hn => ?_, fun hr => ?_, fun v hv hi => ?_, fun x hx hi => ?_⟩ (by rw [hs, hc])
  · have := hh.entries e he hi
    unfold EntryOk at this ⊢
    rw [hs, hst, hcls, hcard, hrec]
    exact this
  · rw [hs, hst] at hn
    exact hh.waits hn
  · rw [hs, hst]; exact hh.recent hr
  · have := hh.victims v hv hi
    unfold VictimOk at this ⊢
    rw [hs, hc, hcard, hrec]
    exact this
  · rw [hs, hst, hc]; exact hh.cuts x hx hi

theorem Sound.setLink (h : Sound P s) (hP : ¬ P i) (f : Link → Link) (hl : LinkOk (linkOn (s.slot i).state) (f (s.slot i).link)) :
    Sound P (s.modLink i f) := h.modSlot hP _ ((h.holds i hP).ok.setLink hl) rfl rfl rfl rfl rfl

/-! Presence (R22, R23). -/

/-- A presence that stands may be taken again; in CUTTING it may change. -/
theorem SlotOk.setPresence {n : Nat} {t : Slot} (h : SlotOk n i t) {p : Debounce Bool} (hp : p.value = t.pres.value ∨ t.state = .cutting) :
    SlotOk n i { t with pres := p } := by
  refine ⟨h.cfg, ?_, h.charge, h.link, h.run⟩
  have := h.fits
  rcases hp with hp | hp
  · simpa [slotFits, hp, Slot.powered, leaseFits] using this
  · simp only [slotFits, hp, seated, Slot.powered, mustBeEnabled, leaseFits] at this ⊢
    simpa using this

theorem SlotOk.pres {n : Nat} {t : Slot} (h : SlotOk n i t) (h1 : t.state ≠ .cutting) : t.pres.value = decide (t.state ≠ .empty) := by
  have := h.fits
  cases hst : t.state <;> simp_all [slotFits, seated]

theorem Sound.setPresence (h : Sound P s) (hP : ¬ P i) {p : Debounce Bool} (hp : p.value = (s.slot i).pres.value ∨ (s.slot i).state = .cutting) :
    Sound P (s.modSlot i (fun t => { t with pres := p })) := h.modSlot hP _ ((h.holds i hP).ok.setPresence hp) rfl rfl rfl rfl rfl

/-- A slot that draws nothing and is not ADMITTING stands in no list. -/
theorem Holds.vacant_of_unpowered (h : Holds s i) (hu : unpowered (s.slot i).state = true) (ha : (s.slot i).state ≠ .admitting) : Vacant s i := by
  have h1 : (s.slot i).state ≠ .active := fun hc => by rw [hc] at hu; cases hu
  have h2 : (s.slot i).state ≠ .cutting := fun hc => by rw [hc] at hu; cases hu
  exact h.vacant h1 h2 (h.noEntry ha h1)

theorem Sound.presenceArrives (h : Sound P s) (hP : ¬ P i) : Sound P (s.presenceArrives i) := by
  have hh := h.holds i hP
  unfold State.presenceArrives
  simp only [State.modSlot_slot_same]
  cases hst : (s.slot i).state with
  | empty =>
    have hu : unpowered (s.slot i).state = true := by rw [hst]; rfl
    refine (h.leave (hh.vacant_of_unpowered hu (by simp [hst])) _ rfl).arriveInEmpty hP ?_ ?_ <;> rw [State.modSlot_slot_same]
    · exact ((slotOk_unpowered hu).mp hh.ok).1.setPresence _
    · rfl
  | cutting => exact h.setPresence hP (.inr hst)
  | _ => exact h.setPresence hP (.inl (by rw [hh.ok.pres (by simp [hst])]; simp [hst, Debounce.rest]))

theorem Sound.presenceLost (h : Sound P s) (hP : ¬ P i) : Sound P (s.presenceLost i) := by
  have hh := h.holds i hP
  have emptied : unpowered (s.slot i).state = true → (s.slot i).state ≠ .admitting →
      Sound P ((s.modSlot i (fun t => { t with pres := Debounce.rest false })).modSlot i (fun t => { t with state := .empty })) := fun hu ha => by
    refine (h.leave (hh.vacant_of_unpowered hu ha) _ rfl).enter hP _ rfl ?_ nofun
    rw [State.modSlot_slot_same]
    exact ((((slotOk_unpowered hu).mp hh.ok).1.setPresence _).setState .empty).ok rfl rfl nofun
  have cut : (s.slot i).powered = true → Sound P ((s.modSlot i (fun t => { t with pres := Debounce.rest false })).startCut i .removed) := fun hp => by
    have := h.cutChanged hP hp (Debounce.rest false) (s.slot i).enabled .removed
    exact this
  unfold State.presenceLost
  simp only [State.modSlot_slot_same]
  cases hst : (s.slot i).state with
  | empty => exact h.setPresence hP (.inl (by rw [hh.ok.pres (by simp [hst])]; simp [hst, Debounce.rest]))
  | disabled => exact emptied (by rw [hst]; rfl) (by simp [hst])
  | locked => exact emptied (by rw [hst]; rfl) (by simp [hst])
  | admitting =>
    have hu := (slotOk_unpowered (by rw [hst]; rfl)).mp hh.ok
    refine h.endAdmitting hP hst (fun t => { t with pres := Debounce.rest false }) .empty rfl ?_ nofun .cut
    exact ((hu.1.setPresence _).setState .empty).ok rfl rfl nofun
  | settling => exact cut (by simp [Slot.powered, hst])
  | listening => exact cut (by simp [Slot.powered, hst])
  | active => exact cut (by simp [Slot.powered, hst])
  | cutting =>
    dsimp only
    rw [State.modSlot_modSlot]
    refine h.modSlot hP (fun t => { t with pres := Debounce.rest false, destEmpty := true }) ?_ rfl rfl rfl rfl rfl
    have hc := (slotOk_cutting hst).mp hh.ok
    exact (slotOk_cutting (by exact hst)).mpr ⟨⟨hc.cfg, hc.reclaim, hc.curWidth, hc.pendWidth, hc.lease, hc.run⟩, hc.lo, hc.hi, hc.card, hc.cutReason,
      hc.discharge, hc.settle, hc.hello, hc.swen, hc.link⟩

theorem Sound.arrivalEvent (h : Sound P s) (hP : ¬ P i) : Sound P (s.arrivalEvent i) := by
  unfold State.arrivalEvent
  split
  · exact h.presenceArrives hP
  · exact h
  · exact h

theorem Sound.lossEvent (h : Sound P s) (hP : ¬ P i) : Sound P (s.lossEvent i) := by
  unfold State.lossEvent
  split
  · exact h.presenceLost hP
  · exact h
  · exact h

/-! Timers of the power path (R28, R29, R36). -/

theorem Sound.settleEvent (h : Sound P s) (hP : ¬ P i) : Sound P (s.settleEvent i) := by
  unfold State.settleEvent
  split
  · rename_i hd
    simp only [Bool.and_eq_true, decide_eq_true_eq] at hd
    have hh := h.holds i hP
    have hset := (slotOk_settling hd.2).mp hh.ok
    have hv := hh.vacant (by simp [hd.2]) (by simp [hd.2]) (hh.noEntry (by simp [hd.2]) (by simp [hd.2]))
    have ha := (h.toCore.apart i).modSlot Slot.listen
    have hv' : Vacant (s.modSlot i Slot.listen) i := ⟨hv.entry, hv.recent, hv.victim, hv.cut⟩
    exact ha.stands h hP (hv'.holds (ha.ok hset.listen (State.modSlot_slot_same _ _ _)) (by rw [State.modSlot_slot_same]; nofun))
      (by rw [State.modSlot_slot_same]; rfl)
  · exact h

theorem Sound.helloEvent (h : Sound P s) (hP : ¬ P i) : Sound P (s.helloEvent i) := by
  unfold State.helloEvent
  split
  · rename_i hd
    simp only [Bool.and_eq_true, decide_eq_true_eq] at hd
    exact h.startCut hP (by simp [Slot.powered, hd.2]) _
  · exact h

theorem Sound.dischargeEvent (h : Sound P s) (hP : ¬ P i) : Sound P (s.dischargeEvent i) := by
  unfold State.dischargeEvent
  split
  · rename_i hd
    simp only [Bool.and_eq_true, decide_eq_true_eq] at hd
    exact h.completeCut hP hd.2
  · exact h

/-! ENABLE, DISABLE, RESTORE (R31, R32, R33). -/

theorem SlotOk.setEnabled {n : Nat} {t : Slot} (h : SlotOk n i t) {b : Bool} (hb : mustBeEnabled t.state = true → b = true) :
    SlotOk n i { t with enabled := b } := by
  refine ⟨h.cfg, ?_, h.charge, h.link, h.run⟩
  have := h.fits
  simp only [slotFits, Bool.and_eq_true] at this ⊢
  refine ⟨this.1, ?_⟩
  cases hm : mustBeEnabled t.state with
  | false => simp
  | true => simp [hb hm]

theorem Sound.setEnabled (h : Sound P s) (hP : ¬ P i) {b : Bool} (hb : mustBeEnabled (s.slot i).state = true → b = true) :
    Sound P (s.modSlot i (fun t => { t with enabled := b })) := h.modSlot hP _ ((h.holds i hP).ok.setEnabled hb) rfl rfl rfl rfl rfl

theorem Sound.enableSlot (h : Sound P s) (hP : ¬ P i) : Sound P (s.enableSlot i) := by
  have hh := h.holds i hP
  unfold State.enableSlot
  simp only [State.modSlot_slot_same]
  split
  · rename_i hst
    have hu : unpowered (s.slot i).state = true := by rw [hst]; rfl
    have hd := (slotOk_unpowered hu).mp hh.ok
    refine (h.leave (hh.vacant_of_unpowered hu (by simp [hst])) (fun t => { t with enabled := true }) rfl).startAdmission hP ?_
    rw [State.modSlot_slot_same]
    exact ⟨hd.1.setEnabled _, by simpa [hst] using hd.2.1, rfl⟩
  · exact h.setEnabled hP fun _ => rfl

theorem Sound.disableSlot (h : Sound P s) (hP : ¬ P i) : Sound P (s.disableSlot i) := by
  have hh := h.holds i hP
  have cut : (s.slot i).powered = true → Sound P ((s.modSlot i (fun t => { t with enabled := false })).startCut i .host) := fun hp => by
    have := h.cutChanged hP hp (s.slot i).pres false .host
    exact this
  unfold State.disableSlot
  simp only [State.modSlot_slot_same]
  cases hst : (s.slot i).state with
  | admitting =>
    have hu := (slotOk_unpowered (by rw [hst]; rfl)).mp hh.ok
    refine h.endAdmitting hP hst (fun t => { t with enabled := false }) .disabled rfl ?_ nofun .host
    exact ((hu.1.setEnabled _).setState .disabled).ok rfl (by simpa [hst] using hu.2.1) nofun
  | settling => exact cut (by simp [Slot.powered, hst])
  | listening => exact cut (by simp [Slot.powered, hst])
  | active => exact cut (by simp [Slot.powered, hst])
  | _ => exact h.setEnabled hP (by simp [hst, mustBeEnabled])

theorem Sound.restoreSlot (h : Sound P s) (hP : ¬ P i) (hst : (s.slot i).state = .locked) : Sound P (s.restoreSlot i) := by
  have hh := h.holds i hP
  have hu : unpowered (s.slot i).state = true := by rw [hst]; rfl
  have hd := (slotOk_unpowered hu).mp hh.ok
  have hp : (s.slot i).pres.value = true := by simpa [hst] using hd.2.1
  have hl := h.leave (hh.vacant_of_unpowered hu (by simp [hst])) (fun t => t) rfl
  rw [modSlot_self] at hl
  unfold State.restoreSlot
  split
  · exact hl.startAdmission hP ⟨hd.1, hp, ‹_›⟩
  · exact hl.enter hP _ rfl ((hd.1.setState .disabled).ok rfl (by simpa using hp) nofun) nofun

end

end Sys2Proof.Proofs
end

/-! The reclaim operation and the frame start keep the invariant (R125 to R141). -/
section
namespace Sys2Proof.Proofs

open Machine Safety Laws

section
variable {P : SlotId → Prop} {s u : State} {i : SlotId} {c : Card}

/-- What an ACTIVE slot holds in the Arbiter's lists. -/
theorem holds_active (hok : SlotOk u.frameCounter i (u.slot i)) (hst : (u.slot i).state = .active)
    (he : ∀ e ∈ u.waitList, e.slot = i → EntryOk (u.slot i) e) (hv : ∀ v ∈ u.episode.victims, v.slot = i → VictimOk (u.slot i) v)
    (hx : ∀ x ∈ u.episode.cuts, x.slot ≠ i) : Holds u i where
  ok := hok
  entries := he
  waits hs := by rw [hst] at hs; cases hs
  recent _ := hst
  victims := hv
  cuts x hm hi := absurd hi (hx x hm)

/-- A slot under reclaim holds no entry (R125). -/
theorem Holds.noEntry_of_reclaim (h : Holds s i) (hst : (s.slot i).state = .active) {r : Reclaim} (hr : (s.slot i).reclaim = some r) :
    ∀ e ∈ s.waitList, e.slot ≠ i := by
  intro e he hi
  obtain ⟨-, hk⟩ := h.entries e he hi
  cases hkind : e.kind with
  | admission => rw [hkind] at hk; rw [hst] at hk; cases hk
  | step a f => rw [hkind] at hk; rw [hr] at hk; cases hk.2.1

theorem Holds.noVictim (h : Holds s i) (hr : (s.slot i).reclaim = none) : ∀ v ∈ s.episode.victims, v.slot ≠ i := by
  intro v hv hi
  obtain ⟨_, _, -, hr', -⟩ := h.victims v hv hi
  rw [hr] at hr'; cases hr'

theorem Holds.noCut_of_active (h : Holds s i) (hst : (s.slot i).state = .active) : ∀ x ∈ s.episode.cuts, x.slot ≠ i :=
  h.noCut (by simp [Slot.powered, hst])

theorem Holds.active (h : Holds s i) (hst : (s.slot i).state = .active) (hc : (s.slot i).card = some c) :
    Active s.frameCounter i (s.slot i) c := by
  obtain ⟨c', ha⟩ := (slotOk_active hst).mp h.ok
  obtain rfl : c' = c := Option.some.inj (ha.card.symm.trans hc)
  exact ha

/-! The start of a reclaim (R125). -/

/-- The state before the follow-up that the removal of the slot's own entry calls for. -/
def reclaimBegun (s : State) (i : SlotId) (target : Nat) (cause : ReclaimCause) : State :=
  (((s.modSlot i (fun t =>
    { t with
      lease := none
      reclaim := some { target := target, cause := cause, phase := .reclaiming, window := Timer.start t.cfg.windowTicks,
                        basis := none, liftPending := false } })).report .reclaimStart i target (causeCode cause) 0).dropForReclaim i).sendReclaim i target

theorem startReclaim_eq (s : State) (i : SlotId) (target : Nat) (cause : ReclaimCause) :
    s.startReclaim i target cause = (reclaimBegun s i target cause).followUpIf (s.entryOf i).isSome := rfl

theorem Apart.dropForReclaim (h : Apart i s u) : Apart i s (u.dropForReclaim i) := by
  unfold State.dropForReclaim
  split
  · rename_i e he
    have hei := (entryOf_mem he).2
    exact (h.dropEntry hei _).noticeDropped hei
  · exact h

theorem Apart.reclaimBegun (h : Apart i s u) (g : Nat) (cause : ReclaimCause) : Apart i s (reclaimBegun u i g cause) :=
  ((h.modSlot _).report _ _ _ _ _).dropForReclaim.sendReclaim _

theorem noticeDropped_lists (s : State) (e : WaitEntry) : (s.noticeDropped e).waitList = s.waitList ∧ (s.noticeDropped e).recency = s.recency
    ∧ (s.noticeDropped e).episode = s.episode := by
  unfold State.noticeDropped
  split
  · exact ⟨rfl, rfl, rfl⟩
  · exact ⟨rfl, rfl, rfl⟩

/-- The start of a reclaim changes of the slot its lease, its reclaim record and its link, and takes its entry out. -/
theorem reclaimBegun_spec (s : State) (i : SlotId) (g : Nat) (cause : ReclaimCause) (hl : LinkOk true (s.slot i).link) :
    (∃ l, LinkOk true l ∧ (reclaimBegun s i g cause).slot i = { s.slot i with
        lease := none
        reclaim := some { target := g, cause := cause, phase := .reclaiming, window := some (s.slot i).cfg.windowTicks, basis := none, liftPending := false }
        link := l })
      ∧ (reclaimBegun s i g cause).waitList = withoutSlot i s.waitList
      ∧ ((reclaimBegun s i g cause).episode = s.episode ∨ (reclaimBegun s i g cause).episode = Episode.closed) := by
  unfold reclaimBegun
  generalize hu : State.report _ .reclaimStart i g (causeCode cause) 0 = u
  have hus : u.slot i = { s.slot i with
      lease := none
      reclaim := some { target := g, cause := cause, phase := .reclaiming, window := some (s.slot i).cfg.windowTicks, basis := none
                        liftPending := false } } := by rw [← hu]; simp [Timer.start]
  have hlu : LinkOk true (u.slot i).link := by rw [hus]; exact hl
  have huw : u.waitList = s.waitList := by rw [← hu]; simp
  have hue : u.episode = s.episode := by rw [← hu]; simp
  have sent (v : State) (l : Link) (hlk : LinkOk true l) (hv : v.slot i = { u.slot i with link := l }) :
      ∃ l', LinkOk true l' ∧ (v.sendReclaim i g).slot i = { u.slot i with link := l' } :=
    ⟨_, hlk.placeReclaim g _, by unfold State.sendReclaim State.modLink; rw [State.modSlot_slot_same, hv]⟩
  unfold State.dropForReclaim
  cases he : u.entryOf i with
  | none =>
    refine ⟨?_, ?_, .inl ?_⟩
    · obtain ⟨l, h1, h2⟩ := sent u (u.slot i).link hlu rfl
      exact ⟨l, h1, by rw [h2, hus]⟩
    · have hn := entryOf_none.mp he
      rw [huw] at hn
      change u.waitList = _
      rw [huw, withoutSlot, List.filter_eq_self.mpr (by simpa using hn)]
    · exact hue
  | some e =>
    obtain ⟨-, hei⟩ := entryOf_mem he
    obtain ⟨hw, -, hep⟩ := noticeDropped_lists (u.dropEntry e .reclaim) e
    refine ⟨?_, ?_, ?_⟩
    · obtain ⟨l, hlk, hn⟩ : ∃ l, LinkOk true l ∧ ((u.dropEntry e .reclaim).noticeDropped e).slot i = { u.slot i with link := l } := by
        unfold State.noticeDropped
        split
        · exact ⟨(u.slot i).link, hlu, by rw [dropEntry_slot]⟩
        · rename_i a f hk
          refine ⟨_, hlu.placeNotice .dropped a, ?_⟩
          rw [hei, State.notice, State.modLink, State.modSlot_slot_same, dropEntry_slot]
      obtain ⟨l', h1, h2⟩ := sent _ l hlk hn
      exact ⟨l', h1, by rw [h2, hus]⟩
    · change ((u.dropEntry e .reclaim).noticeDropped e).waitList = _
      rw [hw, dropEntry_waitList, hei, huw]
    · change ((u.dropEntry e .reclaim).noticeDropped e).episode = _ ∨ ((u.dropEntry e .reclaim).noticeDropped e).episode = _
      rw [hep, ← hue]
      exact dropEntry_episode _ _ _

/-- What slot i holds when its reclaim has begun, where the victim list already names the target (R125, R146). -/
theorem holds_reclaimBegun (ha : Apart i s (reclaimBegun u i g cause)) (hact : Active s.frameCounter i (u.slot i) c)
    (hst : (u.slot i).state = .active) (hr : (u.slot i).reclaim = none) (hg : g < c.held)
    (hv : ∀ v ∈ u.episode.victims, v.slot = i → v.target = g ∧ v.remaining = (u.slot i).charge - c.draw g)
    (hx : ∀ x ∈ u.episode.cuts, x.slot ≠ i) :
    Holds (reclaimBegun u i g cause) i ∧ ((reclaimBegun u i g cause).slot i).charge = (u.slot i).charge := by
  obtain ⟨⟨l, hl, hs⟩, hw, hep⟩ := reclaimBegun_spec u i g cause hact.link
  refine ⟨holds_active (ha.ok (hact.startReclaim hst hr hg cause _ hl) hs) (by rw [hs]; exact hst) (fun e he hi => ?_) (fun v hm hi => ?_)
    (fun x hm => ?_), by rw [hs]⟩
  · rw [hw] at he; exact absurd hi (mem_withoutSlot.mp he).2
  · have hm : v ∈ u.episode.victims := by
      rcases hep with hep | hep <;> rw [hep] at hm
      · exact hm
      · cases hm
    obtain ⟨h1, h2⟩ := hv v hm hi
    rw [hs]
    exact ⟨c, _, hact.card, rfl, h1.symm, rfl, by rw [h2, h1]⟩
  · rcases hep with hep | hep <;> rw [hep] at hm
    · exact hx x hm
    · cases hm

theorem Sound.startReclaim (h : Sound P s) (hP : ¬ P i) (hst : (s.slot i).state = .active) (hc : (s.slot i).card = some c)
    (hr : (s.slot i).reclaim = none) {g : Nat} (hg : g < c.held) (cause : ReclaimCause) : Sound P (s.startReclaim i g cause) := by
  have hh := h.holds i hP
  have ha := (h.toCore.apart i).reclaimBegun g cause
  obtain ⟨h1, h2⟩ := holds_reclaimBegun ha (hh.active hst hc) hst hr hg (fun v hv hi => absurd hi (hh.noVictim hr v hv)) (hh.noCut_of_active hst)
  rw [startReclaim_eq]
  exact ha.followedIf h hP h1 h2.le fun _ => h2

/-! Retargets (R135). -/

theorem retarget_target (c : Card) (g : Nat) (cause : ReclaimCause) (r : Reclaim) (t : Slot) :
    ∃ r', (Slot.retarget c g cause r t).reclaim = some r' ∧ r'.target = g ∧ r'.liftPending = false := by
  unfold Slot.retarget
  cases r.phase <;> exact ⟨_, rfl, rfl, rfl⟩

theorem retarget_same (c : Card) (g : Nat) (cause : ReclaimCause) (r : Reclaim) (t : Slot) :
    (Slot.retarget c g cause r t).state = t.state ∧ (Slot.retarget c g cause r t).charge = t.charge ∧ (Slot.retarget c g cause r t).card = t.card
      ∧ (Slot.retarget c g cause r t).link = t.link := by
  unfold Slot.retarget
  cases r.phase <;> exact ⟨rfl, rfl, rfl, rfl⟩

theorem Sound.retargetReclaim (h : Sound P s) (hP : ¬ P i) (hst : (s.slot i).state = .active) (hc : (s.slot i).card = some c) {r : Reclaim}
    (hr : (s.slot i).reclaim = some r) {g : Nat} (hg : g < r.target) (cause : ReclaimCause) : Sound P (s.retargetReclaim i c r g cause) := by
  have hh := h.holds i hP
  have hact := hh.active hst hc
  have ha := ((((h.toCore.apart i).modSlot (Slot.retarget c g cause r)).report .reclaimStart i g (causeCode cause) 0).sendReclaim g).retargetVictim g
  unfold State.retargetReclaim
  generalize hu : (State.report _ .reclaimStart i g (causeCode cause) 0).sendReclaim i g = u at ha ⊢
  obtain ⟨h1, h2, h3, h4⟩ := retarget_same c g cause r (s.slot i)
  have hus : u.slot i = { Slot.retarget c g cause r (s.slot i) with
      link := Link.placeReclaim g (Slot.retarget c g cause r (s.slot i)).cfg.reclaimWindow (s.slot i).link } := by
    rw [← hu]; simp [State.sendReclaim, State.modLink, h4]
  have huw : u.waitList = s.waitList := by rw [← hu]; simp [State.sendReclaim]
  have hue : u.episode = s.episode := by rw [← hu]; simp [State.sendReclaim]
  have hcharge : (u.slot i).charge = (s.slot i).charge := by rw [hus]; exact h2
  have hcard : (u.slot i).card = some c := by rw [hus]; exact h3.trans hc
  have hok := hact.retarget hst hr hg cause (hact.link.placeReclaim g (Slot.retarget c g cause r (s.slot i)).cfg.reclaimWindow)
  refine ha.stands h hP (holds_active (ha.ok hok hus) ?_ (fun e he hi => ?_) (fun v hv hi => ?_) (fun x hx => ?_)) hcharge
  · change (u.slot i).state = _
    rw [hus]; exact h1.trans hst
  · exact absurd hi (hh.noEntry_of_reclaim hst hr e (huw ▸ he))
  · obtain ⟨w, hw, rfl⟩ := List.mem_map.mp hv
    have hwi : w.slot = i := by
      by_contra hn
      rw [if_neg hn] at hi
      exact hn hi
    rw [if_pos hwi]
    obtain ⟨r', e1, e2, e3⟩ := retarget_target c g cause r (s.slot i)
    refine ⟨c, r', hcard, ?_, e2, e3, ?_⟩
    · change (u.slot i).reclaim = _
      rw [hus]; exact e1
    · change u.remainingFor i g = _
      rw [State.remainingFor, hcard]
      rfl
  · exact hh.noCut_of_active hst x (by rw [← hue]; exact hx)

/-- A target that a cause names to an ACTIVE slot (R136). -/
theorem Sound.reclaimTo (h : Sound P s) (hP : ¬ P i) (hst : (s.slot i).state = .active) (hc : (s.slot i).card = some c) {g : Nat}
    (hg : (s.slot i).reclaim = none → g < c.held) (cause : ReclaimCause) : Sound P (s.reclaimTo i c g cause) := by
  unfold State.reclaimTo
  cases hr : (s.slot i).reclaim with
  | none => exact h.startReclaim hP hst hc hr (hg hr) cause
  | some r =>
    dsimp only
    split
    · exact h.retargetReclaim hP hst hc hr ‹_› cause
    · exact h

end

end Sys2Proof.Proofs
end

/-! Leases, windows, frame starts and the card's CONFIRM and YIELD under reclaim keep the invariant (R93, R100, R101, R128 to R134, R141). -/
section
namespace Sys2Proof.Proofs

open Machine Safety Laws

section
variable {P : SlotId → Prop} {s u : State} {i : SlotId} {c : Card}

/-! Lists under these operations. -/

/-- What an operation on an ACTIVE slot under reclaim leaves to show: that the slot is well, and that its victim's record is still right. -/
theorem Apart.holds_reclaimed (ha : Apart i s u) (hh : Holds s i) (hst : (s.slot i).state = .active) {r : Reclaim} (hr : (s.slot i).reclaim = some r)
    {t : Slot} (hok : SlotOk s.frameCounter i t) (hs : u.slot i = t) (ht : t.state = .active) (hw : u.waitList = s.waitList)
    (hx : u.episode.cuts = s.episode.cuts) (hv : ∀ v ∈ u.episode.victims, v.slot = i → VictimOk t v) : Holds u i :=
  holds_active (ha.ok hok hs) (by rw [hs]; exact ht) (fun e he hi => absurd hi (hh.noEntry_of_reclaim hst hr e (hw ▸ he)))
    (fun v hm hi => by rw [hs]; exact hv v hm hi) (fun x hm => hh.noCut_of_active hst x (hx ▸ hm))

theorem leaveVictims_victims (s : State) (i : SlotId) : ∀ v ∈ (s.leaveVictims i).episode.victims, v.slot ≠ i := fun v hv => by
  simpa using (List.mem_filter.mp hv).2

/-- A refreshed victim agrees with its slot again. -/
theorem victimOk_refresh {t : Slot} {r' : Reclaim} (hs : u.slot i = t) (hc : t.card = some c) (hr : t.reclaim = some r') (hl : r'.liftPending = false)
    (hv : ∀ v ∈ u.episode.victims, v.slot = i → v.target = r'.target) :
    ∀ v ∈ (u.refreshVictim i).episode.victims, v.slot = i → VictimOk t v := by
  intro v hm hi
  obtain ⟨w, hw, rfl⟩ := List.mem_map.mp hm
  have hwi : w.slot = i := by
    by_contra hn
    rw [if_neg hn] at hi
    exact hn hi
  rw [if_pos hwi]
  refine ⟨c, r', hc, hr, (hv w hw hwi).symm, hl, ?_⟩
  change u.remainingFor i w.target = _
  rw [State.remainingFor, hs, hc]

/-! Window, lease and frame (R100, R134, R141). -/

theorem Sound.windowEvent (h : Sound P s) (hP : ¬ P i) : Sound P (s.windowEvent i) := by
  unfold State.windowEvent
  split
  · rename_i hd
    unfold Slot.windowDue at hd
    unfold State.expireWindow
    have hh := h.holds i hP
    cases hr : (s.slot i).reclaim with
    | none => simp [hr] at hd
    | some r =>
      simp only [hr, Bool.and_eq_true, decide_eq_true_eq] at hd
      have hst : (s.slot i).state = .active := by
        by_contra hn
        have := hh.ok.fits
        simp [slotFits, hn, hr] at this
      obtain ⟨c, hact⟩ := (slotOk_active hst).mp hh.ok
      simp only [hact.card, hr]
      have ha := (h.toCore.apart i).modSlot (Slot.windowExpires c r)
      refine ha.stands h hP (ha.holds_reclaimed hh hst hr (hact.windowExpires hst hr hd.1) (State.modSlot_slot_same _ _ _) hst rfl rfl fun v hv hi => ?_)
        (by rw [State.modSlot_slot_same]; rfl)
      obtain ⟨c', r', h1, h2, h3, h4, h5⟩ := hh.victims v hv hi
      rw [hr, Option.some.injEq] at h2
      subst h2
      exact ⟨c', _, h1, rfl, h3, h4, h5⟩
  · exact h

theorem SlotOk.stopLease {n : Nat} {t : Slot} (h : SlotOk n i t) : SlotOk n i { t with lease := none } := by
  refine ⟨h.cfg, ?_, h.charge, h.link, h.run⟩
  have := h.fits
  simp only [slotFits, leaseFits, Slot.powered, Bool.and_eq_true] at this ⊢
  obtain ⟨⟨⟨⟨h1, -⟩, h2⟩, h3⟩, h4⟩ := this
  exact ⟨⟨⟨⟨h1, by simp⟩, h2⟩, h3⟩, h4⟩

theorem Sound.leaseEvent (h : Sound P s) (hP : ¬ P i) : Sound P (s.leaseEvent i) := by
  unfold State.leaseEvent
  split
  · rename_i hd
    simp only [Bool.and_eq_true, decide_eq_true_eq] at hd
    obtain ⟨hdue, hst⟩ := hd
    have hh := h.holds i hP
    obtain ⟨c, hact⟩ := (slotOk_active hst).mp hh.ok
    have hpos : 0 < c.held := hact.lease (by cases hl : (s.slot i).lease <;> simp [hl] at hdue ⊢)
    unfold State.expireLease
    simp only [State.modSlot_slot_same, hact.card]
    have h1 : Sound P (s.modSlot i (fun t => { t with lease := none })) := h.modSlot hP _ hh.ok.stopLease rfl rfl rfl rfl rfl
    have h2 : Sound P ((s.modSlot i (fun t => { t with lease := none })).report .lapsed i c.held 0 0) := h1.append _
    have h3 := h2.setLink hP (Link.placeNotice .lapsed c.held) (by
      simp only [State.report_slot, State.modSlot_slot_same, hst]
      exact hact.link.placeNotice _ _)
    exact h3.reclaimTo hP (by simpa [State.modLink] using hst) (by simpa [State.modLink] using hact.card) (fun _ => hpos) .lapse
  · exact h

theorem Sound.takeWidth (h : Sound P s) (hP : ¬ P i) (hst : (s.slot i).state = .active) (hc : (s.slot i).card = some c) {r : Reclaim}
    (hr : (s.slot i).reclaim = some r) {w : Nat} (hw : (s.slot i).pendWidth = some w) : Sound P (s.takeWidth i c r w) := by
  have hh := h.holds i hP
  have hact := hh.active hst hc
  obtain ⟨-, b, hp⟩ := hact.pending hr hw
  unfold State.takeWidth
  dsimp only
  rw [modSlot_driveRun]
  have ha := (((h.toCore.apart i).modSlot (fun t => driven s.frameCounter i (Slot.applyWidth c r w t))).report .paced i w
    (c.paced (r.basis.getD c.held) w) 0).refreshVictim
  generalize hu : State.report _ .paced i w (c.paced (r.basis.getD c.held) w) 0 = u at ha ⊢
  have hus : u.slot i = driven s.frameCounter i (Slot.applyWidth c r w (s.slot i)) := by rw [← hu]; simp
  have hue : u.episode = s.episode := by rw [← hu]; simp
  have huw : u.waitList = s.waitList := by rw [← hu]; simp
  have hlow : c.paced (r.basis.getD c.held) w ≤ (s.slot i).charge := by rw [hp.basis]; exact hp.lower
  have hH : Holds (u.refreshVictim i) i := by
    refine ha.holds_reclaimed hh hst hr (hact.applyWidth hst hr hw) hus hst huw (by rw [← hue]; rfl) ?_
    refine victimOk_refresh hus hc rfl hp.lift fun v hv hi => ?_
    obtain ⟨c', r', h1, h2, h3, h4, h5⟩ := hh.victims v (hue ▸ hv) hi
    rw [hr, Option.some.injEq] at h2
    subst h2
    exact h3.symm
  refine ha.followedIf h hP hH (by rw [show (u.refreshVictim i).slot i = u.slot i from rfl, hus]; exact hlow) fun hb => ?_
  rw [show (u.refreshVictim i).slot i = u.slot i from rfl, hus]
  change c.paced (r.basis.getD c.held) w = _
  simpa using hb

theorem Sound.claimLift (h : Sound P s) (hP : ¬ P i) (hst : (s.slot i).state = .active) (hc : (s.slot i).card = some c) {r : Reclaim}
    (hr : (s.slot i).reclaim = some r) (hl : r.liftPending = true) : Sound P (s.claimLift i c) := by
  have hh := h.holds i hP
  have hact := hh.active hst hc
  unfold State.claimLift
  split
  · rename_i hfit
    rw [within_iff_fits, decide_eq_true_iff] at hfit
    simp only [Fits] at hfit
    have ha := ((h.toCore.apart i).modSlot (Slot.endReclaim c c.held)).report .paced i Config.frameLength c.heldDraw 0
    generalize hu : State.report _ .paced i Config.frameLength c.heldDraw 0 = u at ha ⊢
    have hus : u.slot i = Slot.endReclaim c c.held (s.slot i) := by rw [← hu]; simp
    have hue : u.episode = s.episode := by rw [← hu]; simp
    have huw : u.waitList = s.waitList := by rw [← hu]; simp
    have hlow : (s.slot i).charge ≤ c.heldDraw := by
      have hf := hact.filled hr
      cases hp : r.phase with
      | reclaiming => have := ((reclaimFits_reclaiming hp).mp hf).2.2.2.1; rw [hl] at this; cases this
      | pacePending => have := ((reclaimFits_pacePending hp).mp hf).2.2.2.1; rw [hl] at this; cases this
      | paced =>
        obtain ⟨b, w, hb⟩ := (reclaimFits_paced hp).mp hf
        exact (hb.lift hl).2.2.le
    have hH : Holds u i := by
      refine ha.holds_reclaimed hh hst hr (hact.endReclaim hst le_rfl hact.link.dropReclaim) hus hst huw (by rw [hue]) fun v hv hi => ?_
      obtain ⟨c', r', h1, h2, h3, h4, h5⟩ := hh.victims v (hue ▸ hv) hi
      rw [hr, Option.some.injEq] at h2
      subst h2
      rw [hl] at h4; cases h4
    have hK := ha.committed
    rw [hus] at hK
    have hd : (Slot.endReclaim c c.held (s.slot i)).charge = c.heldDraw := rfl
    rw [hd] at hK
    exact ha.raised h hP hH (by rw [hus]; exact hlow) (by omega)
  · exact h

theorem Sound.frameEvent (h : Sound P s) (hP : ¬ P i) : Sound P (s.frameEvent i) := by
  unfold State.frameEvent
  split
  · have h1 : Sound P (s.modSlot i (fun t => { t with frameDue := false })) := h.modSlot hP _ (h.holds i hP).ok.clearFrame rfl rfl rfl rfl rfl
    have hh := h1.holds i hP
    unfold State.startFrame
    dsimp only
    generalize s.modSlot i (fun t => { t with frameDue := false }) = u at h1 hh ⊢
    split
    · rename_i c r hc hr
      have hst : (u.slot i).state = .active := by
        by_contra hn
        have := hh.ok.fits
        simp [slotFits, hn, hr] at this
      split
      · exact h1.takeWidth hP hst hc hr ‹_›
      · split
        · exact h1.claimLift hP hst hc hr ‹_›
        · exact h1
    · exact h1
    · exact h1
    · exact h1
  · exact h

/-! The answer of the card (R93, R128 to R132). -/

theorem Sound.concludeReclaim (h : Sound P s) (hP : ¬ P i) (hst : (s.slot i).state = .active) (hc : (s.slot i).card = some c) {r : Reclaim}
    (hr : (s.slot i).reclaim = some r) {g : Nat} (hg : g < c.held) (ht : g ≤ r.target) (k : LinkKind) (tag : BitVec 3) :
    Sound P (s.concludeReclaim i c r k tag g) := by
  have hh := h.holds i hP
  have hact := hh.active hst hc
  have hf := hact.filled hr
  unfold State.concludeReclaim
  dsimp only
  split
  · rename_i hcond
    simp only [Bool.and_eq_true, decide_eq_true_eq] at hcond
    obtain ⟨⟨hp, hlt⟩, -⟩ := hcond
    have ha := ((((h.toCore.apart i).modSlot (Slot.holdOpen c g r)).answer k tag (.done 0)).report .confirmed i g (s.slot i).charge 0).leaveVictims
    generalize hu : State.report _ .confirmed i g (s.slot i).charge 0 = u at ha ⊢
    have hus : u.slot i = { Slot.holdOpen c g r (s.slot i) with link := Link.answer k tag (.done 0) (s.slot i).link } := by
      rw [← hu]; simp [State.answer, State.modLink, Slot.holdOpen]
    have hue : u.episode = s.episode := by rw [← hu]; simp [State.answer]
    have huw : u.waitList = s.waitList := by rw [← hu]; simp [State.answer]
    exact ha.stands h hP (ha.holds_reclaimed hh hst hr (hact.holdOpen hst hr hp hg ht hlt (hact.link.answer k tag (.done 0))) hus hst huw
      (by rw [← hue]; rfl) fun v hv hi => absurd hi (leaveVictims_victims u i v hv)) (by
        rw [show (u.leaveVictims i).slot i = u.slot i from rfl, hus]; rfl)
  · rename_i hcond
    have ha := ((((h.toCore.apart i).modSlot (Slot.endReclaim c g)).answer k tag (.done 0)).report .confirmed i g (c.draw g) 0).leaveVictims
    generalize hu : State.report _ .confirmed i g (c.draw g) 0 = u at ha ⊢
    have hus : u.slot i = { Slot.endReclaim c g (s.slot i) with link := Link.answer k tag (.done 0) (s.slot i).link.dropReclaim } := by
      rw [← hu]; simp [State.answer, State.modLink, Slot.endReclaim]
    have hue : u.episode = s.episode := by rw [← hu]; simp [State.answer]
    have huw : u.waitList = s.waitList := by rw [← hu]; simp [State.answer]
    have hH : Holds (u.leaveVictims i) i :=
      ha.holds_reclaimed hh hst hr (hact.endReclaim hst hg.le (hact.link.dropReclaim.answer k tag (.done 0))) hus hst huw
        (by rw [← hue]; rfl) fun v hv hi => absurd hi (leaveVictims_victims u i v hv)
    have hcu : ((u.leaveVictims i).slot i).charge = c.draw g := by
      rw [show (u.leaveVictims i).slot i = u.slot i from rfl, hus]; rfl
    by_cases hle : c.draw g ≤ (s.slot i).charge
    · exact ha.followedIf h hP hH (by rw [hcu]; exact hle) fun hb => by
        rw [hcu]
        simp only [decide_eq_false_iff_not] at hb
        omega
    · have hstays : decide (c.draw g < (s.slot i).charge) = false := by simp; omega
      rw [hstays]
      have hheld : c.draw g < c.heldDraw := hact.cardShape.draw_lt hg hact.cardShape.held
      have hp : r.phase = .paced := by
        cases hp : r.phase with
        | paced => rfl
        | reclaiming => have := ((reclaimFits_reclaiming hp).mp hf).2.2.2.2.2.2; omega
        | pacePending => have := ((reclaimFits_pacePending hp).mp hf).2.2.2.2.2.2; omega
      have hfit : s.within (s.increase i (c.draw g)) = true := by
        by_contra hn
        exact hcond (by simp [hp, hn]; omega)
      rw [within_iff_fits, decide_eq_true_iff] at hfit
      simp only [Fits] at hfit
      have hK := ha.committed
      rw [hcu] at hK
      exact ha.raised h hP hH (by rw [hcu]; omega) (by omega)

theorem progress_charge (c : Card) (g : Nat) (r : Reclaim) (t : Slot) :
    (Slot.progress c g r t).charge = if r.phase = .paced then t.charge else c.draw g := by
  unfold Slot.progress
  cases r.phase <;> rfl

theorem progress_same (c : Card) (g : Nat) (r : Reclaim) (t : Slot) (hr : t.reclaim = some r) :
    (Slot.progress c g r t).state = t.state ∧ (Slot.progress c g r t).link = t.link ∧ (Slot.progress c g r t).card = some { c with held := g }
      ∧ ∃ r', (Slot.progress c g r t).reclaim = some r' ∧ r'.target = r.target ∧ r'.liftPending = r.liftPending := by
  unfold Slot.progress
  cases r.phase
  · exact ⟨rfl, rfl, rfl, r, hr, rfl, rfl⟩
  · exact ⟨rfl, rfl, rfl, _, rfl, rfl, rfl⟩
  · exact ⟨rfl, rfl, rfl, r, hr, rfl, rfl⟩

theorem Sound.partialReclaim (h : Sound P s) (hP : ¬ P i) (hst : (s.slot i).state = .active) (hc : (s.slot i).card = some c) {r : Reclaim}
    (hr : (s.slot i).reclaim = some r) {g : Nat} (hg : g < c.held) (ht : r.target < g) (tag : BitVec 3) :
    Sound P (s.partialReclaim i c r tag g) := by
  have hh := h.holds i hP
  have hact := hh.active hst hc
  have hf := hact.filled hr
  obtain ⟨p1, p2, p3, r', p4, p5, p6⟩ := progress_same c g r (s.slot i) hr
  unfold State.partialReclaim
  dsimp only
  generalize hw : (s.modSlot i (Slot.progress c g r)).answer i .confirm tag (.done 0) = w
  have haw : Apart i s w := hw ▸ ((h.toCore.apart i).modSlot (Slot.progress c g r)).answer .confirm tag (.done 0)
  have ha := (haw.report .confirmed i g (w.slot i).charge 0).refreshVictim
  generalize hu : w.report .confirmed i g (w.slot i).charge 0 = u at ha ⊢
  have hus : u.slot i = { Slot.progress c g r (s.slot i) with link := Link.answer .confirm tag (.done 0) (s.slot i).link } := by
    rw [← hu, ← hw]; simp [State.answer, State.modLink, p2]
  have hue : u.episode = s.episode := by rw [← hu, ← hw]; simp [State.answer]
  have huw : u.waitList = s.waitList := by rw [← hu, ← hw]; simp [State.answer]
  have hcu : ((u.refreshVictim i).slot i).charge = if r.phase = .paced then (s.slot i).charge else c.draw g := by
    rw [show (u.refreshVictim i).slot i = u.slot i from rfl, hus]; exact progress_charge c g r (s.slot i)
  have hH : Holds (u.refreshVictim i) i := by
    refine ha.holds_reclaimed hh hst hr (hact.progress hst hr hg ht (hact.link.answer .confirm tag (.done 0))) hus (p1.trans hst) huw
      (by rw [← hue]; rfl) ?_
    intro v hv hi
    have hvt : ∀ v ∈ u.episode.victims, v.slot = i → v.target = r.target ∧ r.liftPending = false := fun v hv hi => by
      obtain ⟨c', r'', h1, h2, h3, h4, h5⟩ := hh.victims v (hue ▸ hv) hi
      rw [hr, Option.some.injEq] at h2
      subst h2
      exact ⟨h3.symm, h4⟩
    have hl : r.liftPending = false := by
      obtain ⟨x, hx, rfl⟩ := List.mem_map.mp hv
      have hxi : x.slot = i := by
        by_contra hn
        rw [if_neg hn] at hi
        exact hn hi
      exact (hvt x hx hxi).2
    exact victimOk_refresh (c := { c with held := g }) hus p3 p4 (p6.trans hl) (fun v hv hi => (hvt v hv hi).1.trans p5.symm) v hv hi
  refine ha.followedIf h hP hH ?_ fun hb => ?_
  · rw [hcu]
    have hlow : c.draw g ≤ c.heldDraw := hact.cardShape.draw_le hg.le hact.cardShape.held
    cases hp : r.phase with
    | paced => simp
    | reclaiming => have := ((reclaimFits_reclaiming hp).mp hf).2.2.2.2.2.2; simp; omega
    | pacePending => have := ((reclaimFits_pacePending hp).mp hf).2.2.2.2.2.2; simp; omega
  · rw [hcu]
    simp only [ne_eq, decide_not, Bool.not_eq_false', decide_eq_true_eq] at hb
    rw [if_pos hb]

end

end Sys2Proof.Proofs
end

/-! Shed episodes keep the invariant: victims, the cut tier, opening, enlargement and takeover (R145 to R154). -/
section
namespace Sys2Proof.Proofs

open Machine Safety Laws

section
variable {P : SlotId → Prop} {s u : State} {i : SlotId} {c : Card}

/-! An open episode that the follow-up cannot close. -/

/-- The episode check finds nothing to do: K is above A, or the beneficiary's entry does not fit. -/
def Blocked (s : State) : Prop :=
  (s.episode.kind = .overdraft ∧ s.available < s.committed)
    ∨ (s.episode.kind = .preempt ∧ ∃ b e, s.episode.beneficiary = some b ∧ s.entryOf b = some e ∧ s.grantFor e = none)

theorem followUp_of_blocked (h : Blocked s) : s.followUp = s := by
  unfold State.followUp State.episodeCheck
  rcases h with ⟨hk, hlt⟩ | ⟨hk, b, e, h1, h2, h3⟩
  · rw [if_pos (by simp [State.episodeOpen, hk])]
    simp only [hk]
    rw [if_neg (by omega)]
  · rw [if_pos (by simp [State.episodeOpen, hk])]
    have hb : s.beneficiary.bind s.entryOf = some e := by simp [State.beneficiary, hk, h1, h2]
    simp only [hk, hb, h3]

theorem followUpIf_of_blocked (h : Blocked s) (b : Bool) : s.followUpIf b = s := by
  unfold State.followUpIf
  split
  · exact followUp_of_blocked h
  · rfl

theorem Blocked.open_ (h : Blocked s) : s.episode.kind ≠ .none := by
  rcases h with ⟨hk, -⟩ | ⟨hk, -⟩ <;> simp [hk]

theorem entryOf_iff (h : Lists s) {e : WaitEntry} : s.entryOf i = some e ↔ e ∈ s.waitList ∧ e.slot = i := by
  refine ⟨entryOf_mem, fun ⟨hm, hi⟩ => ?_⟩
  cases hc : s.entryOf i with
  | none => exact absurd hi (entryOf_none.mp hc e hm)
  | some x =>
    obtain ⟨hx, hxi⟩ := entryOf_mem hc
    rw [eq_of_slot h.slots hx hm (hxi.trans hi.symm)]

/-- What the walk would grant an entry depends on its slot and on the headroom (R114). -/
theorem grantFor_congr {e : WaitEntry} (hs : u.slot e.slot = s.slot e.slot) (ha : u.available = s.available) (hc : u.committed = s.committed) :
    u.grantFor e = s.grantFor e := by
  have hw : ∀ k, u.within k = s.within k := fun k => by unfold State.within State.headroom; rw [ha, hc]
  have hb : ∀ c floor top, u.bestStep e.slot c floor top = s.bestStep e.slot c floor top := fun c floor top => by
    simp only [State.bestStep, State.increase, hs, hw]
  simp only [State.grantFor, hs, hw, hb]

/-- A change of slot i that moves neither its charge nor the episode leaves the check with nothing to do. -/
theorem Blocked.apart (h : Blocked s) (ha : Apart i s u) (hb : s.episode.beneficiary ≠ some i)
    (hc : (u.slot i).charge = (s.slot i).charge) (hk : u.episode.kind = s.episode.kind) (hbu : u.episode.beneficiary = s.episode.beneficiary) :
    Blocked u := by
  have hK : u.committed = s.committed := by have := ha.committed; omega
  rcases h with ⟨h1, h2⟩ | ⟨h1, b, e, h2, h3, h4⟩
  · exact .inl ⟨hk.trans h1, by rw [ha.available, hK]; exact h2⟩
  · obtain ⟨hm, hes⟩ := entryOf_mem h3
    have hbi : b ≠ i := fun hc => hb (by rw [h2, hc])
    refine .inr ⟨hk.trans h1, b, e, hbu.trans h2, (entryOf_iff ha.lists).mpr ⟨(ha.entry e (hes ▸ hbi)).mpr hm, hes⟩, ?_⟩
    rw [grantFor_congr (ha.slot _ (hes ▸ hbi)) ha.available hK, h4]

/-! Victims (R146). -/

theorem dropEntry_episode_other {e : WaitEntry} (r : DropReason) (h : s.beneficiary ≠ some e.slot) : (s.dropEntry e r).episode = s.episode := by
  unfold State.dropEntry State.abandonFor
  have hb : ((s.removeEntry e.slot).report .waitDropped e.slot (dropCode r) 0 0).beneficiary = s.beneficiary := by
    simp [State.beneficiary, State.removeEntry]
  rw [hb, if_neg h]
  simp [State.removeEntry]

theorem reclaimBegun_episode {g : Nat} {cause : ReclaimCause} (h : s.beneficiary ≠ some i) : (reclaimBegun s i g cause).episode = s.episode := by
  unfold reclaimBegun
  generalize hu : State.report _ .reclaimStart i g (causeCode cause) 0 = u
  have hue : u.episode = s.episode := by rw [← hu]; simp
  have hub : u.beneficiary = s.beneficiary := by simp [State.beneficiary, hue]
  change (u.dropForReclaim i).episode = _
  unfold State.dropForReclaim
  split
  · rename_i e he
    obtain ⟨-, hei⟩ := entryOf_mem he
    rw [(noticeDropped_lists _ _).2.2, dropEntry_episode_other _ (by rw [hub, hei]; exact h), hue]
  · exact hue

theorem beneficiary_of_ne (h : s.episode.beneficiary ≠ some i) : s.beneficiary ≠ some i := by
  unfold State.beneficiary
  cases s.episode.kind <;> simp [h]

/-- A slot that may become a victim now (R145). -/
structure Shedable (s : State) (i : SlotId) (c : Card) : Prop where
  active : (s.slot i).state = .active
  card : (s.slot i).card = some c
  free : (s.slot i).reclaim = none
  other : s.episode.beneficiary ≠ some i

/-- A slot becomes a victim (R146): its reclaim begins, and the follow-up of its dropped entry does nothing. -/
theorem makeVictim_spec (h : Sound nobody s) (hb : Blocked s) (hi : Shedable s i c) {g : Nat} (hg : g < c.held) :
    s.makeVictim i g = reclaimBegun (s.enterVictim i g) i g .shed ∧ Apart i s (s.makeVictim i g) ∧ Sound nobody (s.makeVictim i g)
      ∧ Blocked (s.makeVictim i g) ∧ (s.makeVictim i g).episode = (s.enterVictim i g).episode := by
  obtain ⟨hst, hc, hr, hne⟩ := hi
  have hh := h.holds i id
  have hv := hh.noVictim hr
  have hx := hh.noCut_of_active hst
  have ha := ((h.toCore.apart i).enterVictim g hb.open_ hv hx).reclaimBegun g .shed
  have hep : (reclaimBegun (s.enterVictim i g) i g .shed).episode = (s.enterVictim i g).episode := reclaimBegun_episode (beneficiary_of_ne hne)
  obtain ⟨h1, h2⟩ := holds_reclaimBegun (u := s.enterVictim i g) ha (hh.active hst hc) hst hr hg (fun v hvm hvi => by
    rcases List.mem_append.mp hvm with hvm | hvm
    · exact absurd hvi (hv v hvm)
    · rw [List.mem_singleton] at hvm
      subst hvm
      exact ⟨rfl, by simp [State.remainingFor, hc, State.enterVictim, State.setVictims]⟩) hx
  have hblk : Blocked (reclaimBegun (s.enterVictim i g) i g .shed) := hb.apart ha hne h2 (by rw [hep]; rfl) (by rw [hep]; rfl)
  have heq : s.makeVictim i g = reclaimBegun (s.enterVictim i g) i g .shed := by
    unfold State.makeVictim
    rw [startReclaim_eq, followUpIf_of_blocked hblk]
  rw [heq]
  exact ⟨rfl, ha, ha.stands h id h1 h2, hblk, hep⟩

theorem lastTarget_lt {c : Card} {sum amount : Nat} (h : c.effFloor < c.held) : lastTarget c sum amount < c.held := by
  unfold lastTarget
  cases hh : highest (fun k => decide (amount ≤ sum + (c.heldDraw - c.draw k))) c.effFloor (c.held - 1) with
  | none => exact h
  | some g =>
    have := ((highest_spec _ _ _).1 g).mp hh
    simp only [Option.getD_some]
    omega

/-- Each slot of a list may become a victim, with a floor below its held step. -/
def AllShedable (s : State) (l : List SlotId) : Prop := ∀ i ∈ l, ∃ c, Shedable s i c ∧ c.effFloor < c.held

theorem AllShedable.rest {l : List SlotId} (h : AllShedable s l) (hi : i ∉ l) (ha : Apart i s u) (hb : u.episode.beneficiary = s.episode.beneficiary) :
    AllShedable u l := fun j hj => by
  obtain ⟨c, ⟨h1, h2, h3, h4⟩, h5⟩ := h j hj
  have hji : j ≠ i := fun hc => hi (hc ▸ hj)
  rw [← ha.slot j hji] at h1 h2 h3
  exact ⟨c, ⟨h1, h2, h3, by rw [hb]; exact h4⟩, h5⟩

theorem takeVictims_sound {amount : Nat} {l : List SlotId} {sum : Nat} (hl : l.Nodup) (h : Sound nobody s) (hb : Blocked s) (hc : AllShedable s l) :
    Sound nobody (takeVictims amount l sum s).2 ∧ (takeVictims amount l sum s).2.episode.kind = s.episode.kind := by
  induction l generalizing sum s with
  | nil => exact ⟨h, rfl⟩
  | cons i l ih =>
    obtain ⟨hi, hl⟩ := List.nodup_cons.mp hl
    obtain ⟨c, hs, hf⟩ := hc i (by simp)
    have hrest : AllShedable s l := fun j hj => hc j (List.mem_cons_of_mem _ hj)
    unfold takeVictims
    simp only [hs.card]
    split
    · obtain ⟨-, h1, h2, h3, h4⟩ := makeVictim_spec h hb hs hf
      obtain ⟨r1, r2⟩ := ih hl h2 h3 (hrest.rest hi h1 (by rw [h4]; rfl)) (sum := sum + s.reduction i)
      exact ⟨r1, by rw [r2, h4]; rfl⟩
    · obtain ⟨-, h1, h2, h3, h4⟩ := makeVictim_spec h hb hs (lastTarget_lt hf (sum := sum) (amount := amount))
      exact ⟨h2, by rw [h4]; rfl⟩

/-! The shed order (R145). -/

theorem mem_inShedOrder {p : SlotId → Bool} (h : i ∈ s.inShedOrder p) : p i = true := by
  unfold State.inShedOrder at h
  obtain ⟨k, -, hk⟩ := List.mem_flatMap.mp h
  rcases List.mem_append.mp hk with hk | hk
  · have := (List.mem_filter.mp hk).2
    simp only [Bool.and_eq_true] at this
    exact this.2
  · have := (List.mem_filter.mp hk).2
    simp only [Bool.and_eq_true] at this
    exact this.1.2

theorem nodup_inShedOrder (h : s.recency.Nodup) (p : SlotId → Bool) : (s.inShedOrder p).Nodup := by
  unfold State.inShedOrder
  rw [List.nodup_flatMap]
  have hcls : ∀ k x, x ∈ s.recency.filter (fun i => decide ((s.slot i).cfg.cls = k) && p i)
      ++ slotIds.reverse.filter (fun i => decide ((s.slot i).cfg.cls = k) && p i && !s.recency.contains i) → (s.slot x).cfg.cls = k := by
    intro k x hx
    rcases List.mem_append.mp hx with hx | hx
    · have := (List.mem_filter.mp hx).2
      simp only [Bool.and_eq_true, decide_eq_true_eq] at this
      exact this.1
    · have := (List.mem_filter.mp hx).2
      simp only [Bool.and_eq_true, decide_eq_true_eq] at this
      exact this.1.1
  refine ⟨fun k _ => List.nodup_append'.mpr ⟨h.filter _, (List.nodup_reverse.mpr nodup_slotIds).filter _, fun x h1 h2 => ?_⟩, ?_⟩
  · have hr := List.mem_of_mem_filter h1
    have := (List.mem_filter.mp h2).2
    simp [hr] at this
  · have hn : [0, 1, 2, 3].Nodup := by decide
    refine hn.imp fun {a b} hab => ?_
    intro x h1 h2
    exact hab ((hcls a x h1).symm.trans (hcls b x h2))

theorem candidates_shedable {below : Option Nat} (hb : ∀ i, s.isCandidate below i = true → s.episode.beneficiary ≠ some i) :
    AllShedable s (s.candidates below) := by
  intro j hj
  have hp := mem_inShedOrder hj
  have hne := hb j hp
  unfold State.isCandidate at hp
  simp only [Bool.and_eq_true, decide_eq_true_eq, Option.isNone_iff_eq_none] at hp
  obtain ⟨⟨⟨h1, h2⟩, h3⟩, -⟩ := hp
  cases hc : (s.slot j).card with
  | none => simp [hc] at h3
  | some c => exact ⟨c, ⟨h1, hc, h2, hne⟩, by simpa [hc] using h3⟩

theorem Sound.chooseVictims (h : Sound nobody s) (hb : Blocked s) {below : Option Nat}
    (hne : ∀ i, s.isCandidate below i = true → s.episode.beneficiary ≠ some i) (amount : Nat) :
    Sound nobody (s.chooseVictims below amount).2 ∧ (s.chooseVictims below amount).2.episode.kind = s.episode.kind :=
  takeVictims_sound (nodup_inShedOrder h.lists.recency _) h hb (candidates_shedable hne)

/-! The cut tier (R147). -/

/-- A slot of the tier is cut, and nothing else changes but its places (R147). -/
theorem tierCut_spec (h : Sound nobody s) (hk : s.episode.kind = .overdraft) (hp : (s.slot i).powered = true) :
    (∃ u, (u = s ∧ s.isVictim i = true ∨ u = s.enterCut i ∧ ∀ v ∈ s.episode.victims, v.slot ≠ i) ∧ s.tierCut i = cutBegun u i .shed) ∧ Apart i s (s.tierCut i)
      ∧ Sound nobody (s.tierCut i) ∧ (s.tierCut i).episode.kind = .overdraft := by
  have hh := h.holds i id
  have hx := hh.noCut hp
  obtain ⟨u, hu, hst, ha, hs, hcuts⟩ : ∃ u, (u = s ∧ s.isVictim i = true ∨ u = s.enterCut i ∧ ∀ v ∈ s.episode.victims, v.slot ≠ i) ∧ s.tierCut i = u.startCut i .shed
      ∧ Apart i s u ∧ u.slot i = s.slot i ∧ ∀ x ∈ u.episode.cuts, x.slot = i → x.counted = (s.slot i).charge := by
    unfold State.tierCut
    split
    · exact ⟨s, .inl ⟨rfl, ‹_›⟩, rfl, h.toCore.apart i, rfl, fun x hm hi => absurd hi (hx x hm)⟩
    · rename_i hn
      have hv : ∀ v ∈ s.episode.victims, v.slot ≠ i := fun v hv hi => hn (List.any_eq_true.mpr ⟨v, hv, by simpa using hi⟩)
      refine ⟨s.enterCut i, .inr ⟨rfl, hv⟩, rfl, (h.toCore.apart i).enterCut (by simp [hk]) hv hx, rfl, fun x hm hi => ?_⟩
      rcases List.mem_append.mp hm with hm | hm
      · exact absurd hi (hx x hm)
      · rw [List.mem_singleton] at hm
        rw [hm]
  have hsound := ha.startCut h id (r := .shed) (by rw [hs]; exact hh.ok.cut hp _ _ _) (by rw [hs]) hcuts
  have hab := ha.cutBegun .shed
  have hkb : (cutBegun u i .shed).episode.kind = .overdraft := hab.kind.mpr hk
  have hblk : Blocked (cutBegun u i .shed) := by
    refine .inl ⟨hkb, ?_⟩
    have hK := hab.committed
    have hc : ((cutBegun u i .shed).slot i).charge = (s.slot i).charge := by rw [(cutBegun_spec u i .shed).1, hs]; rfl
    have := h.settled hk
    rw [hab.available]
    omega
  have heq : s.tierCut i = cutBegun u i .shed := by rw [hst, startCut_eq, followUpIf_of_blocked hblk]
  rw [← hst] at hsound
  refine ⟨⟨u, hu, heq⟩, ?_, hsound, ?_⟩ <;> rw [heq]
  · exact hab
  · exact hkb

theorem takeCuts_sound {amount : Nat} {l : List SlotId} {sum : Nat} (hl : l.Nodup) (h : Sound nobody s) (hk : s.episode.kind = .overdraft)
    (hp : ∀ i ∈ l, (s.slot i).powered = true) : Sound nobody (takeCuts amount l sum s) := by
  induction l generalizing sum s with
  | nil => exact h
  | cons i l ih =>
    obtain ⟨hi, hl⟩ := List.nodup_cons.mp hl
    unfold takeCuts
    split
    · exact h
    · obtain ⟨-, h1, h2, h3⟩ := tierCut_spec h hk (hp i (by simp))
      exact ih hl h2 h3 fun j hj => by
        rw [h1.slot j fun hc => hi (hc ▸ hj)]
        exact hp j (List.mem_cons_of_mem _ hj)

/-- An OVERDRAFT choice keeps the invariant (R146, R147). -/
theorem Sound.cover (h : Sound nobody s) (hk : s.episode.kind = .overdraft) (amount : Nat) : Sound nobody (s.cover amount) := by
  have hbn := (h.marks.plain (by simp [hk])).1
  obtain ⟨h1, h2⟩ := h.chooseVictims (.inl ⟨hk, h.settled hk⟩) (below := none) (fun i _ => by rw [hbn]; nofun) amount
  unfold State.cover
  dsimp only
  split
  · refine takeCuts_sound (nodup_inShedOrder h1.lists.recency _) h1 (h2.trans hk) fun i hi => ?_
    have := mem_inShedOrder hi
    simp only [Bool.and_eq_true] at this
    exact this.1
  · exact h1

/-! K above A (R14, R17). -/

/-- The forms of slots and lists, whatever K and A are. -/
structure Formed (s : State) : Prop where
  lists : Lists s
  marks : Marks s.episode s.waitList
  holds : ∀ j, Holds s j

theorem Sound.formed (h : Sound nobody s) : Formed s := ⟨h.lists, h.marks, fun j => h.holds j id⟩

theorem Formed.sound (h : Formed s) (hf : Funded s) (hs : Settled s) : Sound nobody s := ⟨⟨h.lists, h.marks, fun j _ => h.holds j, nofun, hf⟩, hs⟩

/-- K is at most eight charges of 1023 units. -/
theorem Formed.committed_le (h : Formed s) (i : SlotId) : s.committed ≤ (s.slot i).charge + 7161 := by
  rw [State.committed_eq_sum, ← Finset.add_sum_erase _ _ (Finset.mem_univ i)]
  have : ∑ j ∈ Finset.univ.erase i, (s.slot j).charge ≤ (Finset.univ.erase i).card • 1023 :=
    Finset.sum_le_card_nsmul _ _ _ fun j _ => (h.holds j).ok.charge_le
  rw [Finset.card_erase_of_mem (Finset.mem_univ i)] at this
  simp at this
  omega

theorem Formed.committed_le_max (h : Formed s) : s.committed ≤ 8184 := by
  have h0 := h.committed_le 0
  have h1 := (h.holds 0).ok.charge_le
  omega

/-- What is written into an open episode's head while K is above A. -/
theorem Formed.opened (h : Formed s) (hlt : s.available < s.committed) {l : List WaitEntry} {e : Episode} (hk : e.kind = .overdraft)
    (hb : e.beneficiary = none) (ht : e.target ≤ 8184) (hv : e.victims = s.episode.victims) (hx : e.cuts = s.episode.cuts)
    (hl : l = clearMarks s.waitList) : Sound nobody ((s.setWait l).setEpisode e).reportOpen := by
  subst hl
  have hmem : ∀ x ∈ clearMarks s.waitList, ∃ y ∈ s.waitList, x = { y with beneficiary := false } := fun x hx => by
    obtain ⟨y, hy, rfl⟩ := List.mem_map.mp hx
    exact ⟨y, hy, rfl⟩
  have hslot : (clearMarks s.waitList).map WaitEntry.slot = s.waitList.map WaitEntry.slot := by simp [clearMarks, Function.comp_def]
  refine Sound.append (Formed.sound (s := (s.setWait (clearMarks s.waitList)).setEpisode e) ⟨?_, ⟨fun hc => ?_, fun _ => ⟨hb, fun x hm => ?_⟩⟩, fun j => ?_⟩ (fun _ => hk) (fun _ => hlt)) _
  · refine (h.lists.setWait (by rw [hslot]; exact h.lists.slots) ?_ fun x hm => ?_).setEpisode (by rw [hv, hx]; exact h.lists.shed) ht
      (fun hc => by rw [hk] at hc; cases hc)
    · rw [clearMarks, List.pairwise_map]; exact h.lists.sorted
    · obtain ⟨y, hy, rfl⟩ := hmem x hm
      exact h.lists.overtaken y hy
  · rw [State.setEpisode_episode, hk] at hc; cases hc
  · obtain ⟨y, hy, rfl⟩ := hmem x hm
    rfl
  · have hj := h.holds j
    refine ⟨hj.ok, fun x hm hi => ?_, fun hst => ?_, hj.recent, fun v hm => hj.victims v (hv ▸ hm), fun x hm => hj.cuts x (hx ▸ hm)⟩
    · obtain ⟨y, hy, rfl⟩ := hmem x hm
      exact hj.entries y hy hi
    · obtain ⟨e, he, hei⟩ := hj.waits hst
      exact ⟨_, List.mem_map_of_mem he, hei⟩

theorem clearMarks_plain {l : List WaitEntry} (h : ∀ x ∈ l, x.beneficiary = false) : clearMarks l = l := by
  unfold clearMarks
  conv_rhs => rw [← List.map_id l]
  exact List.map_congr_left fun x hx => by rw [← h x hx]; rfl

theorem reportOpen_kind (s : State) : s.reportOpen.episode.kind = s.episode.kind := by simp [State.reportOpen]

/-- A fall of A that leaves K above it opens, enlarges or takes over an episode, and keeps the invariant (R14, R17, R152, R153, R154). -/
theorem Formed.overdrawn (h : Formed s) (hk : s.episode.kind = .overdraft → s.available < s.committed) : Sound nobody s.overdrawn := by
  unfold State.overdrawn
  split
  · rename_i hle
    exact h.sound (fun hlt => absurd hlt (by omega)) hk
  · rename_i hn
    have hlt : s.available < s.committed := by omega
    have hmax := h.committed_le_max
    cases hkind : s.episode.kind with
    | none =>
      have hcl := h.lists.closed hkind
      have hm := (h.marks.plain (by simp [hkind])).2
      have := h.opened hlt (l := s.waitList) (e := { Episode.closed with kind := .overdraft, target := s.committed - s.available }) rfl rfl
        (show s.committed - s.available ≤ 8184 by omega) (by rw [hcl]) (by rw [hcl]) (clearMarks_plain hm).symm
      exact this.cover (by rw [reportOpen_kind]; rfl) _
    | preempt =>
      have hamt : s.shortfall.toNat ≤ 8184 := by unfold State.shortfall; omega
      have := h.opened hlt (l := clearMarks s.waitList) (e := { s.episode with kind := .overdraft, beneficiary := none, target := s.shortfall.toNat })
        rfl rfl hamt rfl rfl rfl
      unfold State.takeOver
      dsimp only
      split
      · exact this.cover (by rw [reportOpen_kind]; rfl) _
      · exact this
    | overdraft =>
      have hamt : s.shortfall.toNat ≤ 8184 := by unfold State.shortfall; omega
      have hset : Sound nobody (s.setEpisode { s.episode with target := s.shortfall.toNat }) := by
        refine Formed.sound ⟨h.lists.setEpisode h.lists.shed hamt (fun hc => ?_), h.marks.of_episode rfl rfl, fun j => ?_⟩ (fun _ => hkind) (fun _ => hlt)
        · exact absurd (show s.episode.kind = .none from hc) (by simp [hkind])
        · obtain ⟨h1, h2, h3, h4, h5, h6⟩ := h.holds j
          exact ⟨h1, h2, h3, h4, h5, h6⟩
      unfold State.enlarge
      dsimp only
      split
      · exact hset.cover hkind _
      · exact hset

end

end Sys2Proof.Proofs
end

/-! The link's events and the card's requests keep the invariant (R48 to R62, R69 to R101, R127, R149). -/
section
namespace Sys2Proof.Proofs

open Machine Safety Laws

section
variable {s u : State} {i : SlotId} {c : Card}

/-! The link. -/

theorem Sound.link_on (h : Sound nobody s) : (s.slot i).link.asm ≠ .off ↔ linkOn (s.slot i).state = true := (h.holds i id).ok.link.power

/-- A change of a link that is on. -/
theorem Sound.setLinkOn (h : Sound nobody s) (hl : linkOn (s.slot i).state = true) (f : Link → Link)
    (hf : LinkOk true (s.slot i).link → LinkOk true (f (s.slot i).link)) : Sound nobody (s.modLink i f) :=
  h.setLink id f (by rw [hl]; exact hf (hl ▸ (h.holds i id).ok.link))

theorem Sound.frameDone (h : Sound nobody s) (i : SlotId) : Sound nobody (s.frameDone i) := h.setLink id _ (h.holds i id).ok.link.rehunt

theorem Sound.answer (h : Sound nobody s) (hl : linkOn (s.slot i).state = true) (k : LinkKind) (tag : BitVec 3) (r : Reply) :
    Sound nobody (s.answer i k tag r) := h.setLinkOn hl _ fun hk => hk.answer k tag r

theorem Sound.refuse (h : Sound nobody s) (hl : linkOn (s.slot i).state = true) (k : LinkKind) (tag : BitVec 3) (r : RefuseReason) :
    Sound nobody (s.refuse i k tag r) := (h.answer hl k tag _).append _

theorem modLink_slot_same (s : State) (i : SlotId) (f : Link → Link) : (s.modLink i f).slot i = { s.slot i with link := f (s.slot i).link } :=
  State.modSlot_slot_same _ _ _

/-- A request that is answered from the cache or handed on (R55, R56). -/
theorem Sound.takeRequest (h : Sound nobody s) (k : LinkKind) (tag : BitVec 3) {act : State → State}
    (ha : ∀ u, Sound nobody u → linkOn (u.slot i).state = true → Sound nobody (act u)) : Sound nobody (s.takeRequest i k tag act) := by
  unfold State.takeRequest
  split
  · exact h
  · rename_i hon
    have hl : linkOn ((s.frameDone i).slot i).state = true := by
      rw [State.frameDone, modLink_slot_same]; exact h.link_on.mp hon
    have hf := h.frameDone i
    dsimp only
    split
    · exact hf
    · split
      · split
        · exact hf.setLinkOn hl _ fun hk => hk.placeReply tag _
        · exact ha _ hf hl
      · exact ha _ hf hl

theorem Sound.whenActive (h : Sound nobody s) (hl : linkOn (s.slot i).state = true) (k : LinkKind) (tag : BitVec 3) {act : Card → State}
    (ha : ∀ c, (s.slot i).state = .active → (s.slot i).card = some c → Sound nobody (act c)) : Sound nobody (s.whenActive i k tag act) := by
  unfold State.whenActive
  split
  · rename_i hc
    split
    · exact ha _ hc.1 ‹_›
    · exact h.refuse hl _ _ _
  · exact h.refuse hl _ _ _

theorem linkOn_active (h : (s.slot i).state = .active) : linkOn (s.slot i).state = true := by rw [h]; rfl

theorem Sound.replyEvent (h : Sound nobody s) (i : SlotId) : Sound nobody (s.replyEvent i) := by
  unfold State.replyEvent
  split
  · rename_i o ho
    split
    · rename_i hd
      split
      · rename_i hr
        exact h.setLink id _ ((h.holds i id).ok.link.retry ho (by cases hw : o.window <;> simp [hw] at hd ⊢) hr)
      · exact h.cutIfPowered id _
    · exact h
  · exact h

theorem Sound.gapEvent (h : Sound nobody s) (i : SlotId) : Sound nobody (s.gapEvent i) := by
  unfold State.gapEvent
  split
  · exact h.frameDone i
  · exact h

/-! HELLO (R69 to R76). -/

theorem Sound.acceptHello (h : Sound nobody s) (hst : (s.slot i).state = .listening) {floor : Nat} {draws : List Nat} (hs : shapeOk floor draws = true)
    (hcap : draws.getD 0 0 ≤ (s.slot i).cfg.cap) (hfit : (s.slot i).charge < draws.getD 0 0 → Fits s i (draws.getD 0 0)) (tag : BitVec 3)
    (cardId : BitVec 32) : Sound nobody (s.acceptHello i tag cardId floor draws) := by
  have hh := h.holds i id
  have hlis := (slotOk_listening hst).mp hh.ok
  have hvac := hh.vacant (by simp [hst]) (by simp [hst]) (hh.noEntry (by simp [hst]) (by simp [hst]))
  unfold State.acceptHello
  dsimp only
  generalize hcard : ({ cardId := cardId, draws := draws, declaredFloor := floor, held := 0
                        effFloor := effectiveFloorOf (s.slot i).cfg.floorOverride floor draws.length
                        usableTop := usableTopOf draws (s.slot i).cfg.cap, helloTag := tag
                        welcome := Reply.welcome (usableTopOf draws (s.slot i).cfg.cap) (s.slot i).cfg.lease (s.slot i).cfg.cls } : Card) = c
  have hd : c.draws = draws := by rw [← hcard]
  have hd0 : c.draw 0 = draws.getD 0 0 := by rw [Card.draw, hd]
  have hcount : c.count = draws.length := by rw [Card.count, hd]
  obtain ⟨s1, s2, s3, s4, s5⟩ := (shapeOk_iff _ _).mp hs
  have hsh : CardShape c := by
    have hfl : c.declaredFloor = floor := by rw [← hcard]
    have hef : c.effFloor = effectiveFloorOf (s.slot i).cfg.floorOverride floor draws.length := by rw [← hcard]
    have hut : c.usableTop = usableTopOf draws (s.slot i).cfg.cap := by rw [← hcard]
    have hhd : c.held = 0 := by rw [← hcard]
    have hpre : CardShape { c with usableTop := 0 } :=
      ⟨by rw [← hcount] at s1; exact s1, by rw [← hcount] at s2; exact s2, hd0 ▸ s3, fun k hk => by
          have := s4 k (hcount ▸ hk)
          simpa only [Card.draw, hd] using this,
        by simp only [hfl]; exact hcount ▸ s5, by simp only [hhd]; exact hcount ▸ s1, by simp only [hef]; exact (effectiveFloorOf_lt s5).trans_eq hcount.symm,
        by rw [← hcount] at s1; exact s1⟩
    have htop := (hpre.usableTopOf_spec (cap := (s.slot i).cfg.cap) (show c.draw 0 ≤ _ by rw [hd0]; exact hcap)).1
    exact ⟨hpre.lo, hpre.hi, hpre.first, hpre.rises, hpre.floor, hpre.held, hpre.effFloor, by rw [hut, ← hd]; exact htop⟩
  generalize hrep : Reply.welcome (usableTopOf draws (s.slot i).cfg.cap) (s.slot i).cfg.lease (s.slot i).cfg.cls = rep
  have ha := (((h.toCore.apart i).modSlot
    (fun t => { t with charge := draws.getD 0 0, card := some c, state := .active, hello := none, run := true })).answer .hello tag rep).report
      .declared i draws.length (draws.getD 0 0) (usableTopOf draws (s.slot i).cfg.cap)
  generalize hu : State.report _ .declared i draws.length (draws.getD 0 0) (usableTopOf draws (s.slot i).cfg.cap) = u at ha ⊢
  have hus : u.slot i = { s.slot i with
      charge := c.draw 0, card := some c, state := .active, hello := none, run := true, link := Link.answer .hello tag rep (s.slot i).link } := by
    rw [← hu, hd0]; simp [State.answer, State.modLink]
  have hok : SlotOk s.frameCounter i _ := hlis.declare (i := i) (n := s.frameCounter) hsh (by rw [← hcard]) (by rw [hd0]; exact hcap) (by rw [← hcard])
    (by rw [hcount, ← hcard]) (hlis.link.answer .hello tag rep)
  have hv : Vacant u i := by
    rw [← hu]
    exact ⟨by simpa [State.answer] using hvac.entry, by simpa [State.answer, State.modLink] using hvac.recent, by simpa [State.answer] using hvac.victim,
      by simpa [State.answer] using hvac.cut⟩
  have hH : Holds u i := hv.holds (ha.ok hok hus) (by rw [hus]; nofun)
  have hcu : (u.slot i).charge = draws.getD 0 0 := by rw [hus]; exact hd0
  by_cases hle : draws.getD 0 0 ≤ (s.slot i).charge
  · exact ha.followedIf h id hH (by rw [hcu]; exact hle) fun hb => by
      rw [hcu]
      simp only [decide_eq_false_iff_not] at hb
      omega
  · rw [show decide (draws.getD 0 0 < (s.slot i).charge) = false from decide_eq_false (by omega)]
    have hf := hfit (by omega)
    simp only [Fits] at hf
    have hK := ha.committed
    rw [hcu] at hK
    exact ha.raised h id hH (by rw [hcu]; omega) (by omega)

theorem Sound.newHello (h : Sound nobody s) (hl : linkOn (s.slot i).state = true) (tag : BitVec 3) (cardId : BitVec 32) (floor : Nat) (draws : List Nat) :
    Sound nobody (s.newHello i tag cardId floor draws) := by
  unfold State.newHello
  dsimp only
  split
  · unfold State.helloInActive
    split
    · split
      · exact h.answer hl _ _ _
      · exact h.refuse hl _ _ _
    · exact h.refuse hl _ _ _
  · rename_i hna
    have hst : (s.slot i).state = .listening := by
      simp only [linkOn, Bool.or_eq_true, decide_eq_true_eq] at hl
      exact hl.resolve_right hna
    split
    · exact h.refuse hl _ _ _
    · rename_i hs
      split
      · exact h.refuse hl _ _ _
      · rename_i hcap
        split
        · exact h.refuse hl _ _ _
        · rename_i hb
          refine h.acceptHello hst (by simpa using hs) (by omega) (fun hlt => ?_) tag cardId
          rw [← decide_eq_true_iff (p := Fits _ _ _), ← within_iff_fits]
          by_contra hn
          exact hb (by rw [Bool.and_eq_true, decide_eq_true_eq]; exact ⟨hlt, by rw [Bool.eq_false_iff.mpr hn]; exact Bool.or_true _⟩)

/-! ASK (R84 to R89). -/

theorem Sound.grantAsk (h : Sound nobody s) (hst : (s.slot i).state = .active) (hc : (s.slot i).card = some c) (hr : (s.slot i).reclaim = none)
    (hk : s.episode.kind = .none) {g : Nat} (hg : 0 < g) (ht : g ≤ c.usableTop) (hfit : Fits s i (c.draw g)) (tag : BitVec 3) :
    Sound nobody (s.grantAsk i c tag g) := by
  have hh := h.holds i id
  have hact := hh.active hst hc
  obtain ⟨m, hm, he⟩ := counted_countOvertaken s i (s.slot i).cfg.cls h.lists.overtaken
  have hcount : Core nobody (s.setWait m) := h.toCore.count hm
  have hsc : Sound nobody (s.setWait m) := ⟨hcount, h.settled⟩
  unfold State.grantAsk
  dsimp only
  rw [he]
  have ha := ((((hcount.apart i).removeEntry (by simp [State.beneficiary, hk])).grantStep c g).answer .ask tag (.grant g (s.slot i).cfg.lease)).report
    .granted i g (c.draw g) 0
  generalize hu : State.report _ .granted i g (c.draw g) 0 = u at ha ⊢
  have hus : u.slot i = { s.slot i with
      charge := c.draw g, card := some { c with held := g }, lease := leaseAtGrant (s.slot i).cfg.lease
      link := Link.answer .ask tag (.grant g (s.slot i).cfg.lease) (s.slot i).link } := by
    rw [← hu]; simp [State.answer, State.modLink, State.grantStep, State.toHead]
  have hue : u.episode = s.episode := by rw [← hu]; simp [State.answer, State.grantStep, State.toHead, State.removeEntry]
  have huw : u.waitList = withoutSlot i m := by rw [← hu]; simp [State.answer, State.grantStep, State.toHead, State.removeEntry]
  have hH : Holds u i := holds_active (ha.ok (hact.hold hst hr (ht.trans_lt hact.cardShape.usableTop) (hact.draw_le ht) (fun _ => hg)
      (hact.link.answer .ask tag (.grant g (s.slot i).cfg.lease))) hus) (by rw [hus]; exact hst)
    (fun e he hi => by rw [huw] at he; exact absurd hi (mem_withoutSlot.mp he).2)
    (fun v hv hi => absurd hi (hh.noVictim hr v (hue ▸ hv))) (fun x hx => hh.noCut_of_active hst x (hue ▸ hx))
  have hK := ha.committed
  rw [hus] at hK
  simp only [Fits] at hfit
  have hle : u.committed ≤ s.available := by
    have : (s.setWait m).committed = s.committed := rfl
    have : (s.setWait m).slot i = s.slot i := rfl
    simp_all only
    omega
  have hfund : Funded u := fun hlt => absurd hlt (by rw [ha.available]; change ¬ s.available < _; omega)
  have hcore : Core nobody u := ha.core hcount id hH hfund
  have hset : Settled u := fun hc => by rw [hue, hk] at hc; cases hc
  unfold State.followUpIf
  split
  · exact hcore.followUp
  · exact ⟨hcore, hset⟩

/-- The marked entry opens a PREEMPT (R149). -/
theorem Sound.opensPreempt (h : Sound nobody s) (hk : s.episode.kind = .none) {e : WaitEntry} (he : e ∈ s.waitList) (hei : e.slot = i)
    (hne : e.kind ≠ .admission) {target : Nat} (ht : target ≤ 8184) :
    Sound nobody ((s.setWait (s.waitList.map (fun x => if x.slot = i then { x with beneficiary := true } else x))).setEpisode
      { Episode.closed with kind := .preempt, beneficiary := some i, target := target }) := by
  have hplain := (h.marks.plain (by simp [hk])).2
  have hslot (x : WaitEntry) : (if x.slot = i then { x with beneficiary := true } else x).slot = x.slot := by split <;> rfl
  have hmap : (s.waitList.map (fun x => if x.slot = i then { x with beneficiary := true } else x)).map WaitEntry.slot = s.waitList.map WaitEntry.slot := by
    rw [List.map_map]; exact List.map_congr_left fun x _ => hslot x
  have hmem : ∀ y ∈ s.waitList.map (fun x => if x.slot = i then { x with beneficiary := true } else x), ∃ x ∈ s.waitList,
      y = if x.slot = i then { x with beneficiary := true } else x := fun y hy => by
    obtain ⟨x, hx, rfl⟩ := List.mem_map.mp hy
    exact ⟨x, hx, rfl⟩
  refine ⟨⟨?_, ⟨fun _ => ⟨i, rfl, ?_, fun y hy hb => ?_⟩, fun hc => absurd rfl hc⟩, fun j _ => ?_, nofun, fun hlt => ?_⟩, nofun⟩
  · refine (h.lists.setWait (by rw [hmap]; exact h.lists.slots) ?_ fun y hy => ?_).setEpisode (by simp [Episode.closed]) ht nofun
    · rw [List.pairwise_map]
      refine h.lists.sorted.imp fun {a b} hab => ?_
      split <;> split <;> exact hab
    · obtain ⟨x, hx, rfl⟩ := hmem y hy
      have := h.lists.overtaken x hx
      split <;> exact this
  · have hnd := h.lists.slots
    have hf : (s.waitList.map (fun x => if x.slot = i then { x with beneficiary := true } else x)).filter WaitEntry.beneficiary
        = (s.waitList.filter (fun x => decide (x.slot = i))).map (fun x => if x.slot = i then { x with beneficiary := true } else x) := by
      rw [List.filter_map]
      congr 1
      refine List.filter_congr fun x hx => ?_
      simp only [Function.comp]
      have hp := hplain x hx
      split <;> simp [*]
    change ((s.waitList.map _).filter WaitEntry.beneficiary).map WaitEntry.slot = [i]
    rw [hf, List.map_map, show (WaitEntry.slot ∘ fun x => if x.slot = i then { x with beneficiary := true } else x) = WaitEntry.slot from funext hslot]
    have hsub : ((s.waitList.filter (fun x => decide (x.slot = i))).map WaitEntry.slot).Nodup := hnd.sublist (List.filter_sublist.map _)
    have hall : ∀ j ∈ (s.waitList.filter (fun x => decide (x.slot = i))).map WaitEntry.slot, j = i := fun j hj => by
      obtain ⟨x, hx, rfl⟩ := List.mem_map.mp hj
      simpa using (List.mem_filter.mp hx).2
    have hin : i ∈ (s.waitList.filter (fun x => decide (x.slot = i))).map WaitEntry.slot :=
      List.mem_map.mpr ⟨e, List.mem_filter.mpr ⟨he, by simpa using hei⟩, hei⟩
    rw [List.eq_replicate_of_mem hall] at hsub hin ⊢
    have hlen := List.nodup_replicate.mp hsub
    cases hn : ((s.waitList.filter (fun x => decide (x.slot = i))).map WaitEntry.slot).length with
    | zero => rw [hn] at hin; cases hin
    | succ n => rw [hn] at hlen; obtain rfl : n = 0 := by omega
                rfl
  · obtain ⟨x, hx, rfl⟩ := hmem y hy
    split at hb
    · rename_i hxi
      rw [if_pos hxi, eq_of_slot h.lists.slots hx he (hxi.trans hei.symm)]
      exact hne
    · rw [hplain x hx] at hb; cases hb
  · have hj := h.holds j id
    refine ⟨hj.ok, fun y hy hi => ?_, fun hst => ?_, hj.recent, nofun, nofun⟩
    · obtain ⟨x, hx, rfl⟩ := hmem y hy
      rw [hslot] at hi
      have := hj.entries x hx hi
      unfold EntryOk at this ⊢
      split <;> exact this
    · obtain ⟨x, hx, hxj⟩ := hj.waits hst
      exact ⟨_, List.mem_map_of_mem hx, (hslot x).trans hxj⟩
  · have := h.funded hlt
    rw [hk] at this; cases this

end

end Sys2Proof.Proofs
end

/-! ASK deferred, YIELD, WITHDRAW, RENEW, CONFIRM, and the bytes that carry them, keep the invariant (R48 to R56, R87 to R99, R127, R149). -/
section
namespace Sys2Proof.Proofs

open Machine Safety Laws

section
variable {s u : State} {i : SlotId} {c : Card}

/-- A deferred ASK that opens a PREEMPT (R149). -/
theorem Sound.considerPreempt (h : Sound nobody s) (hk : s.episode.kind = .none) (hst : (s.slot i).state = .active) (hc : (s.slot i).card = some c)
    {e : WaitEntry} (he : e ∈ s.waitList) (hei : e.slot = i) {asked floor : Nat} (hek : e.kind = .step asked floor) :
    Sound nobody (s.considerPreempt i c floor) := by
  have hh := h.holds i id
  have hact := hh.active hst hc
  obtain ⟨-, hent⟩ := hh.entries e he hei
  rw [hek] at hent
  obtain ⟨-, hrec, c', hc', f1, f2, f3, f4⟩ := hent
  obtain rfl : c' = c := Option.some.inj (hc'.symm.trans hc)
  unfold State.considerPreempt
  dsimp only
  split
  · rename_i hcond
    simp only [Bool.and_eq_true, decide_eq_true_eq] at hcond
    obtain ⟨⟨-, hneed⟩, -⟩ := hcond
    have hcl := h.formed.committed_le i
    have hdraw := hact.draw_le f4
    have ht : (s.increase i (c'.draw floor) - s.headroom).toNat ≤ 8184 := by
      unfold State.increase State.headroom
      omega
    have hopen := h.opensPreempt hk he hei (by rw [hek]; nofun) ht
    generalize hv : State.setEpisode _ _ = v at hopen ⊢
    have hvs : ∀ j, v.slot j = s.slot j := by rw [← hv]; exact fun _ => rfl
    have hve : v.episode = { Episode.closed with kind := .preempt, beneficiary := some i, target := (s.increase i (c'.draw floor) - s.headroom).toNat } := by
      rw [← hv]; rfl
    have hvw : v.waitList = s.waitList.map (fun x => if x.slot = i then { x with beneficiary := true } else x) := by rw [← hv]; rfl
    have hhead : v.headroom = s.headroom := by rw [← hv]; rfl
    have ho : Sound nobody v.reportOpen := hopen.append _
    refine (Sound.chooseVictims (s := v.reportOpen) ho ?_ (fun j hj hbj => ?_) _).1
    · refine .inr ⟨by rw [reportOpen_kind, hve], i, { e with beneficiary := true }, by simp [State.reportOpen, hve], ?_, ?_⟩
      · rw [entryOf_iff ho.lists]
        refine ⟨?_, hei⟩
        simp only [State.reportOpen, State.append_waitList, hvw]
        exact List.mem_map.mpr ⟨e, he, by rw [if_pos hei]⟩
      · have hrs : v.reportOpen.slot i = s.slot i := by rw [State.reportOpen, State.append_slot, hvs]
        simp only [State.grantFor, hek, hei, hrs, hc]
        refine ((highest_spec _ _ _).2).mpr fun g hg hgt => ?_
        have hlt : g < c'.count := by have := min_le_left asked c'.usableTop; omega
        have hd := hact.cardShape.draw_le hg hlt
        have hw : ∀ k : Int, v.reportOpen.within k = decide (k ≤ s.headroom) := fun k => by
          rw [State.within, State.headroom, State.reportOpen, State.available_append, State.committed_append, ← hhead]; rfl
        rw [hw, decide_eq_false_iff_not]
        unfold State.increase at hneed ⊢
        rw [hrs]
        omega
    · have hp : (v.reportOpen.slot j).cfg.cls < (s.slot i).cfg.cls := by
        unfold State.isCandidate at hj
        simp only [Bool.and_eq_true, decide_eq_true_eq] at hj
        exact hj.2
      have hji : j = i := by simpa [State.reportOpen, hve, eq_comm] using hbj
      subst hji
      simp [State.reportOpen, hvs] at hp
  · exact h

theorem Sound.deferAsk (h : Sound nobody s) (hst : (s.slot i).state = .active) (hc : (s.slot i).card = some c) (hr : (s.slot i).reclaim = none)
    {asked floor : Nat} (h1 : c.held < floor) (h2 : floor ≤ asked) (h3 : asked < c.count) (h4 : floor ≤ c.usableTop) (tag : BitVec 3) :
    Sound nobody (s.deferAsk i c tag asked floor) := by
  have hh := h.holds i id
  have hact := hh.active hst hc
  unfold State.deferAsk
  dsimp only
  generalize hl : (if (s.entryOf i).isSome then s.waitList.map (fun e => if e.slot = i then { e with kind := WaitKind.step asked floor } else e)
    else insertEntry (newEntry i (WaitKind.step asked floor) (s.slot i).cfg.cls) s.waitList) = l
  obtain ⟨haw, hent⟩ : Apart i s (s.setWait l) ∧ (∃ e ∈ l, e.slot = i ∧ e.kind = .step asked floor)
      ∧ ∀ e ∈ l, e.slot = i → e.kind = .step asked floor ∧ e.cls = (s.slot i).cfg.cls := by
    rw [← hl]
    split
    · rename_i hsome
      obtain ⟨x, hx, hxi⟩ := (entryOf_isSome s i).mp hsome
      have hslot (e : WaitEntry) : (if e.slot = i then { e with kind := WaitKind.step asked floor } else e).slot = e.slot := by split <;> rfl
      have hmap : (s.waitList.map (fun e => if e.slot = i then { e with kind := WaitKind.step asked floor } else e)).map WaitEntry.slot
          = s.waitList.map WaitEntry.slot := by rw [List.map_map]; exact List.map_congr_left fun e _ => hslot e
      have hben (e : WaitEntry) : (if e.slot = i then { e with kind := WaitKind.step asked floor } else e).beneficiary = e.beneficiary := by split <;> rfl
      refine ⟨(h.toCore.apart i).setWait (fun e hi => ?_) (h.lists.setWait (by rw [hmap]; exact h.lists.slots) ?_ fun e he => ?_) ⟨fun hk => ?_, fun hk => ?_⟩,
        ⟨_, List.mem_map_of_mem hx, by rw [hslot]; exact hxi, by rw [if_pos hxi]⟩, fun e he hi => ?_⟩
      · constructor
        · intro hm
          obtain ⟨y, hy, rfl⟩ := List.mem_map.mp hm
          rw [hslot] at hi
          rw [if_neg hi]; exact hy
        · exact fun hm => List.mem_map.mpr ⟨e, hm, by rw [if_neg hi]⟩
      · rw [List.pairwise_map]
        refine h.lists.sorted.imp fun {a b} hab => ?_
        split <;> split <;> exact hab
      · obtain ⟨y, hy, rfl⟩ := List.mem_map.mp he
        have := h.lists.overtaken y hy
        split <;> exact this
      · obtain ⟨b, m1, m2, m3⟩ := h.marks.preempt hk
        refine ⟨b, m1, ?_, fun y hy hyb => ?_⟩
        · rw [List.filter_map, List.map_map, ← m2]
          refine (List.map_congr_left fun e _ => hslot e).trans ?_
          congr 1
          exact List.filter_congr fun e _ => hben e
        · obtain ⟨z, hz, rfl⟩ := List.mem_map.mp hy
          rw [hben] at hyb
          split
          · nofun
          · exact m3 z hz hyb
      · obtain ⟨m1, m2⟩ := h.marks.plain hk
        refine ⟨m1, fun y hy => ?_⟩
        obtain ⟨z, hz, rfl⟩ := List.mem_map.mp hy
        rw [hben]; exact m2 z hz
      · obtain ⟨y, hy, rfl⟩ := List.mem_map.mp he
        rw [hslot] at hi
        rw [if_pos hi]
        exact ⟨rfl, (hh.entries y hy hi).1⟩
    · rename_i hnone
      have hn : ∀ e ∈ s.waitList, e.slot ≠ i := entryOf_none.mp (by simpa using hnone)
      refine ⟨(h.toCore.apart i).insert hn, ⟨_, mem_insertEntry.mpr (.inl rfl), rfl, rfl⟩, fun e he hi => ?_⟩
      rcases mem_insertEntry.mp he with rfl | he
      · exact ⟨rfl, rfl⟩
      · exact absurd hi (hn e he)
  obtain ⟨⟨e0, he0, hei0, hek0⟩, hent⟩ := hent
  generalize hrep : Reply.defer ((s.setWait l).position i) = rep
  have ha := (haw.answer .ask tag rep).report .deferred i ((s.setWait l).position i) asked floor
  generalize hu : State.report _ .deferred i _ asked floor = u at ha ⊢
  have hus : u.slot i = { s.slot i with link := Link.answer .ask tag rep (s.slot i).link } := by rw [← hu]; simp [State.answer, State.modLink]
  have hue : u.episode = s.episode := by rw [← hu]; simp [State.answer]
  have huw : u.waitList = l := by rw [← hu]; simp [State.answer]
  have hok : SlotOk s.frameCounter i { s.slot i with link := Link.answer .ask tag rep (s.slot i).link } :=
    hh.ok.setLink (by rw [linkOn_active hst]; exact hact.link.answer _ _ _)
  have hsu : Sound nobody u := by
    refine ha.stands h id (holds_active (ha.ok hok hus) (by rw [hus]; exact hst) (fun e he hi => ?_) (fun v hv hi => absurd hi (hh.noVictim hr v (hue ▸ hv)))
      (fun x hx => hh.noCut_of_active hst x (hue ▸ hx))) (by rw [hus])
    obtain ⟨q1, q2⟩ := hent e (huw ▸ he) hi
    rw [hus]
    refine ⟨q2, ?_⟩
    rw [q1]
    exact ⟨hst, hr, c, hc, h1, h2, h3, h4⟩
  split
  · exact hsu
  · rename_i hopen
    exact hsu.considerPreempt (by rw [hue]; simpa [State.episodeOpen] using hopen) (by rw [hus]; exact hst) (by rw [hus]; exact hc)
      (huw ▸ he0) hei0 hek0

theorem Sound.newAsk (h : Sound nobody s) (hst : (s.slot i).state = .active) (hc : (s.slot i).card = some c) (tag : BitVec 3) (asked floor : Nat)
    (d : Bool) : Sound nobody (s.newAsk i c tag asked floor d) := by
  have hl := linkOn_active hst
  unfold State.newAsk
  dsimp only
  split
  · exact h.refuse hl _ _ _
  · rename_i hrec
    have hr : (s.slot i).reclaim = none := by simpa using hrec
    split
    · exact h.refuse hl _ _ _
    · rename_i hstep
      split
      · exact h.refuse hl _ _ _
      · rename_i htop
        unfold State.claimAsk
        dsimp only
        split
        · rename_i g hg
          split at hg
          · cases hg
          · rename_i hcl
            obtain ⟨g1, g2, g3, -⟩ := ((highest_spec _ _ _).1 g).mp hg
            rw [within_iff_fits, decide_eq_true_iff] at g3
            simp only [Bool.or_eq_true, not_or] at hcl
            exact h.grantAsk hst hc hr (by simpa [State.episodeOpen] using hcl.1) (by omega) (g2.trans (min_le_right _ _)) g3 tag
        · split
          · exact h.deferAsk hst hc hr (by omega) (by omega) (by omega) (by have := min_le_right asked c.usableTop; omega) tag
          · exact h.refuse hl _ _ _

/-! YIELD, WITHDRAW, RENEW, CONFIRM. -/

theorem Sound.newYield (h : Sound nobody s) (hst : (s.slot i).state = .active) (hc : (s.slot i).card = some c) (tag : BitVec 3) (g : Nat) :
    Sound nobody (s.newYield i c tag g) := by
  have hl := linkOn_active hst
  have hh := h.holds i id
  have hact := hh.active hst hc
  unfold State.newYield
  split
  · exact h.refuse hl _ _ _
  · rename_i hg
    cases hr : (s.slot i).reclaim with
    | none =>
      dsimp only
      have hlt : g < c.held := by omega
      have ha := (((h.toCore.apart i).modSlot (Slot.yieldTo c g)).answer .yield tag (.done 0)).report .yielded i g (c.draw g) 0
      generalize hu : State.report _ .yielded i g (c.draw g) 0 = u at ha ⊢
      have hus : u.slot i = { s.slot i with
          charge := c.draw g, card := some { c with held := g }, lease := leaseAtEnd g (s.slot i).lease
          link := Link.answer .yield tag (.done 0) (s.slot i).link } := by rw [← hu]; simp [State.answer, State.modLink, Slot.yieldTo]
      have hue : u.episode = s.episode := by rw [← hu]; simp [State.answer]
      have huw : u.waitList = s.waitList := by rw [← hu]; simp [State.answer]
      have hfree := hact.free hr
      have hdraw := hact.cardShape.draw_le hlt.le hact.cardShape.held
      have hH : Holds u i := by
        refine holds_active (ha.ok (hact.hold hst hr (hlt.trans hact.cardShape.held) (hact.draw_le_held hlt.le) leaseAtEnd_isSome
          (hact.link.answer .yield tag (.done 0))) hus) (by rw [hus]; exact hst) (fun e he hi => ?_)
          (fun v hv hi => absurd hi (hh.noVictim hr v (hue ▸ hv))) (fun x hx => hh.noCut_of_active hst x (hue ▸ hx))
        have := hh.entries e (huw ▸ he) hi
        rw [hus]
        refine ⟨this.1, ?_⟩
        have hk := this.2
        cases hkind : e.kind with
        | admission => rw [hkind] at hk; exact hk
        | step a f =>
          rw [hkind] at hk
          obtain ⟨k1, k2, c', k3, k4, k5, k6, k7⟩ := hk
          obtain rfl : c' = c := Option.some.inj (k3.symm.trans hc)
          exact ⟨k1, k2, _, rfl, hlt.trans k4, k5, k6, k7⟩
      refine ha.followedIf h id hH (by rw [hus, hfree.1]; exact hdraw) fun hb => ?_
      rw [hus]
      simpa using hb
    | some r =>
      dsimp only
      split
      · exact h.concludeReclaim id hst hc hr (by omega) ‹_› _ _
      · exact h.refuse hl _ _ _

theorem Sound.newWithdraw (h : Sound nobody s) (hst : (s.slot i).state = .active) (tag : BitVec 3) : Sound nobody (s.newWithdraw i tag) := by
  have hl := linkOn_active hst
  have hh := h.holds i id
  unfold State.newWithdraw
  split
  · exact h.refuse hl _ _ _
  · rename_i e he
    obtain ⟨-, hei⟩ := entryOf_mem he
    have ha := ((h.toCore.apart i).dropEntry hei .withdraw).answer .withdraw tag (.done 0)
    generalize hu : (s.dropEntry e .withdraw).answer i .withdraw tag (.done 0) = u at ha ⊢
    have hus : u.slot i = { s.slot i with link := Link.answer .withdraw tag (.done 0) (s.slot i).link } := by
      rw [← hu]; simp [State.answer, State.modLink]
    refine ha.followed h id (holds_active (ha.ok (hh.ok.setLink ?_) hus) (by rw [hus]; exact hst) (fun x hx hi => ?_) (fun v hv hi => ?_) (fun x hx => ?_))
      (by rw [hus])
    · have := hh.ok.link
      rw [hl] at this ⊢
      exact this.answer _ _ _
    · rw [← hu] at hx
      simp only [State.answer, State.modLink_waitList, dropEntry_waitList, hei] at hx
      exact absurd hi (mem_withoutSlot.mp hx).2
    · rw [← hu] at hv
      rw [hus]
      exact hh.victims v (dropEntry_victim hv) hi
    · rw [← hu] at hx
      exact hh.noCut_of_active hst x (dropEntry_cut hx)

theorem SlotOk.startLease {n : Nat} {t : Slot} (h : SlotOk n i t) (hst : t.state = .active) (hc : t.card = some c) (hp : 0 < c.held) (k : Nat) :
    SlotOk n i { t with lease := Timer.start k } := by
  refine ⟨h.cfg, ?_, h.charge, h.link, h.run⟩
  have := h.fits
  simp only [slotFits, leaseFits, Slot.powered, Bool.and_eq_true] at this ⊢
  obtain ⟨⟨⟨⟨h1, -⟩, h2⟩, h3⟩, h4⟩ := this
  exact ⟨⟨⟨⟨h1, by simp [hst, hc, hp]⟩, h2⟩, h3⟩, h4⟩

theorem Sound.newRenew (h : Sound nobody s) (hst : (s.slot i).state = .active) (hc : (s.slot i).card = some c) (tag : BitVec 3) :
    Sound nobody (s.newRenew i c tag) := by
  have hl := linkOn_active hst
  have renew : Sound nobody (s.renewLease i c tag) := by
    unfold State.renewLease
    dsimp only
    split
    · rename_i hp
      have := h.modSlot id (fun t => { t with lease := Timer.start (Config.ticksPerSecond * (s.slot i).cfg.lease) })
        ((h.holds i id).ok.startLease hst hc hp.1 _) rfl rfl rfl rfl rfl
      exact this.answer (by simpa using hl) _ _ _
    · exact h.answer hl _ _ _
  unfold State.newRenew
  split
  · split
    · exact h.refuse hl _ _ _
    · exact renew
  · exact renew

theorem Sound.newConfirm (h : Sound nobody s) (hst : (s.slot i).state = .active) (hc : (s.slot i).card = some c) (tag : BitVec 3) (g : Nat) :
    Sound nobody (s.newConfirm i c tag g) := by
  have hl := linkOn_active hst
  unfold State.newConfirm
  split
  · exact h.refuse hl _ _ _
  · split
    · exact h.refuse hl _ _ _
    · split
      · exact h.concludeReclaim id hst hc ‹_› (by omega) ‹_› _ _
      · exact h.partialReclaim id hst hc ‹_› (by omega) (by omega) _

/-! Frames and bytes. -/

theorem Sound.takeHello (h : Sound nobody s) (i : SlotId) (tag : BitVec 3) (cardId : BitVec 32) (floor : Byte) (draws : List Half) :
    Sound nobody (s.takeHello i tag cardId floor draws) := h.takeRequest _ _ fun _ hu hl => hu.newHello hl _ _ _ _

theorem Sound.takeAsk (h : Sound nobody s) (i : SlotId) (tag : BitVec 3) (asked floor flags : Byte) : Sound nobody (s.takeAsk i tag asked floor flags) :=
  h.takeRequest _ _ fun _ hu hl => hu.whenActive hl _ _ fun _ hst hc => hu.newAsk hst hc _ _ _ _

theorem Sound.takeYield (h : Sound nobody s) (i : SlotId) (tag : BitVec 3) (g : Byte) : Sound nobody (s.takeYield i tag g) :=
  h.takeRequest _ _ fun _ hu hl => hu.whenActive hl _ _ fun _ hst hc => hu.newYield hst hc _ _

theorem Sound.takeWithdraw (h : Sound nobody s) (i : SlotId) (tag : BitVec 3) : Sound nobody (s.takeWithdraw i tag) :=
  h.takeRequest _ _ fun _ hu hl => hu.whenActive hl _ _ fun _ hst _ => hu.newWithdraw hst _

theorem Sound.takeRenew (h : Sound nobody s) (i : SlotId) (tag : BitVec 3) : Sound nobody (s.takeRenew i tag) :=
  h.takeRequest _ _ fun _ hu hl => hu.whenActive hl _ _ fun _ hst hc => hu.newRenew hst hc _

theorem Sound.takeConfirm (h : Sound nobody s) (i : SlotId) (tag : BitVec 3) (g : Byte) : Sound nobody (s.takeConfirm i tag g) :=
  h.takeRequest _ _ fun _ hu hl => hu.whenActive hl _ _ fun _ hst hc => hu.newConfirm hst hc _ _

theorem Sound.takeAck (h : Sound nobody s) (i : SlotId) (q : Bool) : Sound nobody (s.takeAck i q) := by
  unfold State.takeAck
  split
  · exact h
  · exact (h.frameDone i).setLink id _ (((h.frameDone i).holds i id).ok.link.acknowledge q)

theorem Sound.takeMalformed (h : Sound nobody s) (i : SlotId) (k : LinkKind) (tag : BitVec 3) : Sound nobody (s.takeMalformed i k tag) := by
  unfold State.takeMalformed
  split
  · exact h
  · rename_i hon
    have hl : linkOn ((s.frameDone i).slot i).state = true := by
      rw [State.frameDone, modLink_slot_same]; exact h.link_on.mp hon
    dsimp only
    split
    · exact h.frameDone i
    · exact ((h.frameDone i).setLinkOn hl _ fun hk => hk.placeReply tag _).append _

theorem Sound.takeFrame (h : Sound nobody s) (i : SlotId) (f : RxFrame) : Sound nobody (s.takeFrame i f) := by
  unfold State.takeFrame
  split
  · exact h.takeHello _ _ _ _ _
  · exact h.takeAsk _ _ _ _ _
  · exact h.takeYield _ _ _
  · exact h.takeWithdraw _ _
  · exact h.takeRenew _ _
  · exact h.takeConfirm _ _ _
  · exact h.takeAck _ _
  · exact h.takeMalformed _ _ _
  · exact h.frameDone _

theorem Sound.receive (h : Sound nobody s) (i : SlotId) (b : Byte) : Sound nobody (s.receive i b) := by
  have hg := h.gapEvent i
  unfold State.receive
  dsimp only
  have ha := hg.setLink id _ ((hg.holds i id).ok.link.afterByte b)
  split
  · exact ha
  · exact ha.takeFrame _ _

theorem Sound.receiveAll (h : Sound nobody s) (i : SlotId) (l : List Byte) : Sound nobody (receiveAll i l s) := by
  induction l generalizing s with
  | nil => exact h
  | cons b l ih => exact ih (h.receive i b)

theorem Sound.sent (h : Sound nobody s) (i : SlotId) (w : Nat) : Sound nobody (s.modLink i (Link.sent w)) :=
  h.setLink id _ ((h.holds i id).ok.link.sent w)

end

end Sys2Proof.Proofs
end

/-! The commands that write a configuration field keep the invariant (R41 to R46, R107). -/
section
namespace Sys2Proof.Proofs

open Machine Safety Laws

section
variable {s u : State} {i : SlotId} {c : Card}

/-! Fields that nothing of the slot depends on. -/

/-- A field other than cap and floor override takes a value in its range. -/
theorem SlotOk.setConfig {n : Nat} {t : Slot} (h : SlotOk n i t) {f : SlotConfig} (hf : configFits f = true)
    (hk : t.state = .active → f.cap = t.cfg.cap ∧ f.floorOverride = t.cfg.floorOverride) : SlotOk n i { t with cfg := f } := by
  refine ⟨hf, h.fits, ?_, h.link, h.run⟩
  have hc := h.charge
  unfold chargeFits at hc ⊢
  cases hst : t.state with
  | active =>
    obtain ⟨h1, h2⟩ := hk hst
    simp only [hst] at hc
    cases hcard : t.card with
    | none => simp [hcard] at hc
    | some c =>
      have hcur : cardCurrent f c = cardCurrent t.cfg c := by unfold cardCurrent; rw [h1, h2]
      simp only [hcard] at hc ⊢
      rw [hcur]
      exact hc
  | _ => simpa [hst] using hc

theorem Sound.modConfig (h : Sound nobody s) (i : SlotId) (f : SlotConfig → SlotConfig) (hf : ∀ c, ConfigRanges c → ConfigRanges (f c))
    (hk : ∀ c, (f c).cls = c.cls ∧ (f c).cap = c.cap ∧ (f c).floorOverride = c.floorOverride) : Sound nobody (s.modConfig i f) := by
  obtain ⟨h1, h2, h3⟩ := hk (s.slot i).cfg
  have hok := (h.holds i id).ok
  exact h.modSlot id _ (hok.setConfig ((configFits_iff _).mpr (hf _ ((configFits_iff _).mp hok.cfg))) fun _ => ⟨h2, h3⟩) rfl h1 rfl rfl rfl

/-! The class (R43, R107). -/

theorem perm_withoutSlot {l : List WaitEntry} (hn : (l.map WaitEntry.slot).Nodup) {e : WaitEntry} (he : e ∈ l) : l.Perm (e :: withoutSlot e.slot l) := by
  obtain ⟨l₁, l₂, rfl⟩ := List.append_of_mem he
  rw [withoutSlot_middle hn]
  exact List.perm_middle

/-- An entry takes another class and its new place (R107). -/
theorem Apart.reclass (h : Apart i s u) {e : WaitEntry} (he : e ∈ u.waitList) (hi : e.slot = i) (k : Nat) :
    Apart i s (u.setWait (insertEntry { e with cls := k } (withoutSlot i u.waitList))) := by
  subst hi
  have hp := perm_withoutSlot h.lists.slots he
  have hq := insertEntry_perm { e with cls := k } (withoutSlot e.slot u.waitList)
  have hmem : ∀ x ∈ insertEntry { e with cls := k } (withoutSlot e.slot u.waitList),
      ∃ y ∈ u.waitList, x.beneficiary = y.beneficiary ∧ x.kind = y.kind ∧ x.overtaken = y.overtaken := fun x hx => by
    rcases mem_insertEntry.mp hx with rfl | hx
    · exact ⟨e, he, rfl, rfl, rfl⟩
    · exact ⟨x, (mem_withoutSlot.mp hx).1, rfl, rfl, rfl⟩
  have hslots : ((insertEntry { e with cls := k } (withoutSlot e.slot u.waitList)).map WaitEntry.slot).Perm (u.waitList.map WaitEntry.slot) :=
    (hq.map _).trans (hp.map WaitEntry.slot).symm
  have hmarks : (((insertEntry { e with cls := k } (withoutSlot e.slot u.waitList)).filter WaitEntry.beneficiary).map WaitEntry.slot).Perm
      ((u.waitList.filter WaitEntry.beneficiary).map WaitEntry.slot) := by
    refine ((hq.filter _).map _).trans (List.Perm.trans ?_ ((hp.filter WaitEntry.beneficiary).map WaitEntry.slot).symm)
    cases hb : e.beneficiary <;> simp [hb]
  refine h.setWait (fun x hx => ?_) (h.lists.setWait (hslots.nodup_iff.mpr h.lists.slots)
    (insertEntry_sorted (h.lists.sorted.sublist (withoutSlot_sublist _ _))) fun x hx => ?_) ⟨fun hk => ?_, fun hk => ?_⟩
  · rw [mem_insertEntry, mem_withoutSlot]
    refine ⟨fun hc => ?_, fun hc => .inr ⟨hc, hx⟩⟩
    rcases hc with rfl | hc
    · exact absurd rfl hx
    · exact hc.1
  · obtain ⟨y, hy, -, -, ho⟩ := hmem x hx
    rw [ho]; exact h.lists.overtaken y hy
  · obtain ⟨b, h1, h2, h3⟩ := h.marks.preempt hk
    refine ⟨b, h1, List.perm_singleton.mp (h2 ▸ hmarks), fun x hx hxb => ?_⟩
    obtain ⟨y, hy, hyb, hyk, -⟩ := hmem x hx
    rw [hyk]; exact h3 y hy (hyb ▸ hxb)
  · obtain ⟨h1, h2⟩ := h.marks.plain hk
    refine ⟨h1, fun x hx => ?_⟩
    obtain ⟨y, hy, hyb, -⟩ := hmem x hx
    rw [hyb]; exact h2 y hy

/-- The slot with another class. -/
def classed (k : Nat) (t : Slot) : Slot := { t with cfg := { t.cfg with cls := k } }

theorem entryOk_classed {t : Slot} {e : WaitEntry} (h : EntryOk t e) (k : Nat) : EntryOk (classed k t) { e with cls := k } := ⟨rfl, h.2⟩

theorem Sound.writeClass (h : Sound nobody s) (i : SlotId) {k : Nat} (hk : k ≤ 3) : Sound nobody (s.writeClass i k) := by
  have hh := h.holds i id
  have hf : configFits { (s.slot i).cfg with cls := k } = true :=
    (configFits_iff _).mpr { (configFits_iff _).mp hh.ok.cfg with cls := hk }
  have hok : SlotOk s.frameCounter i (classed k (s.slot i)) := hh.ok.setConfig hf fun _ => ⟨rfl, rfl⟩
  have ha := (h.toCore.apart i).modSlot (classed k)
  have hsl : (s.modSlot i (classed k)).slot i = classed k (s.slot i) := State.modSlot_slot_same _ _ _
  change Sound nobody (((s.modSlot i (classed k)).reclassEntry i k).1.followUpIf ((s.modSlot i (classed k)).reclassEntry i k).2)
  have hent : (s.modSlot i (classed k)).entryOf i = s.entryOf i := rfl
  unfold State.reclassEntry
  rw [hent]
  cases he : s.entryOf i with
  | none =>
    have hn := entryOf_none.mp he
    refine ha.stands h id ⟨ha.ok hok hsl, fun e hm hi => absurd hi (hn e hm), fun hst => ?_, fun hr => ?_, ?_, ?_⟩ (by rw [hsl]; rfl)
    · rw [hsl] at hst
      obtain ⟨e, hm, hi⟩ := hh.waits hst
      exact absurd hi (hn e hm)
    · rw [hsl]; exact hh.recent hr
    · rw [hsl]; exact hh.victims
    · rw [hsl]; exact hh.cuts
  | some e =>
    obtain ⟨hm, hi⟩ := entryOf_mem he
    have hoke := hh.entries e hm hi
    dsimp only
    split
    · rename_i hc
      exact h.modSlot id (classed k) hok rfl (hc.symm.trans hoke.1) rfl rfl rfl
    · have ha' := ha.reclass hm hi k
      have hsl' : ∀ l, ((s.modSlot i (classed k)).setWait l).slot i = classed k (s.slot i) := fun _ => hsl
      refine ha'.followed h id ⟨ha'.ok hok (hsl' _), fun x hx hxi => ?_, fun _ => ?_, fun hr => ?_, ?_, ?_⟩ (by rw [hsl']; exact le_rfl)
      · rw [hsl']
        rcases mem_insertEntry.mp hx with rfl | hx
        · exact entryOk_classed hoke k
        · exact absurd hxi (mem_withoutSlot.mp hx).2
      · exact ⟨_, mem_insertEntry.mpr (.inl rfl), hi⟩
      · rw [hsl']; exact hh.recent hr
      · rw [hsl']; exact hh.victims
      · rw [hsl']; exact hh.cuts

/-! A STEP entry is removed (R45, R121). -/

/-- What an ACTIVE slot holds when its STEP entry has been removed with a NOTICE. -/
theorem Holds.stepDropped (hh : Holds s i) (hst : (s.slot i).state = .active) (hr : (s.slot i).reclaim = none) (ha : Apart i s u)
    (hep : u.episode = s.episode) {t : Slot} (ht : Active s.frameCounter i t c) (hts : t.state = .active) (hs : u.slot i = t) {e : WaitEntry}
    (hi : e.slot = i) {asked floor : Nat} (hk : e.kind = .step asked floor) (r : DropReason) :
    Holds ((u.dropEntry e r).noticeDropped e) i ∧ (((u.dropEntry e r).noticeDropped e).slot i).charge = t.charge := by
  have ha' := (ha.dropEntry hi r).noticeDropped hi
  have hsl : ((u.dropEntry e r).noticeDropped e).slot i = { t with link := Link.placeNotice .dropped asked t.link } := by
    unfold State.noticeDropped
    rw [hk, hi]
    change State.slot (State.modLink _ _ _) i = _
    rw [modLink_slot_same, dropEntry_slot, hs]
  obtain ⟨w1, -, w3⟩ := noticeDropped_lists (u.dropEntry e r) e
  have hl : LinkOk (linkOn t.state) (Link.placeNotice .dropped asked t.link) := by rw [hts]; exact ht.link.placeNotice _ _
  refine ⟨holds_active (ha'.ok ((ht.ok hts).setLink hl) hsl) (by rw [hsl]; exact hts) (fun x hx hxi => ?_) (fun v hv hvi => ?_) (fun x hx => ?_),
    by rw [hsl]⟩
  · rw [w1, dropEntry_waitList, hi] at hx
    exact absurd hxi (mem_withoutSlot.mp hx).2
  · rw [w3] at hv
    exact absurd hvi (hh.noVictim hr v (hep ▸ dropEntry_victim hv))
  · rw [w3] at hx
    exact hh.noCut_of_active hst x (hep ▸ dropEntry_cut hx)

/-- The STEP entry of an ACTIVE slot is well. -/
theorem Holds.step (hh : Holds s i) {e : WaitEntry} (hm : e ∈ s.waitList) (hi : e.slot = i) {asked floor : Nat} (hk : e.kind = .step asked floor) :
    (s.slot i).state = .active ∧ (s.slot i).reclaim = none ∧ ∃ c, (s.slot i).card = some c ∧ c.held < floor ∧ floor ≤ asked ∧ asked < c.count
      ∧ floor ≤ c.usableTop := by
  have := (hh.entries e hm hi).2
  rwa [hk] at this

/-! The cap (R44, R45). -/

/-- The slot with a new cap and the usable top step its card has under it. -/
def capped (cap : Nat) (c : Card) (t : Slot) : Slot :=
  { t with cfg := { t.cfg with cap := cap }, card := some { c with usableTop := usableTopOf c.draws cap } }

theorem Active.capped {n : Nat} {t : Slot} (h : Active n i t c) {cap : Nat} (hc : 1 ≤ cap ∧ cap ≤ 1023) (h0 : c.draw 0 ≤ cap) :
    Active n i (capped cap c t) { c with usableTop := usableTopOf c.draws cap } := by
  have hs := h.cardShape
  obtain ⟨h1, -, -⟩ := hs.usableTopOf_spec h0
  obtain ⟨-, -, h3, h4⟩ := (cardCurrent_iff _ _).mp h.current
  exact
    { toSupplied := ⟨⟨h.cutReason, h.destEmpty, h.discharge⟩, h.swen, h.pres, h.enabled⟩
      cfg := (configFits_iff _).mpr { (configFits_iff _).mp h.cfg with cap := hc }
      card := rfl
      shape := (cardFits_iff _).mpr ⟨hs.lo, hs.hi, hs.first, hs.rises, hs.floor, hs.held, hs.effFloor, h1⟩
      current := (cardCurrent_iff _ _).mpr ⟨rfl, h0, h3, h4⟩
      reclaim := h.reclaim, lease := h.lease, settle := h.settle, hello := h.hello, run := h.run, link := h.link }

theorem writeCap_active (hst : (s.slot i).state = .active) (hc : (s.slot i).card = some c) (cap : Nat) : s.writeCap i cap =
    if cap < c.heldDraw then
      (s.modSlot i (capped cap c)).reclaimTo i { c with usableTop := usableTopOf c.draws cap } (usableTopOf c.draws cap) .cap
    else (s.modSlot i (capped cap c)).dropAboveCap i (usableTopOf c.draws cap) := by
  unfold State.writeCap State.modConfig
  simp only [State.modSlot_slot_same, hst, hc, if_true, State.modSlot_modSlot]
  rfl

/-- A victim's record does not read cap and usable top. -/
theorem victimOk_capped {t : Slot} {v : Victim} (hc : t.card = some c) (h : VictimOk t v) (cap : Nat) : VictimOk (capped cap c t) v := by
  obtain ⟨c', r, h1, h2, h3, h4, h5⟩ := h
  obtain rfl : c' = c := Option.some.inj (h1.symm.trans hc)
  exact ⟨_, r, rfl, h2, h3, h4, h5⟩

/-- The slot under its new cap, where its entry does not stand in the way. -/
theorem Holds.capped (hh : Holds s i) (hst : (s.slot i).state = .active) (hc : (s.slot i).card = some c) {cap : Nat} (hu : Apart i s u)
    (hok : SlotOk s.frameCounter i (Proofs.capped cap c (s.slot i))) (hs : u.slot i = Proofs.capped cap c (s.slot i))
    (he : ∀ e ∈ u.waitList, e.slot = i → EntryOk (Proofs.capped cap c (s.slot i)) e)
    (hv : ∀ v ∈ u.episode.victims, v ∈ s.episode.victims) (hx : ∀ x ∈ u.episode.cuts, x ∈ s.episode.cuts) : Holds u i :=
  holds_active (hu.ok hok hs) (by rw [hs]; exact hst) (by rw [hs]; exact he)
    (fun v hm hi => by rw [hs]; exact victimOk_capped hc (hh.victims v (hv v hm) hi) cap) (fun x hm => hh.noCut_of_active hst x (hx x hm))

theorem Sound.writeCap (h : Sound nobody s) (i : SlotId) {cap : Nat} (hc : 1 ≤ cap ∧ cap ≤ 1023)
    (h0 : ∀ c, (s.slot i).state = .active → (s.slot i).card = some c → c.draw 0 ≤ cap) : Sound nobody (s.writeCap i cap) := by
  have hh := h.holds i id
  by_cases hst : (s.slot i).state = .active
  · obtain ⟨c, hact⟩ := (slotOk_active hst).mp hh.ok
    have hd0 := h0 c hst hact.card
    have hcap := hact.capped hc hd0
    have hok := hcap.ok hst
    have ha := (h.toCore.apart i).modSlot (capped cap c)
    have hslot : (s.modSlot i (capped cap c)).slot i = capped cap c (s.slot i) := State.modSlot_slot_same _ _ _
    obtain ⟨-, htop, -⟩ := hact.cardShape.usableTopOf_spec hd0
    have stays (he : ∀ e ∈ s.waitList, e.slot = i → EntryOk (capped cap c (s.slot i)) e) : Sound nobody (s.modSlot i (capped cap c)) :=
      ha.stands h id (hh.capped hst hact.card ha hok hslot he (fun _ => id) (fun _ => id)) (by rw [hslot]; rfl)
    rw [writeCap_active hst hact.card]
    split
    · rename_i hlt
      have htl : usableTopOf c.draws cap < c.held := by
        by_contra hn
        have := hact.cardShape.draw_le (Nat.not_lt.mp hn) (hact.cardShape.usableTopOf_spec hd0).1
        have : c.heldDraw ≤ cap := this.trans htop
        omega
      cases hr : (s.slot i).reclaim with
      | none =>
        have hr' : ((s.modSlot i (capped cap c)).slot i).reclaim = none := by rw [hslot]; exact hr
        have har := ha.reclaimBegun (usableTopOf c.draws cap) .cap
        obtain ⟨h1, h2⟩ := holds_reclaimBegun (u := s.modSlot i (capped cap c))
          (c := { c with usableTop := usableTopOf c.draws cap }) har (by rw [hslot]; exact hcap) (by rw [hslot]; exact hst) hr' htl
          (fun v hv hi => absurd hi (hh.noVictim hr v hv)) (hh.noCut_of_active hst)
        unfold State.reclaimTo
        rw [hr']
        dsimp only
        rw [startReclaim_eq]
        rw [hslot] at h2
        exact har.followedIf h id h1 h2.le fun _ => h2
      | some r =>
        exact (stays fun e he hi => absurd hi (hh.noEntry_of_reclaim hst hr e he)).reclaimTo id (by rw [hslot]; exact hst) (by rw [hslot]; rfl)
          (fun hn => by rw [hslot] at hn; exact absurd (hr.symm.trans hn) nofun) .cap
    · unfold State.dropAboveCap
      have hent : (s.modSlot i (capped cap c)).entryOf i = s.entryOf i := rfl
      rw [hent]
      cases he : s.entryOf i with
      | none => exact stays fun e hm hi => absurd hi (entryOf_none.mp he e hm)
      | some e =>
        obtain ⟨hm, hi⟩ := entryOf_mem he
        have hoke := hh.entries e hm hi
        dsimp only
        cases hk : e.kind with
        | admission => rw [EntryOk, hk, hst] at hoke; cases hoke.2
        | step asked floor =>
          obtain ⟨-, hrec, c', hc', f1, f2, f3, -⟩ := hh.step hm hi hk
          obtain rfl : c' = c := Option.some.inj (hc'.symm.trans hact.card)
          dsimp only
          split
          · obtain ⟨h1, h2⟩ := hh.stepDropped hst hrec ha rfl hcap hst hslot hi hk .grantedNot
            exact ((ha.dropEntry hi .grantedNot).noticeDropped hi).followed h id h1 h2.le
          · refine stays fun x hx hxi => ?_
            obtain rfl := eq_of_slot h.lists.slots hx hm (hxi.trans hi.symm)
            refine ⟨hoke.1, ?_⟩
            rw [hk]
            exact ⟨hst, hrec, _, rfl, f1, f2, f3, Nat.not_lt.mp ‹_›⟩
  · unfold State.writeCap
    have hn : ((s.modConfig i (fun c => { c with cap := cap })).slot i).state ≠ .active := by
      rw [State.modConfig, State.modSlot_slot_same]; exact hst
    dsimp only
    rw [if_neg hn]
    exact h.modSlot id _ (hh.ok.setConfig ((configFits_iff _).mpr { (configFits_iff _).mp hh.ok.cfg with cap := hc }) fun hc => absurd hc hst)
      rfl rfl rfl rfl rfl

/-! The floor override (R46). -/

/-- The slot with another floor override and the effective floor its card has under it. -/
def overridden (o : Option Nat) (c : Card) (t : Slot) : Slot :=
  { t with cfg := { t.cfg with floorOverride := o }, card := some { c with effFloor := effectiveFloorOf o c.declaredFloor c.count } }

theorem Active.overridden {n : Nat} {t : Slot} (h : Active n i t c) {o : Option Nat} (ho : o.getD 0 ≤ 5) :
    Active n i (overridden o c t) { c with effFloor := effectiveFloorOf o c.declaredFloor c.count } := by
  have hs := h.cardShape
  obtain ⟨h1, h2, -, h4⟩ := (cardCurrent_iff _ _).mp h.current
  exact
    { toSupplied := ⟨⟨h.cutReason, h.destEmpty, h.discharge⟩, h.swen, h.pres, h.enabled⟩
      cfg := (configFits_iff _).mpr { (configFits_iff _).mp h.cfg with floorOverride := ho }
      card := rfl
      shape := (cardFits_iff _).mpr ⟨hs.lo, hs.hi, hs.first, hs.rises, hs.floor, hs.held, effectiveFloorOf_lt hs.floor, hs.usableTop⟩
      current := (cardCurrent_iff _ _).mpr ⟨h1, h2, rfl, h4⟩
      reclaim := h.reclaim, lease := h.lease, settle := h.settle, hello := h.hello, run := h.run, link := h.link }

theorem modSlot_congr {f g : Slot → Slot} (h : f (s.slot i) = g (s.slot i)) : s.modSlot i f = s.modSlot i g := by rw [modSlot_eq, modSlot_eq, h]

theorem writeOverride_active (hst : (s.slot i).state = .active) (hc : (s.slot i).card = some c) (o : Option Nat) :
    s.writeOverride i o = s.modSlot i (overridden o c) := by
  unfold State.writeOverride State.modConfig
  simp only [State.modSlot_slot_same, hst, if_true, State.modSlot_modSlot]
  exact modSlot_congr (by simp [overridden, hc])

theorem Sound.writeOverride (h : Sound nobody s) (i : SlotId) {o : Option Nat} (ho : o.getD 0 ≤ 5) : Sound nobody (s.writeOverride i o) := by
  have hh := h.holds i id
  by_cases hst : (s.slot i).state = .active
  · obtain ⟨c, hact⟩ := (slotOk_active hst).mp hh.ok
    have ha := (h.toCore.apart i).modSlot (overridden o c)
    have hs : (s.modSlot i (overridden o c)).slot i = overridden o c (s.slot i) := State.modSlot_slot_same _ _ _
    rw [writeOverride_active hst hact.card]
    refine ha.stands h id (holds_active (ha.ok ((hact.overridden ho).ok hst) hs) (by rw [hs]; exact hst) (fun e he hi => ?_) (fun v hv hi => ?_)
      (fun x hx => hh.noCut_of_active hst x hx)) (by rw [hs]; rfl)
    · obtain ⟨h1, h2⟩ := hh.entries e he hi
      rw [hs]
      refine ⟨h1, ?_⟩
      cases hk : e.kind with
      | admission => rw [hk] at h2; exact h2
      | step a f =>
        rw [hk] at h2
        obtain ⟨e1, e2, c', e3, e4⟩ := h2
        obtain rfl : c' = c := Option.some.inj (e3.symm.trans hact.card)
        exact ⟨e1, e2, _, rfl, e4⟩
    · obtain ⟨c', r, h1, h2⟩ := hh.victims v hv hi
      obtain rfl : c' = c := Option.some.inj (h1.symm.trans hact.card)
      rw [hs]
      exact ⟨_, r, rfl, h2⟩
  · unfold State.writeOverride
    have hn : ((s.modConfig i (fun c => { c with floorOverride := o })).slot i).state ≠ .active := by
      rw [State.modConfig, State.modSlot_slot_same]; exact hst
    dsimp only
    rw [if_neg hn]
    exact h.modSlot id _ (hh.ok.setConfig ((configFits_iff _).mpr { (configFits_iff _).mp hh.ok.cfg with floorOverride := ho }) fun hc => absurd hc hst)
      rfl rfl rfl rfl rfl

end

end Sys2Proof.Proofs
end

/-! The other commands and the SRC debounce keep the invariant (R11 to R17, R112, R120, R121, R166 to R168). -/
section
namespace Sys2Proof.Proofs

open Machine Safety Laws

section
variable {P : SlotId → Prop} {s u : State} {i : SlotId} {c : Card}

theorem Sound.hostReclaim (h : Sound nobody s) {g : Half} (hc : s.checkReclaim g i = .ok) : Sound nobody (s.hostReclaim i g.toNat) := by
  unfold State.checkReclaim at hc
  unfold State.hostReclaim
  split
  · rename_i c hcard
    split at hc
    · rename_i hst
      simp only [hcard] at hc
      split at hc
      · cases hc
      · exact h.reclaimTo id hst hcard (fun _ => Nat.not_le.mp ‹_›) .host
    · cases hc
  · exact h

theorem Sound.dropWaiting (h : Sound nobody s) (i : SlotId) : Sound nobody (s.dropWaiting i) := by
  have hh := h.holds i id
  unfold State.dropWaiting
  cases he : s.entryOf i with
  | none => exact h
  | some e =>
    obtain ⟨hm, hi⟩ := entryOf_mem he
    dsimp only
    cases hk : e.kind with
    | step asked floor =>
      obtain ⟨hst, hr, c, hc, -⟩ := hh.step hm hi hk
      have ha := h.toCore.apart i
      obtain ⟨h1, h2⟩ := hh.stepDropped hst hr ha rfl (hh.active hst hc) hst rfl hi hk .host
      exact ((ha.dropEntry hi .host).noticeDropped hi).followed h id h1 h2.le
    | admission =>
      have hoke := (hh.entries e hm hi).2
      rw [hk] at hoke
      have hst : (s.slot i).state = .admitting := hoke
      have hu := (slotOk_unpowered (by rw [hst]; rfl)).mp hh.ok
      exact h.endAdmitting id hst (fun t => { t with enabled := false }) .disabled rfl
        (((hu.1.setEnabled false).setState .disabled).ok rfl (by simpa [hst] using hu.2.1) nofun) nofun .host

/-! The figures. -/

/-- Two states that differ in account figures, policy, reports and registers only. -/
structure Alike (s u : State) : Prop where
  counter : u.frameCounter = s.frameCounter
  slots : u.slots = s.slots
  waitList : u.waitList = s.waitList
  recency : u.recency = s.recency
  episode : u.episode = s.episode

theorem Alike.append (h : Alike s u) (r : Report) : Alike s (u.append r) :=
  ⟨by simpa using h.counter, by simpa using h.slots, by simpa using h.waitList, by simpa using h.recency, by simpa using h.episode⟩

theorem Alike.committed (h : Alike s u) : u.committed = s.committed := by unfold State.committed; rw [h.slots]

theorem Sound.alike (h : Sound P s) (ha : Alike s u) (hA : u.available = s.available) : Sound P u :=
  h.of_view ha.counter hA ha.slots ha.waitList ha.recency ha.episode

theorem Sound.alike_formed (h : Sound nobody s) (ha : Alike s u) : Formed u where
  lists := h.lists.of_same ha.waitList ha.recency ha.episode
  marks := by rw [ha.waitList, ha.episode]; exact h.marks
  holds j := (h.holds j id).of_same ha.counter (by rw [State.slot, State.slot, ha.slots]) (by rw [ha.waitList]; exact fun _ _ => Iff.rfl)
    (by rw [ha.recency]; exact id) (by rw [ha.episode]; exact fun _ _ => id) (by rw [ha.episode]; exact fun _ _ => id)

/-- A falls (R14, R17). -/
theorem Sound.fallen (h : Sound nobody s) (ha : Alike s u) (hA : u.available ≤ s.available) : Sound nobody u.overdrawn :=
  (h.alike_formed ha).overdrawn fun hk => hA.trans_lt (by rw [ha.committed]; exact h.settled (ha.episode ▸ hk))

/-- A rises (R14, R15). -/
theorem Sound.risen (h : Sound nobody s) (ha : Alike s u) (hA : s.available ≤ u.available) : Sound nobody u.followUp := by
  have hf := h.alike_formed ha
  refine Core.followUp ⟨hf.lists, hf.marks, fun j _ => hf.holds j, nofun, fun hlt => ?_⟩
  rw [ha.committed] at hlt
  rw [ha.episode]
  exact h.funded (hA.trans_lt hlt)

theorem changeCapacity_cases (s : State) (n : Nat) : ∃ u, Alike s u ∧ u.available = n - s.reserve ∧
    s.changeCapacity n = if n < s.capacity then u.overdrawn else if s.capacity < n then u.followUp else u :=
  ⟨_, (Alike.mk (s := s) (u := { s with capacity := n, capacityChanged := true }) rfl rfl rfl rfl rfl).append _, by simp; rfl, rfl⟩

theorem Sound.changeCapacity (h : Sound nobody s) (n : Nat) : Sound nobody (s.changeCapacity n) := by
  obtain ⟨u, ha, hA, he⟩ := changeCapacity_cases s n
  have hs : s.available = s.capacity - s.reserve := rfl
  rw [he]
  split
  · exact h.fallen ha (by omega)
  · split
    · exact h.risen ha (by omega)
    · exact h.alike ha (by omega)

theorem Sound.srcEvent (h : Sound nobody s) : Sound nobody s.srcEvent := by
  unfold State.srcEvent
  split
  · exact (h.alike (u := { s with src := Debounce.rest _ }) ⟨rfl, rfl, rfl, rfl, rfl⟩ rfl).changeCapacity _
  · exact h

theorem Sound.writeProfile (h : Sound nobody s) (p : Fin 4) (n : Nat) : Sound nobody (s.writeProfile p n) := by
  have hw : Sound nobody (profileWritten s p n) := h.alike ⟨rfl, rfl, rfl, rfl, rfl⟩ rfl
  unfold State.writeProfile
  dsimp only
  split
  · exact hw.changeCapacity n
  · exact hw

theorem Sound.writeReserve (h : Sound nobody s) (n : Nat) : Sound nobody (s.writeReserve n) := by
  have ha : Alike s (reserveWritten s n) := ⟨rfl, rfl, rfl, rfl, rfl⟩
  have hs : s.available = s.capacity - s.reserve := rfl
  have hu : (reserveWritten s n).available = s.capacity - n := rfl
  change Sound nobody (if n < s.reserve then (reserveWritten s n).followUp
    else if s.reserve < n then (reserveWritten s n).overdrawn else reserveWritten s n)
  split
  · exact h.risen ha (by omega)
  · split
    · exact h.fallen ha (by omega)
    · exact h.alike ha (by omega)

/-- A lower limit anchors entries; nothing else of them changes (R112). -/
theorem Sound.writePolicy (h : Sound nobody s) (mode limit preempt : Half) : Sound nobody (s.writePolicy mode limit preempt) := by
  have anchored (l : Nat) : Counted s.waitList (s.waitList.map (fun e => { e with anchored := e.anchored || decide (l ≤ e.overtaken) })) := by
    refine ⟨by rw [List.map_map]; rfl, fun e he => ?_⟩
    obtain ⟨x, hx, rfl⟩ := List.mem_map.mp he
    exact h.lists.overtaken x hx
  have counted : ∀ m, Counted s.waitList m → Sound nobody (State.followUp { s with policy := policyOf mode limit preempt, waitList := m }) :=
    fun m hm => ((h.toCore.count hm).of_view (u := { s with policy := policyOf mode limit preempt, waitList := m }) rfl rfl rfl rfl rfl rfl).followUp
  refine counted (if limit.toNat < s.policy.limit then _ else s.waitList) ?_
  split
  · exact anchored _
  · exact .refl h.lists.overtaken

/-! RESTART (R120, R168). -/

/-- What the removal of all entries leaves. -/
structure Cleared (s u : State) : Prop where
  rest : u.rest = s.rest
  slot : ∀ j, u.slot j = s.slot j
  recency : u.recency = s.recency
  empty : u.waitList = []
  episode : (u.episode = s.episode ∧ ∀ e ∈ s.waitList, s.beneficiary ≠ some e.slot) ∨ (u.episode = Episode.closed ∧ s.episode.kind = .preempt)

theorem dropForRestart_cleared {l : List WaitEntry} (hl : s.waitList = l) (hn : (l.map WaitEntry.slot).Nodup) : Cleared s (dropForRestart l s) := by
  induction l generalizing s with
  | nil => exact ⟨rfl, fun _ => rfl, rfl, hl, .inl ⟨rfl, by rw [hl]; nofun⟩⟩
  | cons e l ih =>
    have hwo : withoutSlot e.slot s.waitList = l := by rw [hl]; exact withoutSlot_middle (l := []) hn
    have hn' := (List.nodup_cons.mp hn).2
    unfold dropForRestart
    dsimp only
    generalize hv : (s.removeEntry e.slot).report .waitDropped e.slot (dropCode .restart) 0 0 = v
    have hve : v.episode = s.episode := by rw [← hv]; simp [State.removeEntry]
    have hvr : v.rest = s.rest := by rw [← hv]; simp
    have hvs : ∀ j, v.slot j = s.slot j := fun j => by rw [← hv]; simp [State.removeEntry]
    have hvc : v.recency = s.recency := by rw [← hv]; simp [State.removeEntry]
    have hvw : v.waitList = l := by rw [← hv]; simpa [State.removeEntry] using hwo
    have hvb : v.beneficiary = s.beneficiary := by unfold State.beneficiary; rw [hve]
    split
    · rename_i hb
      have hk : s.episode.kind = .preempt := by
        rw [hvb] at hb
        unfold State.beneficiary at hb
        cases hk : s.episode.kind <;> simp_all
      obtain ⟨h1, h2, h3, h4, h5⟩ := ih (s := v.endEpisode .restart) (by simpa [State.endEpisode] using hvw) hn'
      refine ⟨h1.trans (by simpa using hvr), fun j => (h2 j).trans ?_, h3.trans (by simpa [State.endEpisode] using hvc), h4, .inr ⟨?_, hk⟩⟩
      · rw [State.endEpisode_slot]; exact hvs j
      · rcases h5 with ⟨h5, -⟩ | ⟨h5, -⟩
        · rw [h5]; rfl
        · exact h5
    · rename_i hb
      obtain ⟨h1, h2, h3, h4, h5⟩ := ih hvw hn'
      refine ⟨h1.trans hvr, fun j => (h2 j).trans (hvs j), h3.trans hvc, h4, ?_⟩
      rcases h5 with ⟨h5, h6⟩ | ⟨h5, h6⟩
      · refine .inl ⟨h5.trans hve, fun x hx => ?_⟩
        rw [hl] at hx
        rcases List.mem_cons.mp hx with rfl | hx
        · rw [← hvb]; exact hb
        · rw [← hvb]; exact h6 x (hvw ▸ hx)
      · exact .inr ⟨h5, hve ▸ h6⟩

/-- Slot j is ADMITTING in s. -/
def admittingIn (s : State) (j : SlotId) : Prop := (s.slot j).state = .admitting

theorem Cleared.core (hu : Cleared s u) (h : Sound nobody s) : Core (admittingIn s) u := by
  have hv : ∀ v ∈ u.episode.victims, v ∈ s.episode.victims := fun v hv => by
    rcases hu.episode with ⟨he, -⟩ | ⟨he, -⟩ <;> rw [he] at hv
    · exact hv
    · cases hv
  have hx : ∀ x ∈ u.episode.cuts, x ∈ s.episode.cuts := fun x hx => by
    rcases hu.episode with ⟨he, -⟩ | ⟨he, -⟩ <;> rw [he] at hx
    · exact hx
    · cases hx
  have hK : u.committed = s.committed := by
    rw [State.committed_eq_sum, State.committed_eq_sum]
    exact Finset.sum_congr rfl fun j _ => by rw [hu.slot]
  have hlists : Lists u := by
    refine ⟨by rw [hu.empty]; exact List.nodup_nil, by rw [hu.empty]; exact .nil, by rw [hu.empty]; nofun, by rw [hu.recency]; exact h.lists.recency,
      ?_, ?_, ?_⟩ <;> rcases hu.episode with ⟨he, -⟩ | ⟨he, -⟩ <;> rw [he]
    · exact h.lists.shed
    · exact List.nodup_nil
    · exact h.lists.target
    · exact Nat.zero_le _
    · exact h.lists.closed
    · exact fun _ => rfl
  refine ⟨hlists, ?_, fun j hj => ?_, fun j hj => ?_, fun hlt => ?_⟩
  · rw [hu.empty]
    rcases hu.episode with ⟨he, hb⟩ | ⟨he, -⟩ <;> rw [he]
    · refine ⟨fun hk => ?_, fun hk => ⟨(h.marks.plain hk).1, nofun⟩⟩
      obtain ⟨b, h1, h2, -⟩ := h.marks.preempt hk
      have hm : b ∈ (s.waitList.filter WaitEntry.beneficiary).map WaitEntry.slot := by rw [h2]; exact List.mem_singleton_self b
      obtain ⟨e, he, rfl⟩ := List.mem_map.mp hm
      exact absurd (by simp [State.beneficiary, hk, h1]) (hb e (List.mem_of_mem_filter he))
    · exact Marks.closed nofun
  · have hh := h.holds j id
    refine ⟨by rw [frameCounter_of_rest hu.rest, hu.slot]; exact hh.ok, by rw [hu.empty]; nofun, fun hst => absurd (show admittingIn s j by rw [admittingIn, ← hu.slot]; exact hst) hj,
      fun hr => ?_, fun v hm => ?_, fun x hm => ?_⟩
    · rw [hu.slot]; exact hh.recent (hu.recency ▸ hr)
    · rw [hu.slot]; exact hh.victims v (hv v hm)
    · rw [hu.slot]; exact hh.cuts x (hx x hm)
  · have hh := h.holds j id
    have hst : (s.slot j).state = .admitting := hj
    refine ⟨by rw [hu.empty]; nofun, fun hr => ?_, fun v hm => ?_, fun x hm hi => ?_⟩
    · have := hh.recent (hu.recency ▸ hr)
      rw [hst] at this; cases this
    · exact hh.noVictim ((slotOk_unpowered (by rw [hst]; rfl)).mp hh.ok).1.reclaim v (hv v hm)
    · have := (hh.cuts x (hx x hm) hi).1
      rw [hst] at this; cases this
  · rw [available_of_rest hu.rest, hK] at hlt
    have hk := h.funded hlt
    rcases hu.episode with ⟨he, -⟩ | ⟨-, hp⟩
    · rw [he]; exact hk
    · rw [hk] at hp; cases hp

/-- The state while RESTART goes on: no entry is left, and the slots of P are as they were in s. -/
structure Restarting (P : SlotId → Prop) (s u : State) : Prop where
  sound : Sound P u
  counter : u.frameCounter = s.frameCounter
  slot : ∀ j, P j → u.slot j = s.slot j

theorem Restarting.cut (h : Restarting (admittingIn s) s u) (hw : u.waitList = []) (i : SlotId) (r : CutReason) :
    Restarting (admittingIn s) s (u.cutIfPowered i r) ∧ (u.cutIfPowered i r).waitList = [] := by
  unfold State.cutIfPowered
  split
  · rename_i hp
    have hP : ¬ admittingIn s i := fun hc => by
      have hst : (s.slot i).state = .admitting := hc
      rw [h.slot i hc] at hp
      simp [Slot.powered, hst] at hp
    have hs := h.sound.startCut hP hp r
    have he : u.entryOf i = none := entryOf_none.mpr (by rw [hw]; nofun)
    have heq : u.startCut i r = cutBegun u i r := by rw [startCut_eq, he]; rfl
    have ha := (h.sound.toCore.apart i).cutBegun r
    rw [heq] at hs ⊢
    refine ⟨⟨hs, (frameCounter_of_rest ha.rest).trans h.counter, fun j hj => ?_⟩, by rw [(cutBegun_spec u i r).2.1, hw]; rfl⟩
    exact (ha.slot j fun hc => hP (hc ▸ hj)).trans (h.slot j hj)
  · exact ⟨h, hw⟩

theorem Restarting.cuts (l : List SlotId) (h : Restarting (admittingIn s) s u) (hw : u.waitList = []) (r : CutReason) :
    Restarting (admittingIn s) s (l.foldl (fun s i => s.cutIfPowered i r) u) := by
  induction l generalizing u with
  | nil => exact h
  | cons i l ih =>
    obtain ⟨h1, h2⟩ := h.cut hw i r
    exact ih h1 h2

theorem startAdmission_slot_other (s : State) {i j : SlotId} (hj : j ≠ i) : (s.startAdmission i).slot j = s.slot j := by
  unfold State.startAdmission State.countOvertaken State.powerUp
  dsimp only
  split
  · rw [State.report_slot, State.modSlot_slot_other _ _ hj]
    split
    · rfl
    · split <;> rfl
  · rw [State.report_slot, State.modSlot_slot_other _ _ hj]
    rfl

theorem Restarting.admissions {l : List SlotId} (hl : l.Nodup) (h : Restarting (· ∈ l) s u) (hs : Sound nobody s)
    (ha : ∀ j ∈ l, (s.slot j).state = .admitting) : Sound nobody (l.foldl (fun s i => s.startAdmission i) u) := by
  induction l generalizing u with
  | nil =>
    have : (· ∈ ([] : List SlotId)) = nobody := funext fun j => by simp [nobody]
    exact this ▸ h.sound
  | cons i l ih =>
    obtain ⟨hi, hl⟩ := List.nodup_cons.mp hl
    have hst := ha i List.mem_cons_self
    have hP : (· ∈ i :: l) = also i (· ∈ l) := funext fun j => propext List.mem_cons
    have hu := (slotOk_unpowered (by rw [hst]; rfl)).mp (hs.holds i id).ok
    have hadm : Admissible (u.slot i) := by
      rw [h.slot i List.mem_cons_self]
      exact ⟨hu.1, by simpa [hst] using hu.2.1, hu.2.2 hst⟩
    have hsound : Sound (also i (· ∈ l)) u := hP ▸ h.sound
    have h1 := hsound.startAdmission hi hadm
    refine ih hl ⟨h1, ?_, fun j hj => ?_⟩ fun j hj => ha j (List.mem_cons_of_mem _ hj)
    · exact (frameCounter_of_rest (by simp)).trans h.counter
    · exact (startAdmission_slot_other u fun (hc : j = i) => hi (hc ▸ hj)).trans (h.slot j (List.mem_cons_of_mem _ hj))

theorem Sound.restart (h : Sound nobody s) : Sound nobody s.restart := by
  have hc := dropForRestart_cleared (s := s) rfl h.lists.slots
  have hno : ∀ j, ∀ e ∈ (dropForRestart s.waitList s).waitList, e.slot ≠ j := by rw [hc.empty]; nofun
  have h0 : Restarting (admittingIn s) s (dropForRestart s.waitList s).followUp :=
    ⟨(hc.core h).followUp, frameCounter_of_rest ((State.rest_followUp _).trans hc.rest), fun j _ =>
      (State.followUp_slot_noEntry (hno j)).trans (hc.slot j)⟩
  have hw : (dropForRestart s.waitList s).followUp.waitList = [] := List.eq_nil_iff_forall_not_mem.mpr fun e he =>
    State.followUp_noEntry (hno e.slot) e he rfl
  have h1 := h0.cuts slotIds hw .restart
  have hP : admittingIn s = (· ∈ slotIds.filter (fun i => decide ((s.slot i).state = .admitting))) :=
    funext fun j => propext (by simp [admittingIn, mem_slotIds])
  rw [hP] at h1
  exact h1.admissions (nodup_slotIds.filter _) h fun j hj => by simpa using (List.mem_filter.mp hj).2

/-! The Command Unit. -/

theorem Sound.result (h : Sound P s) (code : Nat) (named : Option SlotId) (res : ResultCode) (p0 : Half) : Sound P (s.result code named res p0) := h.append _

theorem Sound.slotCommand (h : Sound nobody s) (code : Nat) (p0 : Half) (check : SlotId → ResultCode) (act : SlotId → State → State)
    (ha : ∀ i u, check i = .ok → Sound nobody u → Alike s u → Sound nobody (act i u)) : Sound nobody (s.slotCommand code p0 check act) := by
  unfold State.slotCommand
  split
  · exact h.result _ _ _ _
  · dsimp only
    split
    · exact ha _ _ ‹_› (h.result _ _ _ _) ((Alike.mk rfl rfl rfl rfl rfl).append _)
    · exact h.result _ _ _ _

theorem Sound.configCommand (h : Sound nobody s) (p0 : Half) (inside : Bool) (act : SlotId → State → State)
    (ha : ∀ i u, inside = true → Sound nobody u → Sound nobody (act i u)) : Sound nobody (s.configCommand p0 inside act) :=
  h.slotCommand _ _ _ _ fun i u hc hu _ => ha i u (by cases inside <;> simp_all) hu

theorem Alike.slot (h : Alike s u) (j : SlotId) : u.slot j = s.slot j := by rw [State.slot, State.slot, h.slots]

theorem checkCap_draw {v : Half} (hc : s.checkCap v i = .ok) (hst : (s.slot i).state = .active) (hcard : (s.slot i).card = some c) :
    c.draw 0 ≤ v.toNat := by
  unfold State.checkCap at hc
  split at hc
  · cases hc
  · simp only [hcard] at hc
    split at hc
    · cases hc
    · exact Nat.not_lt.mp ‹_›

theorem Sound.takeHead (h : Sound nobody s) {cmd : Instr} (hc : (commandEntry cmd).isSome = true) : Sound nobody (s.takeHead cmd) := by
  unfold State.takeHead
  rcases takeCommand_cases s cmd _ with ⟨-, e⟩ | ⟨-, e⟩
  · rw [e]; exact h
  rw [e]
  have h : Sound nobody s.popCommand := h.alike ⟨rfl, rfl, rfl, rfl, rfl⟩ rfl
  cases cmd with
  | slotConfigEnabled p0 v =>
    refine h.configCommand _ _ _ fun i u _ hu => ?_
    split
    · exact hu.enableSlot id
    · exact hu.disableSlot id
  | slotConfigClass p0 v => exact h.configCommand _ _ _ fun i u hv hu => hu.writeClass i ((inRange_iff _ _ _).mp hv).2
  | slotConfigCap p0 v =>
    exact h.slotCommand _ _ _ _ fun i u hv hu ha => hu.writeCap i (checkCap_range hv) fun c hst hcard =>
      checkCap_draw hv (ha.slot i ▸ hst) (ha.slot i ▸ hcard)
  | slotConfigAdmissionCharge p0 v =>
    exact h.configCommand _ _ _ fun i u hv hu => hu.modConfig i _ (fun _ hc => { hc with admission := (inRange_iff _ _ _).mp hv }) fun _ => ⟨rfl, rfl, rfl⟩
  | slotConfigLease p0 v =>
    exact h.configCommand _ _ _ fun i u hv hu => hu.modConfig i _ (fun _ hc => { hc with lease := ((inRange_iff _ _ _).mp hv).2 }) fun _ => ⟨rfl, rfl, rfl⟩
  | slotConfigSettle p0 v =>
    exact h.configCommand _ _ _ fun i u hv hu => hu.modConfig i _ (fun _ hc => { hc with settle := (inRange_iff _ _ _).mp hv }) fun _ => ⟨rfl, rfl, rfl⟩
  | slotConfigDischarge p0 v =>
    exact h.configCommand _ _ _ fun i u hv hu => hu.modConfig i _ (fun _ hc => { hc with discharge := (inRange_iff _ _ _).mp hv }) fun _ => ⟨rfl, rfl, rfl⟩
  | slotConfigHelloTimeout p0 v =>
    exact h.configCommand _ _ _ fun i u hv hu => hu.modConfig i _ (fun _ hc => { hc with helloTimeout := (inRange_iff _ _ _).mp hv }) fun _ => ⟨rfl, rfl, rfl⟩
  | slotConfigReplyWindow p0 v =>
    exact h.configCommand _ _ _ fun i u hv hu => hu.modConfig i _ (fun _ hc => { hc with replyWindow := (inRange_iff _ _ _).mp hv }) fun _ => ⟨rfl, rfl, rfl⟩
  | slotConfigReclaimWindow p0 v =>
    exact h.configCommand _ _ _ fun i u hv hu => hu.modConfig i _ (fun _ hc => { hc with reclaimWindow := (inRange_iff _ _ _).mp hv }) fun _ => ⟨rfl, rfl, rfl⟩
  | slotConfigFloorOverride p0 v => exact h.configCommand _ _ _ fun i u hv hu => hu.writeOverride i (overrideOf_le hv)
  | slotConfigUnknownField p0 f v => exact h.configCommand _ _ _ fun _ _ _ hu => hu
  | enable p0 => exact h.slotCommand _ _ _ _ fun i u _ hu _ => hu.enableSlot id
  | disable p0 => exact h.slotCommand _ _ _ _ fun i u _ hu _ => hu.disableSlot id
  | restore p0 =>
    refine h.slotCommand _ _ _ _ fun i u hv hu ha => hu.restoreSlot id ?_
    rw [ha.slot]
    by_contra hn
    rw [if_neg hn] at hv
    cases hv
  | reclaim p0 g =>
    refine h.slotCommand _ _ _ _ fun i u hv hu ha => hu.hostReclaim ?_
    unfold State.checkReclaim at hv ⊢
    rw [ha.slot]
    exact hv
  | dropWait p0 => exact h.slotCommand _ _ _ _ fun i u _ hu _ => hu.dropWaiting i
  | setProfile index capacity =>
    show Sound nobody (s.popCommand.runSetProfile index capacity)
    unfold State.runSetProfile
    split
    · split
      · exact (h.result _ _ _ _).writeProfile _ _
      · exact h.result _ _ _ _
    · exact h.result _ _ _ _
  | setReserve amount force =>
    show Sound nobody (s.popCommand.runSetReserve amount force)
    unfold State.runSetReserve
    dsimp only
    split
    · exact (h.result _ _ _ _).writeReserve _
    · exact h.result _ _ _ _
  | setPolicy mode limit preempt =>
    show Sound nobody (s.popCommand.runSetPolicy mode limit preempt)
    unfold State.runSetPolicy
    split
    · exact (h.result _ _ _ _).writePolicy _ _ _
    · exact h.result _ _ _ _
  | restart => exact (h.result _ _ _ _).restart
  | unknownCommandCode code p0 => exact h.result _ _ _ _
  | _ => cases hc

theorem Sound.takeHeads (h : Sound nobody s) (n : Nat) : Sound nobody (takeHeads n s) := by
  induction n generalizing s with
  | zero => exact h
  | succ n ih =>
    unfold Machine.takeHeads
    split
    · rename_i cmd hcmd
      obtain ⟨e, -, rfl⟩ := Option.map_eq_some_iff.mp hcmd
      exact ih (h.takeHead (commandEntry_entryCommand e))
    · exact h

end

end Sys2Proof.Proofs
end

/-! The tick, the registers and every command keep the invariant (O4). -/
section
namespace Sys2Proof.Proofs

open Machine Safety Laws

/-! The tick of one slot (R1, R21, R49, R138, R140). -/

theorem timer_tick_isSome (t : Timer) : (Timer.tick t).isSome = t.isSome := by cases t <;> rfl

theorem timer_tick_none {t : Timer} (h : t = none) : Timer.tick t = none := by rw [h]; rfl

theorem sample_value {α : Type} [DecidableEq α] (v : α) (d : Debounce α) : (d.sample v).value = d.value := by
  unfold Debounce.sample
  split
  · rfl
  · split
    · split <;> rfl
    · rfl

section
variable {n : Nat} {i : SlotId} {t : Slot} (m : Nat) (pres : BitVec 8) (line : LineActivity)

theorem Inactive.ticked (h : Inactive t) (hs : t.state ≠ .active) : Inactive (ticked m pres line i t) :=
  ⟨h.cfg, by simp [Proofs.ticked, driven, Slot.tick, h.reclaim], h.curWidth, h.pendWidth, timer_tick_none h.lease, runAt_inactive hs⟩

theorem Uncut.ticked (h : Uncut t) : Uncut (ticked m pres line i t) := ⟨h.cutReason, h.destEmpty, timer_tick_none h.discharge⟩

theorem Supplied.ticked (h : Supplied t) : Supplied (ticked m pres line i t) :=
  ⟨h.toUncut.ticked m pres line, h.swen, (sample_value _ _).trans h.pres, h.enabled⟩

/-- Charge, widths and reclaim record go on together: a tick only counts the reclaim window. -/
theorem reclaimOk_ticked {c : Card} (h : reclaimOk t c) : reclaimOk (ticked m pres line i t) c := by
  unfold reclaimOk at h ⊢
  have hr : (Proofs.ticked m pres line i t).reclaim = t.reclaim.map (fun r => { r with window := r.window.tick }) := rfl
  rw [hr]
  cases hrec : t.reclaim with
  | none => rw [hrec] at h; exact h
  | some r =>
    rw [hrec] at h
    dsimp only at h
    change reclaimFits (Proofs.ticked m pres line i t) c { r with window := r.window.tick } = true
    generalize hq : ({ r with window := r.window.tick } : Reclaim) = q
    cases hp : r.phase with
    | reclaiming =>
      obtain ⟨h1, h2, h3⟩ := (reclaimFits_reclaiming hp).mp h
      subst hq
      exact (reclaimFits_reclaiming (by exact hp)).mpr ⟨h1, (timer_tick_isSome _).trans h2, h3⟩
    | pacePending =>
      obtain ⟨h1, h2, h3⟩ := (reclaimFits_pacePending hp).mp h
      subst hq
      exact (reclaimFits_pacePending (by exact hp)).mpr ⟨h1, timer_tick_none h2, h3⟩
    | paced =>
      obtain ⟨b, w, hb⟩ := (reclaimFits_paced hp).mp h
      subst hq
      exact (reclaimFits_paced (by exact hp)).mpr ⟨b, w, hb.basis, hb.width, hb.step, hb.held, hb.target, hb.draw, timer_tick_none hb.window,
        hb.narrow, hb.wide, hb.charge, hb.lift, hb.plain⟩

theorem Active.ticked {c : Card} (h : Active n i t c) : Active m i (ticked m pres line i t) c :=
  { toSupplied := h.toSupplied.ticked m pres line
    cfg := h.cfg, card := h.card, shape := h.shape, current := h.current, reclaim := reclaimOk_ticked m pres line h.reclaim
    lease := fun hl => h.lease (by rwa [← timer_tick_isSome])
    settle := timer_tick_none h.settle, hello := timer_tick_none h.hello, run := rfl, link := h.link.tick _ _ }

/-- A tick of a slot stops no timer and starts none. -/
theorem SlotOk.ticked (h : SlotOk n i t) : SlotOk m i (ticked m pres line i t) := by
  have unpoweredTick (hu : unpowered t.state = true) : SlotOk m i (Proofs.ticked m pres line i t) := by
    have hna : t.state ≠ .active := by rintro ha; simp [ha, unpowered] at hu
    obtain ⟨h1, h2, h3⟩ := (slotOk_unpowered hu).mp h
    exact (slotOk_unpowered (t := Proofs.ticked m pres line i t) hu).mpr
      ⟨⟨h1.toInactive.ticked m pres line hna, h1.toUncut.ticked m pres line, h1.charge, h1.card, timer_tick_none h1.settle, timer_tick_none h1.hello,
        h1.swen, h1.link.tick _ _⟩, (sample_value _ _).trans h2, h3⟩
  cases hst : t.state with
  | settling =>
    have h := (slotOk_settling hst).mp h
    exact (slotOk_settling (t := Proofs.ticked m pres line i t) hst).mpr
      ⟨h.toInactive.ticked m pres line (by simp [hst]), h.toSupplied.ticked m pres line, h.lo, h.hi, h.card, (timer_tick_isSome _).trans h.settle,
        timer_tick_none h.hello, h.link.tick _ _⟩
  | listening =>
    have h := (slotOk_listening hst).mp h
    exact (slotOk_listening (t := Proofs.ticked m pres line i t) hst).mpr
      ⟨h.toInactive.ticked m pres line (by simp [hst]), h.toSupplied.ticked m pres line, h.lo, h.hi, h.card, timer_tick_none h.settle,
        (timer_tick_isSome _).trans h.hello, h.link.tick _ _⟩
  | active =>
    obtain ⟨c, h⟩ := (slotOk_active hst).mp h
    exact (h.ticked m pres line).ok hst
  | cutting =>
    have h := (slotOk_cutting hst).mp h
    exact (slotOk_cutting (t := Proofs.ticked m pres line i t) hst).mpr
      ⟨h.toInactive.ticked m pres line (by simp [hst]), h.lo, h.hi, h.card, h.cutReason, (timer_tick_isSome _).trans h.discharge,
        timer_tick_none h.settle, timer_tick_none h.hello, h.swen, h.link.tick _ _⟩
  | _ => exact unpoweredTick (by rw [hst]; rfl)

theorem EntryOk.ticked {e : WaitEntry} (h : EntryOk t e) : EntryOk (ticked m pres line i t) e := by
  refine ⟨h.1, ?_⟩
  have h2 := h.2
  cases hk : e.kind with
  | admission => rw [hk] at h2; exact h2
  | step a f =>
    rw [hk] at h2
    exact ⟨h2.1, by simp [Proofs.ticked, driven, Slot.tick, h2.2.1], h2.2.2⟩

theorem VictimOk.ticked {v : Victim} (h : VictimOk t v) : VictimOk (ticked m pres line i t) v := by
  obtain ⟨c, r, h1, h2, h3⟩ := h
  exact ⟨c, { r with window := r.window.tick }, h1, by simp [Proofs.ticked, driven, Slot.tick, h2], h3⟩

end

section
variable {s t : State}

/-! The tick. -/

/-- The count changes slot by slot, and leaves the lists and the account. -/
theorem Sound.count (h : Sound nobody s) (src1 src0 : Bool) (pres : BitVec 8) (line : LineActivity) :
    Sound nobody (s.count src1 src0 pres line) := by
  have hb := count_base s src1 src0 pres line
  have hs := count_slot s src1 src0 pres line
  generalize s.count src1 src0 pres line = t at hb hs
  have hn : t.frameCounter = nextCount s.frameCounter := congrArg State.frameCounter hb
  have hw : t.waitList = s.waitList := (congrArg State.waitList hb :)
  have hr : t.recency = s.recency := (congrArg State.recency hb :)
  have he : t.episode = s.episode := (congrArg State.episode hb :)
  have hA : t.available = s.available := (congrArg State.available hb :)
  have hK : t.committed = s.committed := by
    rw [State.committed_eq_sum, State.committed_eq_sum]
    exact Finset.sum_congr rfl fun j _ => by rw [hs]; rfl
  refine Formed.sound ⟨h.lists.of_same hw hr he, by rw [hw, he]; exact h.marks, fun j => ?_⟩ ?_ ?_
  · have hh := h.holds j id
    refine ⟨by rw [hs, hn]; exact hh.ok.ticked _ _ _, fun e hm hi => ?_, fun hst => ?_, fun hm => ?_, fun v hm hi => ?_, fun x hm hi => ?_⟩
    · rw [hs]; exact (hh.entries e (hw ▸ hm) hi).ticked _ _ _
    · rw [hw]; exact hh.waits (by rw [hs] at hst; exact hst)
    · rw [hs]; exact hh.recent (hr ▸ hm)
    · rw [hs]; exact (hh.victims v (he ▸ hm) hi).ticked _ _ _
    · rw [hs]; exact hh.cuts x (he ▸ hm) hi
  · unfold Funded; rw [hA, hK, he]; exact h.funded
  · unfold Settled; rw [hA, hK, he]; exact h.settled

theorem Sound.settleSlot (h : Sound nobody s) (i : SlotId) : Sound nobody (s.settleSlot i) := by
  unfold State.settleSlot
  exact ((((((((((h.arrivalEvent id).lossEvent id).settleEvent id).helloEvent id).dischargeEvent id).leaseEvent id).windowEvent id).frameEvent id).replyEvent
    i).gapEvent i)

theorem Sound.settleSlots (h : Sound nobody s) (l : List SlotId) : Sound nobody (l.foldl (fun s i => s.settleSlot i) s) := by
  induction l generalizing s with
  | nil => exact h
  | cons i l ih =>
    rw [List.foldl_cons]
    exact ih (h.settleSlot i)

theorem Sound.settleAll (h : Sound nobody s) : Sound nobody s.settleAll := by
  unfold State.settleAll
  exact (h.srcEvent.settleSlots slotIds).takeHeads _

/-! The commands. -/

theorem Sound.write (h : Sound nobody s) (a : BitVec 6) (v : Half) : Sound nobody (s.write a v) := by
  unfold State.write
  split
  case h_6 =>
    unfold State.pushCommand
    split <;> exact h.alike ⟨rfl, rfl, rfl, rfl, rfl⟩ rfl
  all_goals exact h.alike ⟨rfl, rfl, rfl, rfl, rfl⟩ rfl

/-- Every command keeps the Arbiter's and the slots' part of the invariant. -/
theorem exec_sound {c : Instr} (h : Sound nobody s) (he : exec c s = .next t) : Sound nobody t := by
  cases hc : commandEntry c with
  | some e =>
    have hs : (commandEntry c).isSome = true := by rw [hc]; rfl
    rw [exec_takeHead hs] at he
    rw [← Host.Outcome.next.inj he]
    exact h.takeHead hs
  | none =>
    cases hw : writeOf c with
    | some w =>
      have ht : t = s.write w.1 w.2 := by
        cases c with
        | registerWrite a v => obtain ⟨a, _ | _⟩ := a <;> cases hw; exact (Host.Outcome.next.inj he).symm
        | _ => first | (cases hw; exact (Host.Outcome.next.inj he).symm) | cases hw
      rw [ht]
      exact h.write _ _
    | none =>
      cases c with
      | pinReset =>
        cases he
        exact ((blockInv_iff _).mp resetMeetsInvariant).2.2.2.2.alike ⟨rfl, rfl, rfl, rfl, rfl⟩ rfl
      | tick a b p l => cases he; exact h.settleAll.count _ _ _ _
      | srcDebounceTaken => cases he; exact h.srcEvent
      | arrivalOfPresence i => cases he; exact h.arrivalEvent id
      | lossOfPresence i => cases he; exact h.lossEvent id
      | switchFault i => cases he; exact h.cutIfPowered id _
      | settleTimerExpiry i => cases he; exact h.settleEvent id
      | helloTimerExpiry i => cases he; exact h.helloEvent id
      | cutCompletion i => cases he; exact h.dischargeEvent id
      | leaseExpiry i => cases he; exact h.leaseEvent id
      | reclaimWindowExpiry i => cases he; exact h.windowEvent id
      | frameStart i => cases he; exact h.frameEvent id
      | replyWindowExpiry i => cases he; exact h.replyEvent i
      | gapTimerExpiry i => cases he; exact h.gapEvent i
      | frameAbandoned i cause => cases he; split; exacts [h.frameDone i, h]
      | linkFrameDiscarded i f => cases he; split; exacts [h, h.frameDone i]
      | malformed i k tag p => cases he; split; exacts [h, h.takeMalformed i k tag]
      | hello i tag d f ds => cases he; exact h.takeHello i tag d f ds
      | ask i tag a f fl => cases he; exact h.takeAsk i tag a f fl
      | yield i tag g => cases he; exact h.takeYield i tag g
      | withdraw i tag => cases he; exact h.takeWithdraw i tag
      | renew i tag => cases he; exact h.takeRenew i tag
      | confirm i tag g => cases he; exact h.takeConfirm i tag g
      | ack i q => cases he; exact h.takeAck i q
      | frameTransmitted i => cases he; exact h.sent i _
      | syncReceived i l => cases he; exact h.receiveAll i _
      | registerWrite a v =>
        obtain ⟨a, _ | _⟩ := a
        · cases hw
        · cases he; exact h
      | _ => first | (cases hc; done) | cases hw

theorem exec_keepsInvariant {c : Instr} (h : BlockInv s) (he : exec c s = .next t) : BlockInv t := by
  obtain ⟨h1, h2, h3, h4, h5⟩ := (blockInv_iff s).mp h
  have hk := exec_formsKept he
  exact (blockInv_iff t).mpr ⟨hk.reports h1, hk.commands h2, hk.counter h3, hk.figures h4, exec_sound h5 he⟩

end

/-- Settles O4: every command keeps the forms of queues and figures (as in O5), and of slots and lists by one lemma for each operation on a
slot. -/
theorem stepKeepsInvariant : Obligations.StepKeepsInvariant := by
  intro s t hs h
  cases hp : s.pending with
  | nil =>
    rw [step_of_idle hp] at h
    cases h
    exact hs
  | cons c rest =>
    rw [step_of_pending hp] at h
    obtain ⟨h1, h2, h3, h4, h5⟩ := (blockInv_iff s).mp hs
    exact exec_keepsInvariant (s := { s with pending := rest }) ((blockInv_iff _).mpr ⟨h1, h2, h3, h4, h5.alike ⟨rfl, rfl, rfl, rfl, rfl⟩ rfl⟩) h

end Sys2Proof.Proofs
end

/-! What a YIELD does (O38). -/
section
namespace Sys2Proof.Proofs

open Machine Safety Laws

section
variable {s : State} {i : SlotId} {tag : BitVec 3} {c : Card}

/-- A new YIELD of an ACTIVE slot is judged by its card (R83). -/
theorem exec_yield (hn : TakesFresh s i .yield tag) (hc : ActiveWith s i c) (target : Byte) :
    exec (.yield i tag target) s = .next ((frameEnded s i).newYield i c tag target.toNat) := by
  change Host.Outcome.next (s.takeYield i tag target) = _
  rw [State.takeYield, takeRequest_new hn.1, whenActive_eq hc hn]

theorem frameEnded_reclaim (s : State) (i : SlotId) : ((frameEnded s i).slot i).reclaim = (s.slot i).reclaim := by rw [frameEnded_slot]

/-- The answer to a request whose slot has been written over. -/
theorem answer_modSlot_frameEnded (s : State) (i : SlotId) (f : Slot → Slot) (k : LinkKind) (r : Reply)
    (hf : ∀ t, (f t).link = t.link) : ((frameEnded s i).modSlot i f).answer i k tag r =
      withSlot s i { f { s.slot i with link := hunting (s.slot i).link } with link := replied k tag r (s.slot i).link } := by
  rw [modSlot_eq, frameEnded_slot, answer_eq, withSlot_slot, hf]
  simp only [frameEnded, withSlot_withSlot]
  rfl

end

/-- Settles O38: the three cases of R92 and R93, each by one branch of the judgement of a new YIELD. -/
theorem yield : Obligations.Yield := by
  intro s i tag target c hn hc
  refine ⟨fun hb => ?_, fun r hlt hr hg => ?_, fun hlt hr hd => ?_⟩
  · rw [exec_yield hn hc, State.newYield, if_pos hb, refuse_eq_refused]
  · rw [exec_yield hn hc, State.newYield, if_neg (Nat.not_le.mpr hlt), frameEnded_reclaim, hr]
    dsimp only
    rw [if_neg (Nat.not_le.mpr hg), refuse_eq_refused]
  · rw [exec_yield hn hc, State.newYield, if_neg (Nat.not_le.mpr hlt), frameEnded_reclaim, hr]
    dsimp only
    rw [answer_modSlot_frameEnded s i (Slot.yieldTo c target.toNat) _ _ (fun _ => rfl), frameEnded_slot, followUpIf_eq, if_pos hd.ne]
    rfl

end Sys2Proof.Proofs
end

/-! What the host reads (O47). -/
section
namespace Sys2Proof.Proofs

open Machine Safety Laws

section
variable {s : State}

theorem half_toNat {n : Nat} (h : n < 65536) : (half n).toNat = n := by
  rw [half, BitVec.toNat_ofNat]
  exact Nat.mod_eq_of_lt h

/-- The four flags of STATUS (12.2). -/
theorem fourFlags (a b c d : Bool) : (half (flagBit a 0 + flagBit b 1 + flagBit c 2 + flagBit d 3)).getLsbD 0 = a
    ∧ (half (flagBit a 0 + flagBit b 1 + flagBit c 2 + flagBit d 3)).getLsbD 1 = b
    ∧ (half (flagBit a 0 + flagBit b 1 + flagBit c 2 + flagBit d 3)).getLsbD 2 = c
    ∧ (half (flagBit a 0 + flagBit b 1 + flagBit c 2 + flagBit d 3)).getLsbD 3 = d
    ∧ (half (flagBit a 0 + flagBit b 1 + flagBit c 2 + flagBit d 3)).toNat < 16 := by
  revert a b c d; decide

/-- The three flags of EVENTS (12.2). -/
theorem threeFlags (a b c : Bool) : (half (flagBit a 0 + flagBit b 1 + flagBit c 2)).getLsbD 0 = a
    ∧ (half (flagBit a 0 + flagBit b 1 + flagBit c 2)).getLsbD 1 = b ∧ (half (flagBit a 0 + flagBit b 1 + flagBit c 2)).getLsbD 2 = c
    ∧ (half (flagBit a 0 + flagBit b 1 + flagBit c 2)).toNat < 8 := by
  revert a b c; decide

theorem slotLocked_iff (s : State) : s.slotLocked = true ↔ ∃ i : SlotId, (s.slot i).state = .locked := by
  simp only [State.slotLocked, List.any_eq_true, Vector.mem_toList_iff, decide_eq_true_eq]
  constructor
  · rintro ⟨t, ht, hl⟩
    obtain ⟨k, hk, rfl⟩ := Vector.mem_iff_getElem.mp ht
    exact ⟨⟨k, hk⟩, hl⟩
  · rintro ⟨i, hl⟩
    exact ⟨s.slot i, Vector.getElem_mem i.isLt, hl⟩

theorem committed_slotIds (s : State) : s.committed = (slotIds.map (fun i => (s.slot i).charge)).sum := by
  rw [State.committed_eq_sum, Fin.sum_univ_eight]
  simp only [slotIds, List.map_cons, List.map_nil, List.sum_cons, List.sum_nil]
  omega

theorem reportKindCode_le (k : ReportKind) : reportKindCode k ≤ 18 := by cases k <;> decide

/-- The first halfword of a record: the slot field below the kind (12.3). -/
theorem headHalf (slot : BitVec 4) (k : ReportKind) :
    (half (slot.toNat + 256 * reportKindCode k)).extractLsb' 0 8 = slot.setWidth 8
      ∧ ((half (slot.toNat + 256 * reportKindCode k)).extractLsb' 8 8).toNat = reportKindCode k := by
  have hk := reportKindCode_le k
  have hs := slot.isLt
  constructor
  · apply BitVec.eq_of_toNat_eq
    simp only [half, BitVec.extractLsb'_toNat, BitVec.toNat_ofNat, BitVec.toNat_setWidth, Nat.shiftRight_zero]
    omega
  · simp only [half, BitVec.extractLsb'_toNat, BitVec.toNat_ofNat, Nat.shiftRight_eq_div_pow]
    omega

/-- Every index that 12.2 lists as reading something; the rest read 0. -/
theorem read_zero (s : State) (a : BitVec 6) (h : a ∈ [0x05, 0x06, 0x07, 0x0B, 0x0D, 0x0E, 0x0F, 0x15, 0x16, 0x17, 0x1D, 0x1E, 0x1F]
    ∨ (0x21 < a.toNat ∧ a.toNat < 0x28) ∨ 0x30 ≤ a.toNat) : s.read a = 0 := by
  simp only [List.mem_cons, List.not_mem_nil, or_false, ← BitVec.toNat_inj, BitVec.reduceToNat] at h
  unfold State.read
  split
  case h_30 => rfl
  all_goals exfalso; omega

theorem write_live (s : State) (a : BitVec 6) (v : Half) (h1 : 0x18 ≤ a.toNat) (h2 : a.toNat ≤ 0x1C) : s.write a v = s := by
  unfold State.write
  split
  case h_10 => rfl
  all_goals omega

end

/-- Settles O47: each register is read off its definition, and the figures fit 16 bits by the block's invariant. -/
theorem registerReads : Obligations.RegisterReads := by
  refine ⟨⟨rfl, rfl, rfl, rfl, rfl, rfl, rfl, rfl⟩, fun s hs => ?_⟩
  obtain ⟨hrep, hcmd, -, hfig, hsound⟩ := (blockInv_iff s).mp hs
  have hcmd : s.cmdQueue.length ≤ 4 := hcmd
  have hlen : s.reports.length ≤ 32 := hrep.1
  have hC : s.capacity ≤ 4095 := hfig.2.2.1 ▸ hfig.1 _
  have hH : s.reserve ≤ 4095 := hfig.2.1
  have hK : s.committed ≤ 8184 := hsound.formed.committed_le_max
  obtain ⟨s0, s1, s2, s3, s4⟩ := fourFlags s.reportReady s.episodeOpen s.slotLocked s.cmdFull
  obtain ⟨e0, e1, e2, e3⟩ := threeFlags s.gapSeen s.cmdOverrun s.capacityChanged
  have hfull : s.cmdFull = decide (s.cmdQueue.length = 4) := by
    rw [State.cmdFull, Config.cmdQueueSize, decide_eq_decide]
    omega
  have hA : (half s.available).toNat = if s.reserve < s.capacity then s.capacity - s.reserve else 0 := by
    rw [half_toNat (by rw [State.available]; omega), State.available]
    split <;> omega
  have htable : ∀ k : Fin 8, s.read (BitVec.ofNat 6 (0x28 + k.val)) = s.tableData[k] := fun k => by fin_cases k <;> rfl
  refine ⟨rfl, rfl, s0, s1, ?_, s3.trans hfull, s4, e0, e1, e2, e3, half_toNat (by omega), htable, fun _ _ => ⟨rfl, rfl, rfl⟩,
    half_toNat (by omega), half_toNat (by omega), hA, ?_, half_toNat (by omega), half_toNat (by omega), fun he => ?_, fun r rest he => ?_,
    rfl, rfl, rfl, rfl, rfl, rfl, read_zero s, fun a v h1 h2 => ?_⟩
  · rw [← slotLocked_iff, ← s2]
    rfl
  · rw [← committed_slotIds]
    exact half_toNat (by omega)
  · have head : ∀ k, s.reportHead k = 0 := fun k => by rw [State.reportHead, he]
    exact ⟨head 0, head 1, head 2, head 3⟩
  · have head : s.reportHead 0 = half (r.slot.toNat + 256 * reportKindCode r.kind) ∧ s.reportHead 1 = r.a ∧ s.reportHead 2 = r.b
        ∧ s.reportHead 3 = r.c := by simp only [State.reportHead, he, and_self]
    obtain ⟨h0, h1, h2, h3⟩ := head
    change (s.reportHead 0).extractLsb' 0 8 = _ ∧ ((s.reportHead 0).extractLsb' 8 8).toNat = _ ∧ _
    rw [h0]
    exact ⟨(headHalf _ _).1, (headHalf _ _).2, h1, h2, h3⟩
  · exact congrArg Host.Outcome.next (write_live s a v h1 h2)

end Sys2Proof.Proofs
end

/-! The law of the release walk and of the episode check (O42). -/
section
namespace Sys2Proof.Proofs

open Machine Safety Laws

section
variable {s u : State} {e : WaitEntry} {g : Nat}

/-! What an entry would be granted (R114, R115, R116). -/

theorem within_admission (s : State) (n : Nat) : s.within (n : Int) = true ↔ n + s.committed ≤ s.available := by
  rw [within_iff]; omega

theorem bestStep_iff (s : State) (i : SlotId) (c : Card) (asked floor g : Nat) :
    s.bestStep i c floor (min asked c.usableTop) = some g ↔ BestStep s i c asked floor g := by
  rw [State.bestStep, (highest_spec _ _ _).1]
  simp only [within_iff_fits, decide_eq_true_iff, decide_eq_false_iff_not]
  constructor
  · rintro ⟨h1, h2, h3, h4⟩
    exact ⟨h1, by omega, by omega, h3, fun k k1 k2 k3 => h4 k k1 (by omega)⟩
  · rintro ⟨h1, h2, h3, h4, h5⟩
    exact ⟨h1, by omega, h4, fun k k1 k2 => h5 k k1 (by omega) (by omega)⟩

theorem grantFor_none_iff (s : State) (e : WaitEntry) : s.grantFor e = none ↔ ¬ couldGrant s e := by
  unfold State.grantFor couldGrant
  cases e.kind with
  | admission =>
    dsimp only
    rw [← within_admission]
    cases s.within ((s.slot e.slot).cfg.admission : Int) <;> simp
  | step asked floor =>
    dsimp only
    cases hc : (s.slot e.slot).card with
    | none => simp
    | some c =>
      dsimp only
      rw [State.bestStep, (highest_spec _ _ _).2]
      simp only [within_iff_fits, decide_eq_false_iff_not]
      constructor
      · rintro h ⟨c', g, hc', h1, h2, h3, h4⟩
        obtain rfl := Option.some.inj hc'
        exact h g h1 (by omega) h4
      · exact fun h g h1 h2 h3 => h ⟨c, g, rfl, h1, by omega, by omega, h3⟩

theorem grantFor_admission (hk : e.kind = .admission) (h : couldGrant s e) : s.grantFor e = some 0 := by
  have h : (s.slot e.slot).cfg.admission + s.committed ≤ s.available := by rwa [couldGrant, hk] at h
  rw [State.grantFor, hk]
  dsimp only
  rw [if_pos ((within_admission _ _).mpr h)]

theorem grantFor_step {asked floor : Nat} {c : Card} (hk : e.kind = .step asked floor) (hc : (s.slot e.slot).card = some c) :
    s.grantFor e = some g ↔ BestStep s e.slot c asked floor g := by
  rw [State.grantFor, hk]
  simp only [hc]
  exact bestStep_iff s e.slot c asked floor g

/-- What did not fit does not fit once K has risen. -/
theorem grantFor_none_mono (hs : u.slot e.slot = s.slot e.slot) (hA : u.available = s.available) (hK : s.committed ≤ u.committed)
    (h : s.grantFor e = none) : u.grantFor e = none := by
  rw [grantFor_none_iff] at h ⊢
  refine fun hu => h ?_
  unfold couldGrant at hu ⊢
  rw [hs, hA] at hu
  cases hk : e.kind with
  | admission => rw [hk] at hu; dsimp only at hu ⊢; omega
  | step asked floor =>
    rw [hk] at hu
    obtain ⟨c, g, h1, h2, h3, h4, h5⟩ := hu
    refine ⟨c, g, h1, h2, h3, h4, ?_⟩
    rw [Fits, hs, hA] at h5
    rw [Fits]
    omega

theorem grantEntry_admission (hk : e.kind = .admission) : s.grantEntry e g = admissionGranted s e.slot := by
  rw [State.grantEntry, hk]
  rfl

theorem grantEntry_step {asked floor : Nat} {c : Card} (hk : e.kind = .step asked floor) (hc : (s.slot e.slot).card = some c) :
    s.grantEntry e g = stepAwarded s e.slot c g := by
  rw [State.grantEntry, hk]
  simp only [hc]
  unfold State.award State.grantStep stepAwarded
  dsimp only
  rw [modSlot_eq, modLink_eq]
  simp only [State.toHead]
  have hslot : ∀ t l, ((withSlot s e.slot t).setRecency l).slot e.slot = t := fun t l => withSlot_slot s e.slot t
  rw [hslot]
  have hw : ∀ t t' l, withSlot ((withSlot s e.slot t).setRecency l) e.slot t' = withSlot (s.setRecency l) e.slot t' := fun t t' l =>
    withSlot_withSlot (s.setRecency l) e.slot t t'
  rw [hw]
  rfl

/-! A grant does not lower a charge. -/

/-- No grant of this entry lowers its slot's charge: nothing is drawn before an admission, and a STEP entry asks for more than is held. -/
def Raises (t : Slot) (e : WaitEntry) : Prop :=
  match e.kind with
  | .admission => t.charge = 0
  | .step asked floor => ∀ c, t.card = some c → ∀ g, floor ≤ g → g ≤ asked → t.charge ≤ c.draw g

theorem raises_of_forms (he : entryFits s e = true) (hc : chargeFits (s.slot e.slot) = true) (hf : slotFits (s.slot e.slot) = true) :
    Raises (s.slot e.slot) e := by
  obtain ⟨⟨-, hk⟩, -⟩ := (entryFits_iff s e).mp he
  unfold Raises
  cases hkind : e.kind with
  | admission =>
    rw [hkind] at hk
    simpa [chargeFits, hk] using hc
  | step asked floor =>
    rw [hkind] at hk
    obtain ⟨hst, hr, c, hcard, h1, h2, h3, -⟩ := hk
    intro c' hc' g hg1 hg2
    obtain rfl := Option.some.inj (hcard.symm.trans hc')
    have hfit : Safety.cardFits c = true := by
      simp only [slotFits, hcard, Bool.and_eq_true] at hf
      exact hf.1.1.1.1.1.1.1.1.1.2.1
    have hcharge : (s.slot e.slot).charge = c.heldDraw := by
      simp only [chargeFits, hst, hcard, hr, Bool.and_eq_true, decide_eq_true_eq] at hc
      exact hc.2.1.1
    rw [hcharge]
    exact ((cardFits_iff c).mp hfit).draw_le (by omega) (by omega)

/-- A grant raises K, and not above A (R4, R9). -/
theorem grantEntry_committed (hr : Raises (s.slot e.slot) e) (hg : s.grantFor e = some g) :
    s.committed ≤ (s.grantEntry e g).committed ∧ (s.grantEntry e g).committed ≤ s.available := by
  have hK := committed_change (s := s) (u := s.grantEntry e g) (i := e.slot) fun j hj => s.grantEntry_slot_other e g hj
  unfold Raises at hr
  cases hk : e.kind with
  | admission =>
    rw [hk] at hr
    have hn : ¬ s.grantFor e = none := by rw [hg]; nofun
    rw [grantFor_none_iff, not_not, couldGrant, hk] at hn
    have hc : ((s.grantEntry e g).slot e.slot).charge = (s.slot e.slot).cfg.admission := by
      rw [grantEntry_admission hk]; simp [admissionGranted, withSlot_slot]
    dsimp only at hr hn
    omega
  | step asked floor =>
    rw [hk] at hr
    cases hc : (s.slot e.slot).card with
    | none => rw [State.grantFor, hk] at hg; simp [hc] at hg
    | some c =>
      obtain ⟨h1, h2, h3, h4, -⟩ := (grantFor_step hk hc).mp hg
      have hch : ((s.grantEntry e g).slot e.slot).charge = c.draw g := by
        rw [grantEntry_step hk hc]; simp [stepAwarded, withSlot_slot]
      have := hr c hc g h1 h2
      rw [Fits] at h4
      omega

theorem grantEntry_available (s : State) (e : WaitEntry) (g : Nat) : (s.grantEntry e g).available = s.available := by
  refine available_of_rest ?_
  simp

theorem grantEntry_policy (s : State) (e : WaitEntry) (g : Nat) : (s.grantEntry e g).policy = s.policy :=
  policy_of_rest (by simp)

/-! The walk by its steps (R114). -/

/-- The walk grants nothing of the list: none of the entries it tests fits. -/
def Exhausted (s : State) (l : List WaitEntry) : Prop :=
  ∀ front e back, l = front ++ e :: back → (∀ x ∈ front, s.policy.mode = .fit ∧ x.anchored = false) → s.grantFor e = none

theorem exhausted_nil (s : State) : Exhausted s [] := fun front e back h => by cases front <;> cases h

theorem exhausted_cons {l : List WaitEntry} :
    Exhausted s (e :: l) ↔ s.grantFor e = none ∧ (s.policy.mode = .fit → e.anchored = false → Exhausted s l) := by
  constructor
  · intro h
    refine ⟨h [] e l rfl (by simp), fun hm ha front x back hl hf => h (e :: front) x back (by rw [hl]; rfl) fun y hy => ?_⟩
    rcases List.mem_cons.mp hy with rfl | hy
    · exact ⟨hm, ha⟩
    · exact hf y hy
  · rintro ⟨h1, h2⟩ front x back hl hf
    cases front with
    | nil => cases hl; exact h1
    | cons y front =>
      cases hl
      obtain ⟨hm, ha⟩ := hf e List.mem_cons_self
      exact h2 hm ha front x back rfl fun z hz => hf z (List.mem_cons_of_mem _ hz)

/-- Entries in front that do not fit, and the rest where none of them is anchored. -/
theorem exhausted_append {p l : List WaitEntry} (hp : ∀ x ∈ p, s.grantFor x = none) (hl : (∀ x ∈ p, x.anchored = false) → Exhausted s l) :
    Exhausted s (p ++ l) := by
  induction p with
  | nil => exact hl nofun
  | cons e p ih =>
    refine exhausted_cons.mpr ⟨hp e List.mem_cons_self, fun _ ha => ih (fun x hx => hp x (List.mem_cons_of_mem _ hx)) fun hu => hl fun x hx => ?_⟩
    rcases List.mem_cons.mp hx with rfl | hx
    · exact ha
    · exact hu x hx

theorem walkOver_of_exhausted {p l : List WaitEntry} (h : Exhausted s l) : walkOver p l s = s.setWait (p ++ l) := by
  induction l generalizing p with
  | nil => rw [List.append_nil]; rfl
  | cons e l ih =>
    obtain ⟨h1, h2⟩ := exhausted_cons.mp h
    unfold walkOver
    rw [h1]
    cases hm : s.policy.mode with
    | strict => rfl
    | fit =>
      dsimp only
      cases ha : e.anchored with
      | true => rfl
      | false =>
        rw [if_neg (by simp), ih (h2 hm ha)]
        simp

/-- Entries that are tested, do not fit and are not anchored are passed (R110, R114). -/
theorem walkOver_pass {p q l : List WaitEntry} (h : ∀ x ∈ q, s.policy.mode = .fit ∧ x.anchored = false ∧ s.grantFor x = none) :
    walkOver p (q ++ l) s = walkOver (p ++ q) l s := by
  induction q generalizing p with
  | nil => rw [List.append_nil]; rfl
  | cons e q ih =>
    obtain ⟨hm, ha, hg⟩ := h e List.mem_cons_self
    rw [List.cons_append]
    conv_lhs => unfold walkOver
    simp only [hg, hm, ha, Bool.false_eq_true, if_false]
    rw [ih fun x hx => h x (List.mem_cons_of_mem _ hx), List.append_assoc]
    rfl

/-- The walk does not read the list it is going to replace. -/
theorem walkOver_setWait (p l m : List WaitEntry) (s : State) : walkOver p l (s.setWait m) = walkOver p l s := by
  induction l generalizing p s with
  | nil => rfl
  | cons e l ih =>
    have hg : (s.setWait m).grantFor e = s.grantFor e := rfl
    have hp : (s.setWait m).policy = s.policy := rfl
    unfold walkOver
    rw [hg, hp]
    cases s.grantFor e with
    | some g =>
      cases s.policy.mode with
      | strict => simp only [grantEntry_setWait, ih]
      | fit => simp only [grantEntry_setWait, ih, State.setWait_setWait]
    | none =>
      cases s.policy.mode with
      | strict => rfl
      | fit => simp only [ih, State.setWait_setWait]

theorem followUp_closed (hk : s.episode.kind = .none) : s.followUp = walkOver [] s.waitList s := by
  rw [State.followUp, if_neg (by simp [State.episodeOpen, hk])]
  rfl

/-- The entries in front that were tested before a grant still do not fit after it. -/
theorem grantFor_front {front : List WaitEntry} (hr : Raises (s.slot e.slot) e) (hg : s.grantFor e = some g)
    (hn : ∀ x ∈ front, x.slot ≠ e.slot) (hf : ∀ x ∈ front, s.grantFor x = none) : ∀ x ∈ front, (s.grantEntry e g).grantFor x = none := fun x hx =>
  grantFor_none_mono (s.grantEntry_slot_other e g (hn x hx)) (grantEntry_available s e g) (grantEntry_committed hr hg).1 (hf x hx)

theorem overtaken_front {front : List WaitEntry} {n : Nat} (h : ∀ x ∈ front, u.grantFor x = none) :
    ∀ x ∈ front.map (WaitEntry.overtake n), u.grantFor x = none := fun x hx => by
  obtain ⟨y, hy, rfl⟩ := List.mem_map.mp hx
  exact h y hy

/-- The first entry that fits is granted, the entries in front are counted, and the walk begins again over what is left (R110, R114). -/
theorem walkOver_grant {front back : List WaitEntry} (hr : Raises (s.slot e.slot) e) (hg : s.grantFor e = some g)
    (hn : ∀ x ∈ front, x.slot ≠ e.slot) (hf : ∀ x ∈ front, s.policy.mode = .fit ∧ x.anchored = false ∧ s.grantFor x = none) :
    walkOver [] (front ++ e :: back) s = walkOver [] (front.map (WaitEntry.overtake s.policy.limit) ++ back) (s.grantEntry e g) := by
  have hnone := grantFor_front hr hg hn fun x hx => (hf x hx).2.2
  have hpol := grantEntry_policy s e g
  rw [walkOver_pass hf, List.nil_append]
  conv_lhs => unfold walkOver
  rw [hg]
  cases hm : s.policy.mode with
  | strict =>
    obtain rfl : front = [] := by
      cases front with
      | nil => rfl
      | cons x _ => have := (hf x List.mem_cons_self).1; rw [hm] at this; cases this
    rfl
  | fit =>
    dsimp only
    split
    · rename_i ha
      have hex : Exhausted (s.grantEntry e g) (front.map (WaitEntry.overtake s.policy.limit) ++ back) :=
        exhausted_append (overtaken_front hnone) fun hu => by
          obtain ⟨x, hx, hxa⟩ := List.any_eq_true.mp ha
          rw [hu x hx] at hxa; cases hxa
      rw [walkOver_of_exhausted hex, List.nil_append]
    · rename_i ha
      refine (walkOver_pass (p := []) fun x hx => ⟨by rw [hpol]; exact hm, ?_, overtaken_front hnone x hx⟩).symm
      by_contra hc
      exact ha (List.any_eq_true.mpr ⟨x, hx, by simpa using hc⟩)

/-- The slots of the entries are distinct, and no grant of one lowers a charge. -/
structure Walkable (s : State) (l : List WaitEntry) : Prop where
  slots : (l.map WaitEntry.slot).Nodup
  raises : ∀ e ∈ l, Raises (s.slot e.slot) e

theorem Walkable.front {front back : List WaitEntry} (h : Walkable s (front ++ e :: back)) : ∀ x ∈ front ++ back, x.slot ≠ e.slot := by
  have hp := ((List.perm_middle (a := e) (l₁ := front) (l₂ := back)).map WaitEntry.slot).nodup_iff.mp h.slots
  rw [List.map_cons, List.nodup_cons] at hp
  exact fun x hx hc => hp.1 (hc ▸ List.mem_map_of_mem hx)

/-- What is left after a grant can be walked again. -/
theorem Walkable.grant {front back : List WaitEntry} (h : Walkable s (front ++ e :: back)) (n g : Nat) :
    Walkable (s.grantEntry e g) (front.map (WaitEntry.overtake n) ++ back) := by
  have hne := h.front
  constructor
  · have hs : (front.map (WaitEntry.overtake n) ++ back).map WaitEntry.slot = (front ++ back).map WaitEntry.slot := by
      simp [Function.comp_def, WaitEntry.overtake]
    rw [hs]
    exact h.slots.sublist (((List.sublist_cons_self e back).append_left front).map _)
  · intro x hx
    rcases List.mem_append.mp hx with hx | hx
    · obtain ⟨y, hy, rfl⟩ := List.mem_map.mp hx
      have hy' : y ∈ front ++ back := List.mem_append_left _ hy
      change Raises ((s.grantEntry e g).slot y.slot) y
      rw [s.grantEntry_slot_other e g (hne y hy')]
      exact h.raises y (List.mem_append_left _ hy)
    · rw [s.grantEntry_slot_other e g (hne x (List.mem_append_right _ hx))]
      exact h.raises x (List.mem_append_right _ (List.mem_cons_of_mem _ hx))

/-- Nothing that the walk tests fits, or a first entry does. -/
theorem exhausted_or_first (s : State) (l : List WaitEntry) : Exhausted s l ∨ ∃ front e back g, l = front ++ e :: back ∧ s.grantFor e = some g
    ∧ ∀ x ∈ front, s.policy.mode = .fit ∧ x.anchored = false ∧ s.grantFor x = none := by
  induction l with
  | nil => exact .inl (exhausted_nil s)
  | cons e l ih =>
    cases hg : s.grantFor e with
    | some g => exact .inr ⟨[], e, l, g, rfl, hg, nofun⟩
    | none =>
      by_cases hpass : s.policy.mode = .fit ∧ e.anchored = false
      · rcases ih with h | ⟨front, x, back, g, rfl, h1, h2⟩
        · exact .inl (exhausted_cons.mpr ⟨hg, fun _ _ => h⟩)
        · refine .inr ⟨e :: front, x, back, g, rfl, h1, fun y hy => ?_⟩
          rcases List.mem_cons.mp hy with rfl | hy
          · exact ⟨hpass.1, hpass.2, hg⟩
          · exact h2 y hy
      · exact .inl (exhausted_cons.mpr ⟨hg, fun hm ha => absurd ⟨hm, ha⟩ hpass⟩)

/-- The walk leaves nothing that it would grant, and K does not pass A (R9, R114). -/
theorem walkOver_exhausts (n : Nat) {l : List WaitEntry} (hn : l.length = n) (h : Walkable s l) :
    Exhausted (walkOver [] l s) (walkOver [] l s).waitList
      ∧ (s.committed ≤ s.available → (walkOver [] l s).committed ≤ (walkOver [] l s).available) := by
  induction n generalizing l s with
  | zero =>
    obtain rfl := List.length_eq_zero_iff.mp hn
    exact ⟨exhausted_nil _, id⟩
  | succ n ih =>
    rcases exhausted_or_first s l with hex | ⟨front, e, back, g, rfl, hg, hf⟩
    · rw [walkOver_of_exhausted hex]
      exact ⟨hex, id⟩
    · have hr := h.raises e (by simp)
      rw [walkOver_grant hr hg (fun x hx => h.front x (List.mem_append_left _ hx)) hf]
      obtain ⟨h1, h2⟩ := ih (s := s.grantEntry e g) (l := front.map (WaitEntry.overtake s.policy.limit) ++ back)
        (by simp only [List.length_append, List.length_cons, List.length_map] at hn ⊢; omega) (h.grant _ g)
      exact ⟨h1, fun _ => h2 (by rw [grantEntry_available]; exact (grantEntry_committed hr hg).2)⟩

theorem walkable_of_forms (h1 : WaitForm s) (h2 : EntryForm s) (h3 : ChargeForm s) (h4 : SlotForm s) : Walkable s s.waitList :=
  ⟨h1.1, fun e he => raises_of_forms (h2.1 e he) (h3 _) (h4 _)⟩

/-- A grant of the first entry that fits, as the follow-up of the state it leads to. -/
theorem followUp_grant (hk : s.episode.kind = .none) (hw : Walkable s s.waitList) {front back : List WaitEntry} (hl : s.waitList = front ++ e :: back)
    (hf : ∀ x ∈ front, s.policy.mode = .fit ∧ x.anchored = false ∧ ¬ couldGrant s x) (hg : s.grantFor e = some g) :
    s.followUp = (State.grantEntry { s with waitList := front.map (overtaken s.policy.limit) ++ back } e g).followUp := by
  rw [hl] at hw
  have hv : State.grantEntry { s with waitList := front.map (overtaken s.policy.limit) ++ back } e g =
      (s.grantEntry e g).setWait (front.map (WaitEntry.overtake s.policy.limit) ++ back) := grantEntry_setWait s _ e g
  rw [hv, followUp_closed hk, followUp_closed (by rw [State.setWait_episode, grantEntry_episode]; exact hk), hl,
    walkOver_grant (hw.raises e (by simp)) hg (fun x hx => hw.front x (List.mem_append_left _ hx))
      (fun x hx => ⟨(hf x hx).1, (hf x hx).2.1, (grantFor_none_iff s x).mpr (hf x hx).2.2⟩), walkOver_setWait]
  rfl

/-! The episode check (R150, R155). -/

theorem endEpisode_eq_episodeClosed (s : State) (o : EpisodeOutcome) :
    s.endEpisode o = episodeClosed s (episodeKindCode s.episode.kind) (outcomeCode o) := rfl

/-- The follow-up of a closed episode is the walk. -/
theorem followUp_episodeClosed (s : State) (k o : Nat) : (episodeClosed s k o).followUp = (episodeClosed s k o).walk := followUp_closed rfl

theorem followUp_overdraft (hk : s.episode.kind = .overdraft) :
    s.followUp = if s.committed ≤ s.available then (s.endEpisode .covered).walk else s := by
  rw [State.followUp, if_pos (by simp [State.episodeOpen, hk]), State.episodeCheck, hk]

theorem followUp_preempt (hk : s.episode.kind = .preempt) {i : SlotId} (hb : s.episode.beneficiary = some i) (he : s.entryOf i = some e) :
    (s.grantFor e = none → s.followUp = s) ∧ ∀ g, s.grantFor e = some g → s.followUp = s.grantBeneficiary e g := by
  have hbe : s.beneficiary.bind s.entryOf = some e := by simp [State.beneficiary, hk, hb, he]
  have hf : s.followUp = s.episodeCheck := by rw [State.followUp, if_pos (by simp [State.episodeOpen, hk])]
  constructor
  · intro hg
    rw [hf, State.episodeCheck, hk]
    simp only [hbe, hg]
  · intro g hg
    rw [hf, State.episodeCheck, hk]
    simp only [hbe, hg]

end

/-- Settles O42: the walk by its grants (`walkOver_grant`, `walkOver_of_exhausted`), what it leaves (`walkOver_exhausts`), and the two checks. -/
theorem walkLeavesNothingThatFits : Obligations.WalkLeavesNothingThatFits := by
  refine ⟨fun s h1 h2 h3 h4 hk => ?_, fun s hk => ⟨fun hlt => ?_, fun hle => ?_⟩, fun s i e asked floor c hk hb he hkind hc => ?_⟩
  · have hw := walkable_of_forms h1 h2 h3 h4
    obtain ⟨hex, hfit⟩ := walkOver_exhausts _ rfl hw
    rw [← followUp_closed hk] at hex hfit
    have hpol : s.followUp.policy = s.policy := policy_of_rest (State.rest_followUp s)
    refine ⟨fun _ e he => ?_, fun hm front e back hl hf => ?_, hfit, fun hn => ?_, fun front e back hl hf u hu => ⟨fun hkind hg => ?_, ?_⟩⟩
    · obtain ⟨l, hl⟩ := List.head?_eq_some_iff.mp he
      exact (grantFor_none_iff _ e).mp (hex [] e l hl nofun)
    · exact (grantFor_none_iff _ e).mp (hex front e back hl fun x hx => ⟨hpol ▸ hm, hf x hx⟩)
    · have hs : Exhausted s s.waitList := fun front e back hl hf => (grantFor_none_iff s e).mpr (hn front e back hl hf)
      rw [followUp_closed hk, walkOver_of_exhausted hs]
      rfl
    · rw [followUp_grant hk hw hl hf (grantFor_admission hkind hg), ← hu, grantEntry_admission hkind]
    · intro asked floor c g hkind hc hg
      rw [followUp_grant hk hw hl hf ((grantFor_step hkind hc).mpr hg), ← hu, grantEntry_step hkind (by rw [hu]; exact hc)]
  · rw [followUp_overdraft hk, if_neg (by omega)]
  · rw [followUp_overdraft hk, if_pos hle, endEpisode_eq_episodeClosed, hk, followUp_episodeClosed]
    rfl
  · obtain ⟨-, rfl⟩ := entryOf_mem he
    refine ⟨fun hn => ?_, fun g hg => ?_⟩
    · have hnone : s.grantFor e = none := (grantFor_none_iff s e).mpr fun hcould => by
        rw [couldGrant, hkind] at hcould
        obtain ⟨c', g, hc', h1, h2, h3, h4⟩ := hcould
        obtain rfl := Option.some.inj (hc.symm.trans hc')
        exact hn g h1 h2 h3 h4
      exact (followUp_preempt hk hb he).1 hnone
    · have hlist : (s.countOvertaken e.slot e.cls).removeEntry e.slot = { s with waitList := listAfterGrant s e.slot } := by
        rw [← listAfterGrant_eq]
        unfold State.countOvertaken
        rw [he]
        rfl
      rw [(followUp_preempt hk hb he).2 g ((grantFor_step hkind hc).mpr hg), followUp_episodeClosed]
      rw [State.grantBeneficiary, hlist, grantEntry_step (s := { s with waitList := listAfterGrant s e.slot }) hkind hc, endEpisode_eq_episodeClosed]
      have hep : (stepAwarded { s with waitList := listAfterGrant s e.slot } e.slot c g).episode = s.episode := by simp [stepAwarded, withSlot]
      rw [hep, hk]
      rfl

end Sys2Proof.Proofs
end

/-! A TICK leaves nothing due (O10). -/
section
namespace Sys2Proof.Proofs

open Machine Safety Laws

/-! An event that has been taken is not due any more. -/

section
variable {s u t : State} {i : SlotId}

/-- What is not due does not become due. -/
theorem Evolves.notDue (h : Evolves u t) (hc : configFits (u.slot i).cfg = true) {e : SlotEvent} (hd : dueIn (u.slot i) e = false) :
    dueIn (t.slot i) e = false := (h.calm i hc).2 e hd

/-- An operation that goes on from a change of slot i after which the event is not due. -/
theorem Evolves.notDue_modSlot {f : Slot → Slot} (h : Evolves (s.modSlot i f) t) (hs : Sound nobody s) (hc : (f (s.slot i)).cfg = (s.slot i).cfg)
    {e : SlotEvent} (hd : dueIn (f (s.slot i)) e = false) : dueIn (t.slot i) e = false :=
  h.notDue (by rw [State.modSlot_slot_same, hc]; exact (hs.holds i id).ok.cfg) (by rw [State.modSlot_slot_same]; exact hd)

theorem presenceArrives_taken (hs : Sound nobody s) : dueIn ((s.presenceArrives i).slot i) .presence = false := by
  unfold State.presenceArrives
  dsimp only
  generalize hu : s.modSlot i (fun t => { t with pres := Debounce.rest true }) = u
  have go : ∀ t, Evolves u t → dueIn (t.slot i) .presence = false := fun t h => by
    subst hu
    exact h.notDue_modSlot hs rfl rfl
  cases (u.slot i).state with
  | empty => exact go _ (Evolves.refl.arriveInEmpty i)
  | _ => exact go _ .refl

theorem presenceLost_taken (hs : Sound nobody s) : dueIn ((s.presenceLost i).slot i) .presence = false := by
  unfold State.presenceLost
  dsimp only
  generalize hu : s.modSlot i (fun t => { t with pres := Debounce.rest false }) = u
  have go : ∀ t, Evolves u t → dueIn (t.slot i) .presence = false := fun t h => by
    subst hu
    exact h.notDue_modSlot hs rfl rfl
  cases (u.slot i).state with
  | empty => exact go _ .refl
  | disabled => exact go _ (Evolves.refl.setSlotState i _)
  | locked => exact go _ (Evolves.refl.setSlotState i _)
  | admitting => exact go _ (Evolves.refl.endAdmitting i _ _)
  | settling => exact go _ (Evolves.refl.startCut i _)
  | listening => exact go _ (Evolves.refl.startCut i _)
  | active => exact go _ (Evolves.refl.startCut i _)
  | cutting => exact go _ (Evolves.refl.modSlot i _ (Calm.of_same rfl rfl))

/-- Arrival and loss, one after the other, take whatever presence is due (R22, R23). -/
theorem presence_taken (hs : Sound nobody s) : dueIn (((s.arrivalEvent i).lossEvent i).slot i) .presence = false := by
  cases hr : (s.slot i).pres.ready Config.presDebounce with
  | none =>
    rw [arrivalEvent_quiet hr, lossEvent_quiet hr]
    simp [dueIn, hr]
  | some b =>
    cases b with
    | true =>
      have he : s.arrivalEvent i = s.presenceArrives i := by unfold State.arrivalEvent; rw [hr]
      have hd := presenceArrives_taken (i := i) hs
      rw [he, lossEvent_quiet (by simpa [dueIn] using hd)]
      exact hd
    | false =>
      have he : s.arrivalEvent i = s := by unfold State.arrivalEvent; rw [hr]
      have hl : s.lossEvent i = s.presenceLost i := by unfold State.lossEvent; rw [hr]
      rw [he, hl]
      exact presenceLost_taken hs

theorem due_isSome {t : Timer} (h : t.due = true) : t.isSome = true := by cases t <;> simp_all [Timer.due]

theorem settle_taken (hs : Sound nobody s) : dueIn ((s.settleEvent i).slot i) .settle = false := by
  unfold State.settleEvent
  split
  · exact Evolves.refl.notDue_modSlot hs rfl rfl
  · rename_i hn
    by_contra hd
    have hd : (s.slot i).settle.due = true := by simpa [dueIn] using hd
    have := (hs.holds i id).ok.fits
    simp only [slotFits, Bool.and_eq_true, due_isSome hd, beq_iff_eq, eq_comm (a := true), decide_eq_true_eq] at this
    exact hn (by simp [hd, this])

/-- A cut takes whatever its slot had due, but its presence and its frame start (R34, R68). -/
theorem startCut_taken (hs : Sound nobody s) {r : CutReason} {e : SlotEvent} (he : dueIn ((s.slot i).cut r) e = false) :
    dueIn ((s.startCut i r).slot i) e = false := by
  have hc := (cutBegun_spec s i r).1
  rw [startCut_eq]
  exact (Evolves.refl.followUpIf _).notDue (by rw [hc]; exact (hs.holds i id).ok.cfg) (by rw [hc]; exact he)

theorem hello_taken (hs : Sound nobody s) : dueIn ((s.helloEvent i).slot i) .hello = false := by
  unfold State.helloEvent
  split
  · exact startCut_taken hs rfl
  · rename_i hn
    by_contra hd
    have hd : (s.slot i).hello.due = true := by simpa [dueIn] using hd
    have := (hs.holds i id).ok.fits
    simp only [slotFits, Bool.and_eq_true, due_isSome hd, beq_iff_eq, eq_comm (a := true), decide_eq_true_eq] at this
    exact hn (by simp [hd, this])

theorem discharge_taken (hs : Sound nobody s) : dueIn ((s.dischargeEvent i).slot i) .discharge = false := by
  unfold State.dischargeEvent
  split
  · unfold State.completeCut
    dsimp only
    have go : ∀ t, Evolves ((s.leaveCuts i).modSlot i (Slot.discharged (s.slot i).destination)) t → dueIn (t.slot i) .discharge = false := fun t h =>
      h.notDue (by rw [State.modSlot_slot_same]; exact (hs.holds i id).ok.cfg) (by rw [State.modSlot_slot_same]; rfl)
    generalize (s.leaveCuts i).modSlot i (Slot.discharged (s.slot i).destination) = u at go ⊢
    have h : ∀ d, Evolves u (u.report .cutDone i (destinationCode d) 0 0).followUp := fun d =>
      (Evolves.refl.report .cutDone i _ _ _ (by decide)).followUp
    cases (s.slot i).destination with
    | admission => exact go _ ((h _).startAdmission i)
    | empty =>
      dsimp only
      split
      · exact go _ ((h _).arriveInEmpty i)
      · exact go _ (h _)
    | disabled => exact go _ (h _)
    | locked => exact go _ (h _)
  · rename_i hn
    by_contra hd
    have hd : (s.slot i).discharge.due = true := by simpa [dueIn] using hd
    have := (hs.holds i id).ok.fits
    simp only [slotFits, Bool.and_eq_true, due_isSome hd, beq_iff_eq, eq_comm (a := true), decide_eq_true_eq] at this
    exact hn (by simp [hd, this])

theorem lease_taken (hs : Sound nobody s) : dueIn ((s.leaseEvent i).slot i) .lease = false := by
  unfold State.leaseEvent
  split
  · unfold State.expireLease
    dsimp only
    generalize hu : s.modSlot i (fun t => { t with lease := none }) = u
    have go : ∀ t, Evolves u t → dueIn (t.slot i) .lease = false := fun t h => by
      subst hu
      exact h.notDue_modSlot hs rfl rfl
    cases (u.slot i).card with
    | some c => exact go _ (((Evolves.refl.report .lapsed i c.held 0 0 (by decide)).notice i .lapsed c.held).reclaimTo i c 0 .lapse)
    | none => exact go _ .refl
  · rename_i hn
    by_contra hd
    have hd : (s.slot i).lease.due = true := by simpa [dueIn] using hd
    have hf := (hs.holds i id).ok.fits
    have hst : (s.slot i).state = .active := by
      by_contra hst
      have hl : (s.slot i).lease = none := by
        simp only [slotFits, leaseFits, hst, decide_false, Bool.false_and, Bool.or_false, Bool.and_eq_true, Option.isNone_iff_eq_none] at hf
        simp only [hf]
      rw [hl] at hd
      cases hd
    exact hn (by simp [hd, hst])

theorem window_taken (hs : Sound nobody s) : dueIn ((s.windowEvent i).slot i) .window = false := by
  unfold State.windowEvent
  split
  · rename_i hd
    unfold State.expireWindow
    cases hr : (s.slot i).reclaim with
    | none => simp [Slot.windowDue, hr] at hd
    | some r =>
      have hst : (s.slot i).state = .active := by
        by_contra hn
        have := (hs.holds i id).ok.fits
        simp [slotFits, hn, hr] at this
      obtain ⟨c, hact⟩ := (slotOk_active hst).mp (hs.holds i id).ok
      dsimp only
      rw [hact.card, hr]
      exact Evolves.refl.notDue_modSlot (f := fun t => t.windowExpires c r) (e := .window) hs rfl (by simp [dueIn, Slot.windowDue, Slot.windowExpires])
  · rename_i hn
    simpa [dueIn] using hn

theorem frame_taken (hs : Sound nobody s) : dueIn ((s.frameEvent i).slot i) .frame = false := by
  unfold State.frameEvent
  split
  · unfold State.startFrame
    dsimp only
    generalize hu : s.modSlot i (fun t => { t with frameDue := false }) = u
    have go : ∀ t, Evolves u t → dueIn (t.slot i) .frame = false := fun t h => by
      subst hu
      exact h.notDue_modSlot hs rfl rfl
    split
    · split
      · exact go _ (Evolves.refl.takeWidth _ _ _ _)
      · split
        · exact go _ (Evolves.refl.claimLift _ _)
        · exact go _ .refl
    · exact go _ .refl
    · exact go _ .refl
    · exact go _ .refl
  · rename_i hn
    simpa [dueIn] using hn

theorem reply_taken (hs : Sound nobody s) : dueIn ((s.replyEvent i).slot i) .reply = false := by
  unfold State.replyEvent
  split
  · rename_i o ho
    split
    · split
      · refine Evolves.refl.notDue_modSlot hs rfl ?_
        simp only [dueIn, Link.retry, replyDue_pump]
        simp [replyDue]
      · have hl := (hs.holds i id).ok.link
        have hon : linkOn (s.slot i).state = true := hl.power.mp fun ha => by rw [(offIsEmpty_off hl.off ha).2.2.1] at ho; cases ho
        have hp : (s.slot i).powered = true := by
          cases hst : (s.slot i).state <;> simp_all [linkOn, Slot.powered]
        unfold State.cutIfPowered
        rw [if_pos hp]
        exact startCut_taken hs rfl
    · rename_i hn
      simpa [dueIn, replyDue, ho] using hn
  · rename_i ho
    simp [dueIn, replyDue, ho]

theorem gap_taken (hs : Sound nobody s) : dueIn ((s.gapEvent i).slot i) .gap = false := by
  unfold State.gapEvent
  split
  · rename_i hd
    have hl := (hs.holds i id).ok.link
    have ha : (s.slot i).link.asm ≠ .off := fun ha => by rw [(offIsEmpty_off hl.off ha).1] at hd; cases hd
    rw [frameDone_eq ha, frameEnded_slot]
    rfl
  · rename_i hn
    simpa [dueIn] using hn

/-! All events of a slot. -/

/-- An operation of slot i that keeps the invariant and after which event e is not due. -/
structure Settles (i : SlotId) (e : SlotEvent) (f : State → State) : Prop where
  sound : ∀ s, Sound nobody s → Sound nobody (f s)
  evolves : ∀ s, Evolves s (f s)
  taken : ∀ s, Sound nobody s → dueIn ((f s).slot i) e = false

/-- The events of slot i in the order of a tick; arrival and loss take presence together. -/
def slotEvents (i : SlotId) : List (SlotEvent × (State → State)) :=
  [(.presence, fun s => (s.arrivalEvent i).lossEvent i), (.settle, fun s => s.settleEvent i), (.hello, fun s => s.helloEvent i),
    (.discharge, fun s => s.dischargeEvent i), (.lease, fun s => s.leaseEvent i), (.window, fun s => s.windowEvent i),
    (.frame, fun s => s.frameEvent i), (.reply, fun s => s.replyEvent i), (.gap, fun s => s.gapEvent i)]

theorem settleSlot_eq (s : State) (i : SlotId) : s.settleSlot i = (slotEvents i).foldl (fun u p => p.2 u) s := by
  simp only [State.settleSlot, slotEvents, List.foldl_cons, List.foldl_nil]

theorem slotEvents_settle (i : SlotId) : ∀ p ∈ slotEvents i, Settles i p.1 p.2 := by
  simp only [slotEvents, List.forall_mem_cons]
  exact ⟨⟨fun _ h => (h.arrivalEvent id).lossEvent id, fun _ => (Evolves.refl.arrivalEvent i).lossEvent i, fun _ => presence_taken⟩,
    ⟨fun _ h => h.settleEvent id, fun _ => Evolves.refl.settleEvent i, fun _ => settle_taken⟩,
    ⟨fun _ h => h.helloEvent id, fun _ => Evolves.refl.helloEvent i, fun _ => hello_taken⟩,
    ⟨fun _ h => h.dischargeEvent id, fun _ => Evolves.refl.dischargeEvent i, fun _ => discharge_taken⟩,
    ⟨fun _ h => h.leaseEvent id, fun _ => Evolves.refl.leaseEvent i, fun _ => lease_taken⟩,
    ⟨fun _ h => h.windowEvent id, fun _ => Evolves.refl.windowEvent i, fun _ => window_taken⟩,
    ⟨fun _ h => h.frameEvent id, fun _ => Evolves.refl.frameEvent i, fun _ => frame_taken⟩,
    ⟨fun _ h => h.replyEvent i, fun _ => Evolves.refl.replyEvent i, fun _ => reply_taken⟩,
    ⟨fun _ h => h.gapEvent i, fun _ => Evolves.refl.gapEvent i, fun _ => gap_taken⟩, nofun⟩

/-- Each event of the list is taken, and stays so. -/
theorem events_taken {l : List (SlotEvent × (State → State))} (hl : ∀ p ∈ l, Settles i p.1 p.2) (hs : Sound nobody s) {e : SlotEvent}
    (he : dueIn (s.slot i) e = false ∨ e ∈ l.map Prod.fst) : dueIn ((l.foldl (fun u p => p.2 u) s).slot i) e = false := by
  induction l generalizing s with
  | nil => simpa using he
  | cons p l ih =>
    have hp := hl p List.mem_cons_self
    refine ih (fun q hq => hl q (List.mem_cons_of_mem _ hq)) (hp.sound s hs) ?_
    rcases he with he | he
    · exact .inl ((hp.evolves s).notDue (hs.holds i id).ok.cfg he)
    · rcases List.mem_cons.mp he with rfl | he
      · exact .inl (hp.taken s hs)
      · exact .inr he

theorem settleSlot_settled (hs : Sound nobody s) : slotQuiet ((s.settleSlot i).slot i) = true := by
  rw [slotQuiet_iff, settleSlot_eq]
  exact fun e => events_taken (slotEvents_settle i) hs (.inr (by cases e <;> simp [slotEvents]))

/-- The events of all slots, one slot after another. -/
theorem settleSlots_quiet {l : List SlotId} (hs : Sound nobody s) {j : SlotId} (hj : slotQuiet (s.slot j) = true ∨ j ∈ l) :
    slotQuiet ((l.foldl (fun u i => u.settleSlot i) s).slot j) = true := by
  induction l generalizing s with
  | nil => simpa using hj
  | cons i l ih =>
    rw [List.foldl_cons]
    refine ih (hs.settleSlot i) ?_
    rcases hj with hj | hj
    · exact .inl (((Evolves.refl.settleSlot i).calm j).quiet (hs.holds j id).ok.cfg hj)
    · rcases List.mem_cons.mp hj with rfl | hj
      · exact .inl (settleSlot_settled hs)
      · exact .inr hj

theorem settleSlots_rest (l : List SlotId) (s : State) : (l.foldl (fun u i => u.settleSlot i) s).rest = s.rest :=
  (Evolves.refl.foldl l _ fun _ i hv => hv.settleSlot i).rest

/-! The command queue (R164). -/

theorem cmdQueue_of_rest (h : t.rest = s.rest) : t.cmdQueue = s.cmdQueue := (congrArg State.cmdQueue h :)

theorem src_of_rest (h : t.rest = s.rest) : t.src = s.src := (congrArg State.src h :)

theorem canTake_head {e : CmdEntry} {rest : List CmdEntry} (hq : s.cmdQueue = e :: rest) :
    s.canTake (entryCommand e) = decide (s.reports.length < Config.throttle) := by
  simp [State.canTake, State.headCommand, hq]

/-- A figure row leaves the rest of the command queue and the SRC debounce. -/
structure RowLeaves (s t : State) : Prop where
  cmdQueue : t.cmdQueue = s.cmdQueue.tail
  src : t.src = s.src

theorem RowLeaves.of_rest (h : t.rest = s.popCommand.rest) : RowLeaves s t :=
  ⟨cmdQueue_of_rest (s := s.popCommand) h, src_of_rest (s := s.popCommand) h⟩

/-- Whatever goes on from a write of figures. -/
theorem RowLeaves.of_evolves {v : State} (h : Evolves v t) (hs : RowLeaves s u) (hc : v.cmdQueue = u.cmdQueue) (hsrc : v.src = u.src) :
    RowLeaves s t :=
  ⟨(cmdQueue_of_rest h.rest).trans (hc.trans hs.cmdQueue), (src_of_rest h.rest).trans (hsrc.trans hs.src)⟩

/-- A command that is taken leaves the rest of the queue behind it, and the SRC debounce as it is. -/
theorem takeHead_leaves {c : Instr} (hc : (commandEntry c).isSome = true) (ht : s.canTake c = true) : RowLeaves s (s.takeHead c) := by
  have pop : ∀ (code : Nat) (res : ResultCode) (p0 : Half), RowLeaves s (s.popCommand.result code none res p0) :=
    fun code res p0 => .of_rest (Evolves.refl.result code none res p0).rest
  have taken : ∀ run, s.takeCommand c run = run s.popCommand := fun run => by unfold State.takeCommand; rw [if_pos ht]
  cases hr : rowEvolves c with
  | true =>
    rcases takeHead_row hr s with ⟨hn, -⟩ | h
    · rw [ht] at hn; cases hn
    · exact .of_rest h.rest
  | false =>
    rcases figure_row hc hr with ⟨index, n, rfl⟩ | ⟨amount, force, rfl⟩ | ⟨mode, limit, preempt, rfl⟩
    · rw [State.takeHead, taken]
      change RowLeaves s (s.popCommand.runSetProfile index n)
      unfold State.runSetProfile
      split
      · split
        · rename_i hi _
          have h := writeProfile_evolves (s.popCommand.result 7 none .ok index) ⟨index.toNat, hi⟩ n.toNat
          have hp := pop 7 .ok index
          split at h
          · exact .of_evolves h hp rfl rfl
          · rw [h]
            exact ⟨hp.cmdQueue, hp.src⟩
        · exact pop _ _ _
      · exact pop _ _ _
    · rw [State.takeHead, taken]
      change RowLeaves s (s.popCommand.runSetReserve amount force)
      unfold State.runSetReserve
      dsimp only
      split
      · exact .of_evolves (writeReserve_evolves _ amount.toNat) (pop 8 _ amount) rfl rfl
      · exact pop _ _ _
    · rw [State.takeHead, taken]
      change RowLeaves s (s.popCommand.runSetPolicy mode limit preempt)
      unfold State.runSetPolicy
      split
      · exact .of_evolves (writePolicy_evolves _ mode limit preempt) (pop 9 .ok mode) rfl rfl
      · exact pop _ _ _

/-- The commands are taken until none is left or the throttle holds (R164). -/
theorem takeHeads_done {n : Nat} (hn : s.cmdQueue.length ≤ n) :
    ((takeHeads n s).cmdQueue = [] ∨ Config.throttle ≤ (takeHeads n s).reports.length) ∧ (takeHeads n s).src = s.src := by
  induction n generalizing s with
  | zero => exact ⟨.inl (List.length_eq_zero_iff.mp (Nat.le_zero.mp hn)), rfl⟩
  | succ n ih =>
    by_cases hthr : Config.throttle ≤ s.reports.length
    · rw [takeHeads_throttled hthr]
      exact ⟨.inr hthr, rfl⟩
    · unfold takeHeads
      cases hq : s.cmdQueue with
      | nil => simp [State.headCommand, hq]
      | cons e rest =>
        have hh : s.headCommand = some (entryCommand e) := by simp [State.headCommand, hq]
        have hl := takeHead_leaves (commandEntry_entryCommand e) (by rw [canTake_head hq]; simpa using hthr)
        rw [hh]
        dsimp only
        obtain ⟨h1, h2⟩ := ih (s := s.takeHead (entryCommand e)) (by
          rw [hl.cmdQueue, List.length_tail]; omega)
        exact ⟨h1, h2.trans hl.src⟩

theorem takeHeads_slotQuiet (hs : Sound nobody s) (n : Nat) {j : SlotId} (hj : slotQuiet (s.slot j) = true) :
    slotQuiet ((takeHeads n s).slot j) = true := by
  induction n generalizing s with
  | zero => exact hj
  | succ n ih =>
    unfold takeHeads
    split
    · rename_i cmd hcmd
      obtain ⟨e, -, rfl⟩ := Option.map_eq_some_iff.mp hcmd
      have hc := commandEntry_entryCommand e
      exact ih (hs.takeHead hc) (((Kept.takeHead hc s).calm j).quiet (hs.holds j id).ok.cfg hj)
    · exact hj

theorem srcEvent_ready (s : State) : s.srcEvent.src.ready Config.srcDebounce = none := by
  rcases srcEvent_cases s with ⟨h, e⟩ | ⟨v, -, h⟩
  · rw [e]; exact h
  · have : s.srcEvent.src = (srcTaken s v).src := src_of_rest h.rest
    rw [this]; rfl

theorem srcEvent_cmdQueue (s : State) : s.srcEvent.cmdQueue = s.cmdQueue := by
  rcases srcEvent_cases s with ⟨-, e⟩ | ⟨v, -, h⟩
  · rw [e]
  · exact cmdQueue_of_rest (s := srcTaken s v) h.rest

/-- The state in which the tick takes the queued commands. -/
def eventsTaken (s : State) : State := slotIds.foldl (fun s i => s.settleSlot i) s.srcEvent

theorem eventsTaken_cmdQueue (s : State) : (eventsTaken s).cmdQueue = s.cmdQueue := by
  unfold eventsTaken
  rw [cmdQueue_of_rest (settleSlots_rest slotIds s.srcEvent), srcEvent_cmdQueue]

theorem settleAll_isQuiet (hs : Sound nobody s) : Quiet s.settleAll := by
  have hall : s.settleAll = takeHeads s.cmdQueue.length (eventsTaken s) := by unfold State.settleAll eventsTaken; rfl
  have hev : Sound nobody (eventsTaken s) := by unfold eventsTaken; exact hs.srcEvent.settleSlots slotIds
  obtain ⟨h1, h2⟩ := takeHeads_done (s := eventsTaken s) (n := s.cmdQueue.length) (by rw [eventsTaken_cmdQueue])
  have hsrc : (eventsTaken s).src = s.srcEvent.src := by
    unfold eventsTaken
    exact src_of_rest (settleSlots_rest slotIds s.srcEvent)
  rw [hall]
  refine ⟨by rw [h2, hsrc, srcEvent_ready]; rfl, fun j => takeHeads_slotQuiet hev _ ?_, h1⟩
  unfold eventsTaken
  exact settleSlots_quiet hs.srcEvent (.inr (mem_slotIds j))

/-! The rows that a tick executes. -/

/-- The rows of the events of slot i, in the order of a tick. -/
def slotRows (i : SlotId) : List Instr :=
  [.arrivalOfPresence i, .lossOfPresence i, .settleTimerExpiry i, .helloTimerExpiry i, .cutCompletion i, .leaseExpiry i, .reclaimWindowExpiry i,
    .frameStart i, .replyWindowExpiry i, .gapTimerExpiry i]

theorem execRows_slotRows (s : State) (i : SlotId) : execRows (slotRows i) s = .next (s.settleSlot i) := by
  unfold State.settleSlot
  rfl

theorem execRows_slots (l : List SlotId) (s : State) : execRows (l.flatMap slotRows) s = .next (l.foldl (fun s i => s.settleSlot i) s) := by
  induction l generalizing s with
  | nil => rfl
  | cons i l ih => rw [List.flatMap_cons, execRows_append (execRows_slotRows s i), ih, List.foldl_cons]

theorem execRows_dueRows (s : State) : execRows dueRows s = .next (eventsTaken s) := by
  unfold dueRows eventsTaken execRows
  exact execRows_slots slotIds s.srcEvent

theorem execHeads_eq (n : Nat) (s : State) : execHeads n s = .next (takeHeads n s) := by
  induction n generalizing s with
  | zero => rfl
  | succ n ih =>
    unfold execHeads takeHeads State.headCommand
    cases s.cmdQueue with
    | nil => rfl
    | cons e rest =>
      dsimp only
      rw [exec_takeHead (commandEntry_entryCommand e)]
      exact ih _

end

/-- Settles O10: the rows are the events of `settleAll`, each of which leaves itself not due, and so a second tick finds nothing. -/
theorem tickTakesDueEventsFirst : Obligations.TickTakesDueEventsFirst := by
  intro s src1 src0 pres ended underWay hs
  have hq := settleAll_isQuiet ((blockInv_iff s).mp hs).2.2.2.2
  refine ⟨⟨eventsTaken s, execRows_dueRows s, eventsTaken_cmdQueue s, ?_⟩, hq, ?_⟩
  · rw [execHeads_eq, State.settleAll, eventsTaken]
  · rw [exec_tick_quiet hq]
    rfl

end Sys2Proof.Proofs
end

/-! The order of R145, and what an OVERDRAFT takes from it (R145, R146, R147). -/
section
namespace Sys2Proof.Proofs

open Machine Safety Laws

/-! The order of R145. -/

section
variable {s u : State} {i j : SlotId} {p : SlotId → Bool}

theorem shedBefore_asymm (h : ShedBefore s i j) : ¬ ShedBefore s j i := by
  unfold ShedBefore at h ⊢
  omega

theorem idxOf_pairwise {l : List SlotId} (hl : l.Nodup) : l.Pairwise (fun a b => l.idxOf a < l.idxOf b) := by
  rw [List.pairwise_iff_getElem]
  intro a b ha hb hab
  rwa [hl.idxOf_getElem, hl.idxOf_getElem]

/-- The part of the order that holds the slots of class k. -/
def shedClass (s : State) (p : SlotId → Bool) (k : Nat) : List SlotId :=
  s.recency.filter (fun i => decide ((s.slot i).cfg.cls = k) && p i)
    ++ slotIds.reverse.filter (fun i => decide ((s.slot i).cfg.cls = k) && p i && !s.recency.contains i)

theorem inShedOrder_eq (s : State) (p : SlotId → Bool) : s.inShedOrder p = [0, 1, 2, 3].flatMap (shedClass s p) := rfl

theorem mem_shedClass {k : Nat} : i ∈ shedClass s p k ↔ (s.slot i).cfg.cls = k ∧ p i = true := by
  by_cases hr : i ∈ s.recency <;> simp [shedClass, hr, mem_slotIds]

theorem mem_inShedOrder_iff (hc : (s.slot i).cfg.cls ≤ 3) : i ∈ s.inShedOrder p ↔ p i = true := by
  have hk : (s.slot i).cfg.cls ∈ [0, 1, 2, 3] := by
    simp only [List.mem_cons, List.not_mem_nil]
    omega
  simp only [inShedOrder_eq, List.mem_flatMap, mem_shedClass]
  exact ⟨fun ⟨_, _, _, h⟩ => h, fun h => ⟨_, hk, rfl, h⟩⟩

/-- Slots on the recency list come first, in its order; behind them those not on it, highest number first. -/
theorem shedRank_pairwise (hr : s.recency.Nodup) (k : Nat) : (shedClass s p k).Pairwise (fun a b => shedRank s a < shedRank s b) := by
  refine List.pairwise_append.mpr ⟨List.Pairwise.filter _ ?_, ?_, fun a ha b hb => ?_⟩
  · refine (idxOf_pairwise hr).imp_of_mem fun {a b} ha hb hab => ?_
    simpa only [shedRank, if_pos ha, if_pos hb] using hab
  · have hd : slotIds.reverse.Pairwise (fun a b => b.val < a.val) := by decide
    refine (hd.filter _).imp_of_mem fun {a b} ha hb hab => ?_
    have hna : a ∉ s.recency := by have := (List.mem_filter.mp ha).2; simp_all
    have hnb : b ∉ s.recency := by have := (List.mem_filter.mp hb).2; simp_all
    simp only [shedRank, if_neg hna, if_neg hnb]
    omega
  · have hra := List.mem_of_mem_filter ha
    have hnb : b ∉ s.recency := by have := (List.mem_filter.mp hb).2; simp_all
    simp only [shedRank, if_pos hra, if_neg hnb]
    have := List.idxOf_lt_length_iff.mpr hra
    omega

theorem inShedOrder_pairwise (hr : s.recency.Nodup) : (s.inShedOrder p).Pairwise (ShedBefore s) := by
  rw [inShedOrder_eq, List.pairwise_flatMap]
  constructor
  · exact fun k _ => (shedRank_pairwise hr k).imp_of_mem fun {a b} ha hb hab =>
      .inr ⟨(mem_shedClass.mp ha).1.trans (mem_shedClass.mp hb).1.symm, hab⟩
  · have hk : [0, 1, 2, 3].Pairwise (fun a b : Nat => a < b) := by decide
    refine hk.imp fun {a b} hab x hx y hy => .inl ?_
    rw [(mem_shedClass.mp hx).1, (mem_shedClass.mp hy).1]
    exact hab

/-- What is taken from the front of the order is taken in order, and passes over none. -/
theorem takenInOrder_of_prefix {eligible : SlotId → Prop} {l' : List SlotId} (hr : s.recency.Nodup) (hc : ∀ j, (s.slot j).cfg.cls ≤ 3)
    (he : ∀ j, eligible j ↔ p j = true) (hl : l' <+: s.inShedOrder p) : TakenInOrder s eligible l' := by
  have hp : (s.inShedOrder p).Pairwise (ShedBefore s) := inShedOrder_pairwise hr
  refine ⟨hp.sublist hl.sublist, fun i hi => (he i).mpr (mem_inShedOrder (hl.subset hi)), fun i hi j hj hji => ?_⟩
  have hm : j ∈ s.inShedOrder p := (mem_inShedOrder_iff (hc j)).mpr ((he j).mp hj)
  obtain ⟨r, hr⟩ := hl
  rw [← hr] at hm hp
  rcases List.mem_append.mp hm with hm | hm
  · exact hm
  · exact absurd hji (shedBefore_asymm ((List.pairwise_append.mp hp).2.2 i hi j hm))

theorem inShedOrder_congr {q : SlotId → Bool} (hr : u.recency = s.recency) (hc : ∀ j, (u.slot j).cfg.cls = (s.slot j).cfg.cls)
    (hp : ∀ j, q j = p j) : u.inShedOrder q = s.inShedOrder p := by
  simp only [State.inShedOrder, hr, hc, hp]

end

/-! The choice of victims (R146). -/

section
variable {s u : State} {amount : Nat}

/-- The victim list's record of slot i as a victim with target g. -/
def victimFor (s : State) (i : SlotId) (g : Nat) : Victim := { slot := i, target := g, remaining := s.remainingFor i g }

/-- The effective floor of the card in a slot. -/
def floorOf (s : State) (i : SlotId) : Nat := ((s.slot i).card.map Card.effFloor).getD 0

/-- The victims that `takeVictims` enters over a running sum. -/
def victimsOf (s : State) (amount : Nat) : List SlotId → Nat → List Victim
  | [], _ => []
  | i :: rest, sum =>
    match (s.slot i).card with
    | none => victimsOf s amount rest sum
    | some c =>
      if sum + s.reduction i < amount then victimFor s i c.effFloor :: victimsOf s amount rest (sum + s.reduction i)
      else [victimFor s i (lastTarget c sum amount)]

/-- What the choice relies on for a candidate. -/
structure Giving (s : State) (i : SlotId) (c : Card) : Prop where
  card : (s.slot i).card = some c
  floor : c.effFloor < c.held
  charge : (s.slot i).charge = c.draw c.held

/-- The choice on a list of candidates: all at their floors where that does not reach the amount, and otherwise all before the one that
reaches it, and that one at its last target. -/
theorem victimsOf_cases {l : List SlotId} {sum : Nat} (hl : ∀ i ∈ l, ∃ c, Giving s i c) (hlt : sum < amount) :
    (sum + (l.map s.reduction).sum < amount ∧ victimsOf s amount l sum = l.map (fun i => victimFor s i (floorOf s i)))
    ∨ ∃ front i c rest, l = front ++ i :: rest ∧ Giving s i c ∧ sum + (front.map s.reduction).sum < amount
      ∧ amount ≤ sum + (front.map s.reduction).sum + s.reduction i
      ∧ victimsOf s amount l sum = front.map (fun i => victimFor s i (floorOf s i))
          ++ [victimFor s i (lastTarget c (sum + (front.map s.reduction).sum) amount)] := by
  induction l generalizing sum with
  | nil => exact .inl ⟨by simpa using hlt, rfl⟩
  | cons i l ih =>
    obtain ⟨c, hc⟩ := hl i List.mem_cons_self
    have hf : floorOf s i = c.effFloor := by simp [floorOf, hc.card]
    simp only [victimsOf, hc.card]
    by_cases hr : sum + s.reduction i < amount
    · rw [if_pos hr]
      rcases ih (fun j hj => hl j (List.mem_cons_of_mem _ hj)) hr with ⟨h1, h2⟩ | ⟨front, j, d, rest, rfl, h2, h3, h4, h5⟩
      · exact .inl ⟨by simpa [add_assoc] using h1, by rw [h2, List.map_cons, hf]⟩
      · refine .inr ⟨i :: front, j, d, rest, rfl, h2, by simpa [add_assoc] using h3, by simpa [add_assoc] using h4, ?_⟩
        rw [h5, List.map_cons, List.map_cons, hf, List.sum_cons, add_assoc]
        rfl
    · rw [if_neg hr]
      exact .inr ⟨[], i, c, l, rfl, hc, by simpa using hlt, by simpa using hr, by simp⟩

theorem Giving.remaining {i : SlotId} {c : Card} (h : Giving s i c) (g : Nat) : (victimFor s i g).remaining = c.draw c.held - c.draw g := by
  simp [victimFor, State.remainingFor, h.card, h.charge]

theorem Giving.reduction {i : SlotId} {c : Card} (h : Giving s i c) : s.reduction i = c.draw c.held - c.draw c.effFloor := by
  simp [State.reduction, h.card, h.charge]

theorem Giving.floorOf {i : SlotId} {c : Card} (h : Giving s i c) : floorOf s i = c.effFloor := by simp [Proofs.floorOf, h.card]

/-- The last target is the highest step that completes the amount, where the floor does (R146). -/
theorem lastTarget_spec {c : Card} {sum : Nat} (hf : c.effFloor < c.held) (hr : amount ≤ sum + (c.draw c.held - c.draw c.effFloor)) :
    c.effFloor ≤ lastTarget c sum amount ∧ amount ≤ sum + (c.draw c.held - c.draw (lastTarget c sum amount))
      ∧ ∀ k, lastTarget c sum amount < k → k < c.held → sum + (c.draw c.held - c.draw k) < amount := by
  obtain ⟨hsome, hnone⟩ := highest_spec (fun k => decide (amount ≤ sum + (c.heldDraw - c.draw k))) c.effFloor (c.held - 1)
  unfold lastTarget
  cases hh : highest (fun k => decide (amount ≤ sum + (c.heldDraw - c.draw k))) c.effFloor (c.held - 1) with
  | none =>
    have := hnone.mp hh c.effFloor le_rfl (by omega)
    exact absurd hr (of_decide_eq_false this)
  | some g =>
    obtain ⟨h1, h2, h3, h4⟩ := (hsome g).mp hh
    refine ⟨h1, of_decide_eq_true h3, fun k hk hk' => ?_⟩
    have := h4 k hk (by omega)
    exact not_le.mp (of_decide_eq_false this)

end

section
variable {s : State} {amount : Nat}

/-- The floors of a list of candidates give the sum of their reductions. -/
theorem sum_floors {l : List SlotId} (hl : ∀ i ∈ l, ∃ c, Giving s i c) :
    ((l.map (fun i => victimFor s i (floorOf s i))).map Victim.remaining).sum = (l.map s.reduction).sum := by
  rw [List.map_map]
  congr 1
  refine List.map_congr_left fun i hi => ?_
  obtain ⟨c, hc⟩ := hl i hi
  rw [Function.comp_apply, hc.remaining, hc.floorOf, hc.reduction]

theorem slots_floors (l : List SlotId) : (l.map (fun i => victimFor s i (floorOf s i))).map Victim.slot = l := by
  rw [List.map_map]
  exact List.map_id l

theorem Formed.cls_le (h : Formed s) (j : SlotId) : (s.slot j).cfg.cls ≤ 3 := ((configFits_iff _).mp (h.holds j).ok.cfg).cls

/-- What holds of each candidate (R145). -/
theorem giving_of_candidate (h : Formed s) {below : Option Nat} {i : SlotId} (hi : s.isCandidate below i = true) : ∃ c, Giving s i c := by
  unfold State.isCandidate at hi
  simp only [Bool.and_eq_true, decide_eq_true_eq, Option.isNone_iff_eq_none] at hi
  obtain ⟨⟨⟨hst, hr⟩, hf⟩, -⟩ := hi
  cases hc : (s.slot i).card with
  | none => simp [hc] at hf
  | some c =>
    have hact := (h.holds i).active hst hc
    exact ⟨c, hc, by simpa [hc] using hf, (hact.free hr).1⟩

/-- A candidate of any class can give something, and no other slot can (R145). -/
theorem canGive_eq (h : Formed s) (i : SlotId) : canGive s 4 i = if s.isCandidate none i = true then s.reduction i else 0 := by
  have hc := h.cls_le i
  unfold canGive State.isCandidate State.reduction
  cases hcard : (s.slot i).card with
  | none => simp [hcard]
  | some c =>
    have : (s.slot i).cfg.cls < 4 := by omega
    simp [hcard, this, and_assoc]

theorem canGive_pos (h : Formed s) (i : SlotId) : 0 < canGive s 4 i ↔ s.isCandidate none i = true := by
  rw [canGive_eq h]
  split
  · rename_i hi
    obtain ⟨c, hg⟩ := giving_of_candidate h hi
    have hst : (s.slot i).state = .active := by
      unfold State.isCandidate at hi
      simp only [Bool.and_eq_true, decide_eq_true_eq] at hi
      exact hi.1.1.1
    have hsh := ((h.holds i).active hst hg.card).cardShape
    have := hsh.draw_lt hg.floor hsh.held
    rw [hg.reduction]
    simp only [hi, iff_true]
    omega
  · rename_i hi
    simp [hi]

theorem sum_map_filter (f : SlotId → Nat) (p : SlotId → Bool) (l : List SlotId) :
    ((l.filter p).map f).sum = (l.map (fun i => if p i = true then f i else 0)).sum := by
  induction l with
  | nil => rfl
  | cons i l ih => by_cases hp : p i = true <;> simp [hp, ih]

/-- What all slots can give is what the candidates give. -/
theorem sum_canGive (h : Formed s) : (slotIds.map (canGive s 4)).sum = ((s.candidates none).map s.reduction).sum := by
  have hperm : (s.candidates none).Perm (slotIds.filter (s.isCandidate none)) :=
    (List.perm_ext_iff_of_nodup (nodup_inShedOrder h.lists.recency _) (nodup_slotIds.filter _)).mpr fun i => by
      rw [mem_inShedOrder_iff (h.cls_le i), List.mem_filter]
      simp [mem_slotIds]
  rw [(hperm.map _).sum_eq, sum_map_filter]
  congr 1
  exact List.map_congr_left fun i _ => canGive_eq h i

/-- The choice over all candidates is the choice of R145 and R146. -/
theorem shedChoice_victimsOf (h : Formed s) (hpos : 1 ≤ amount) : ShedChoice s 4 amount (victimsOf s amount (s.candidates none) 0) := by
  have hgiv : ∀ i ∈ s.candidates none, ∃ c, Giving s i c := fun i hi => giving_of_candidate h (mem_inShedOrder hi)
  have htaken : ∀ l', l' <+: s.candidates none → TakenInOrder s (fun j => 0 < canGive s 4 j) l' := fun l' hl' =>
    takenInOrder_of_prefix h.lists.recency (h.cls_le) (canGive_pos h) hl'
  have hmem : ∀ j, 0 < canGive s 4 j → j ∈ s.candidates none := fun j hj =>
    (mem_inShedOrder_iff (h.cls_le j)).mpr ((canGive_pos h j).mp hj)
  have hsum := sum_canGive h
  generalize s.candidates none = l at *
  have hfloor : ∀ v ∈ l.map (fun i => victimFor s i (floorOf s i)), ∃ c, Giving s v.slot c ∧ v = victimFor s v.slot c.effFloor := fun v hv => by
    obtain ⟨i, hi, rfl⟩ := List.mem_map.mp hv
    obtain ⟨c, hc⟩ := hgiv i hi
    exact ⟨c, hc, by rw [hc.floorOf]; rfl⟩
  have atFloor : ∀ v ∈ l.map (fun i => victimFor s i (floorOf s i)), ∀ c, (s.slot v.slot).card = some c → v.target = c.effFloor := fun v hv c hc => by
    obtain ⟨d, hd, he⟩ := hfloor v hv
    obtain rfl : d = c := Option.some.inj (hd.card.symm.trans hc)
    rw [he]
    rfl
  have entryFloor : ∀ v ∈ l.map (fun i => victimFor s i (floorOf s i)), ∃ c, (s.slot v.slot).card = some c ∧ c.effFloor ≤ v.target ∧ v.target < c.held
      ∧ v.remaining = c.draw c.held - c.draw v.target := fun v hv => by
    obtain ⟨c, hc, he⟩ := hfloor v hv
    exact ⟨c, hc.card, by rw [he]; exact le_rfl, by rw [he]; exact hc.floor, by rw [he]; exact hc.remaining _⟩
  rcases victimsOf_cases hgiv (show 0 < amount from hpos) with ⟨h1, h2⟩ | ⟨front, i, c, rest, rfl, hc, h3, h4, h5⟩
  · rw [h2]
    refine ⟨htaken _ (by rw [slots_floors]), entryFloor, fun front last he => ⟨fun v hv => atFloor v ?_, ?_⟩, fun _ hle => ?_, fun _ => ⟨fun j hj => ?_, atFloor⟩⟩
    · rw [he]; exact List.mem_append_left _ hv
    · have := sum_floors hgiv
      rw [he, List.map_append, List.sum_append] at this
      omega
    · omega
    · rw [slots_floors]; exact hmem j hj
  · rw [h5]
    simp only [zero_add] at h3 h4 h5 ⊢
    have hsub : ∀ v ∈ front.map (fun i => victimFor s i (floorOf s i)), v ∈ (front ++ i :: rest).map (fun i => victimFor s i (floorOf s i)) :=
      fun v hv => by rw [List.map_append]; exact List.mem_append_left _ hv
    have hgf : ∀ i ∈ front, ∃ c, Giving s i c := fun i hi => hgiv i (List.mem_append_left _ hi)
    rw [hc.reduction] at h4
    obtain ⟨t1, t2, t3⟩ := lastTarget_spec hc.floor h4
    refine ⟨htaken _ ?_, fun v hv => ?_, fun front' last he => ?_, fun _ _ => ⟨_, _, c, rfl, hc.card, ?_, fun k hk hk' => ?_⟩, fun hlt => ?_⟩
    · rw [List.map_append, slots_floors]
      exact ⟨rest, by simp [victimFor]⟩
    · rcases List.mem_append.mp hv with hv | hv
      · exact entryFloor v (hsub v hv)
      · rw [List.mem_singleton] at hv
        rw [hv]
        exact ⟨c, hc.card, t1, lastTarget_lt hc.floor, hc.remaining _⟩
    · obtain ⟨rfl, -⟩ := List.append_inj' he rfl
      exact ⟨fun v hv => atFloor v (hsub v hv), by rw [sum_floors hgf]; exact h3⟩
    · rw [List.map_append, List.sum_append, sum_floors hgf, List.map_singleton, List.sum_singleton, hc.remaining]
      exact t2
    · rw [sum_floors hgf]
      exact t3 k hk hk'
    · rw [hsum, List.map_append, List.sum_append, List.map_cons, List.sum_cons, hc.reduction] at hlt
      omega

/-! The cut tier (R147). -/

/-- The cuts that `takeCuts` enters over a running sum, past the victims of the list. -/
def cutsOf (s : State) (victims : List Victim) (amount : Nat) : List SlotId → Nat → List CutEntry
  | [], _ => []
  | i :: rest, sum =>
    if amount ≤ sum then [] else { slot := i, counted := (s.slot i).charge } :: cutsOf s victims amount rest (sum + tierGain s victims i)

/-- The cut list's record of slot i. -/
def cutFor (s : State) (i : SlotId) : CutEntry := { slot := i, counted := (s.slot i).charge }

/-- Cuts are taken from the front of the list, while the sum has not reached the amount. -/
theorem cutsOf_cases (s : State) (victims : List Victim) (amount : Nat) (l : List SlotId) (sum : Nat) :
    ∃ front rest, l = front ++ rest ∧ cutsOf s victims amount l sum = front.map (cutFor s)
      ∧ (∀ front' last, front = front' ++ [last] → sum + (front'.map (tierGain s victims)).sum < amount)
      ∧ (amount ≤ sum + (front.map (tierGain s victims)).sum ∨ rest = []) := by
  induction l generalizing sum with
  | nil => exact ⟨[], [], rfl, rfl, fun front' last he => by simp at he, .inr rfl⟩
  | cons i l ih =>
    unfold cutsOf
    split
    · exact ⟨[], i :: l, rfl, rfl, fun front' last he => by simp at he, .inl (by simpa)⟩
    · rename_i hn
      obtain ⟨front, rest, rfl, h2, h3, h4⟩ := ih (sum + tierGain s victims i)
      refine ⟨i :: front, rest, rfl, by rw [h2]; rfl, fun front' last he => ?_, by simpa [add_assoc] using h4⟩
      cases front' with
      | nil => simpa using hn
      | cons j front' =>
        obtain rfl := (List.cons.inj he).1
        simpa [add_assoc] using h3 front' last (List.cons.inj he).2

theorem tierChoice_cutsOf (h : Formed s) (victims : List Victim) (amount sum : Nat) :
    TierChoice s victims amount sum (cutsOf s victims amount (s.inShedOrder (fun i => (s.slot i).powered && !s.isCut i)) sum) := by
  have hel : ∀ j, ((s.slot j).powered = true ∧ j ∉ s.episode.cuts.map CutEntry.slot) ↔ ((s.slot j).powered && !s.isCut j) = true := fun j => by
    simp [State.isCut]
  have hcls : ∀ j, (s.slot j).cfg.cls ≤ 3 := h.cls_le
  obtain ⟨front, rest, h1, h2, h3, h4⟩ := cutsOf_cases s victims amount (s.inShedOrder (fun i => (s.slot i).powered && !s.isCut i)) sum
  rw [h2]
  have hslots : ∀ l : List SlotId, (l.map (cutFor s)).map CutEntry.slot = l := fun l => by rw [List.map_map]; exact List.map_id l
  have hgain : ∀ l : List SlotId, (l.map (cutFor s)).map (fun c => tierGain s victims c.slot) = l.map (tierGain s victims) := fun l => by
    rw [List.map_map]
    rfl
  refine ⟨takenInOrder_of_prefix h.lists.recency hcls hel (by rw [hslots, h1]; exact List.prefix_append _ _), fun c hc => ?_, fun front' last he => ?_, ?_⟩
  · obtain ⟨i, -, rfl⟩ := List.mem_map.mp hc
    rfl
  · obtain ⟨f, g, rfl, rfl, hg⟩ := List.map_eq_append_iff.mp he
    obtain ⟨x, rfl, -⟩ := List.map_eq_singleton_iff.mp hg
    rw [hgain]
    exact h3 f x rfl
  · rw [hgain, hslots]
    refine h4.imp id fun hr j hj hn => ?_
    have : j ∈ s.inShedOrder (fun i => (s.slot i).powered && !s.isCut i) := (mem_inShedOrder_iff (hcls j)).mpr ((hel j).mp ⟨hj, hn⟩)
    rwa [h1, hr, List.append_nil] at this

end

end Sys2Proof.Proofs
end

/-! What the choice of an OVERDRAFT does to slots, lists and reports (R34, R125, R146, R147, R148). -/
section
namespace Sys2Proof.Proofs

open Machine Safety Laws

section
variable {s t u : State} {i : SlotId} {c : Card}

/-- Records at the front of the queue stay there whatever is appended, but for a GAP that is its tail while the queue is full (R174, R176,
R177). -/
theorem Evolves.keepsReports (h : Evolves s u) {q : List Report} (hq : q.length < 31 ∨ tailIsGap q = false) (hp : q <+: s.reports) :
    q <+: u.reports := by
  induction h with
  | refl => exact hp
  | @append v _ r _ ih =>
    unfold State.append
    split
    · exact ih.trans (List.prefix_append _ _)
    · rename_i hn
      have hlen : 31 ≤ v.reports.length := not_lt.mp hn
      split
      · rename_i hg
        change q <+: countLoss v.reports
        have hne : q ≠ v.reports := by
          rintro rfl
          rcases hq with hq | hq
          · omega
          · rw [hg] at hq
            cases hq
        obtain ⟨l, x, hx⟩ : ∃ l x, v.reports = l ++ [x] := ⟨_, _, (List.dropLast_concat_getLast (by
          rintro hc
          rw [hc] at hlen
          cases hlen)).symm⟩
        rw [hx] at ih hne ⊢
        rcases List.prefix_concat_iff.mp ih with hc | hc
        · exact absurd hc hne
        · rw [countLoss_concat]
          exact hc.trans (List.prefix_append _ _)
      · exact ih.trans (List.prefix_append _ _)
  | modSlot _ _ _ _ ih => exact ih
  | setWait _ _ ih => exact ih
  | setEpisode _ _ ih => exact ih
  | setRecency _ _ ih => exact ih

/-! Victims. -/

/-- A slot whose SHED reclaim has begun (R125). -/
def asVictim (g : Nat) (l : Link) (t : Slot) : Slot :=
  { t with
    lease := none, link := l
    reclaim := some { target := g, cause := .shed, phase := .reclaiming, window := some t.cfg.windowTicks, basis := none, liftPending := false } }

/-- The victims of a list have been entered, and their reclaims have begun (R146). -/
structure VictimsTaken (s : State) (new : List Victim) (t : State) : Prop where
  sound : Sound nobody t
  evolves : Evolves s t
  episode : t.episode = { s.episode with victims := s.episode.victims ++ new }
  slots : ∀ v ∈ new, ∃ l, t.slot v.slot = asVictim v.target l (s.slot v.slot)
  others : ∀ j, j ∉ new.map Victim.slot → t.slot j = s.slot j
  waiting : t.waitList = s.waitList.filter (fun e => decide (e.slot ∉ new.map Victim.slot))
  recency : t.recency = s.recency

theorem VictimsTaken.refl (h : Sound nobody s) : VictimsTaken s [] s :=
  ⟨h, .refl, by simp, by simp, fun _ _ => rfl, by simp, rfl⟩

/-- One victim more at the front. -/
theorem VictimsTaken.cons {v : Victim} {new : List Victim} (h : VictimsTaken s [v] u) (h' : VictimsTaken u new t) (hv : v.slot ∉ new.map Victim.slot) :
    VictimsTaken s (v :: new) t where
  sound := h'.sound
  evolves := h.evolves.trans h'.evolves
  episode := by rw [h'.episode, h.episode]; simp
  slots w hw := by
    rcases List.mem_cons.mp hw with rfl | hw
    · rw [h'.others _ hv]
      exact h.slots _ (by simp)
    · obtain ⟨l, hl⟩ := h'.slots w hw
      have hne : w.slot ≠ v.slot := fun hc => hv (hc ▸ List.mem_map_of_mem hw)
      exact ⟨l, by rw [hl, h.others _ (by simpa using hne)]⟩
  others j hj := by
    simp only [List.map_cons, List.mem_cons, not_or] at hj
    rw [h'.others j hj.2, h.others j (by simpa using hj.1)]
  waiting := by
    rw [h'.waiting, h.waiting, List.filter_filter]
    refine List.filter_congr fun e _ => ?_
    by_cases he : e.slot = v.slot <;> simp [he]
  recency := h'.recency.trans h.recency

/-- Victims change neither the charge nor the state nor the configuration of a slot. -/
theorem VictimsTaken.same {new : List Victim} (h : VictimsTaken s new t) (j : SlotId) :
    (t.slot j).charge = (s.slot j).charge ∧ (t.slot j).state = (s.slot j).state ∧ (t.slot j).cfg = (s.slot j).cfg := by
  by_cases hj : j ∈ new.map Victim.slot
  · obtain ⟨v, hv, rfl⟩ := List.mem_map.mp hj
    obtain ⟨l, hl⟩ := h.slots v hv
    rw [hl]
    exact ⟨rfl, rfl, rfl⟩
  · rw [h.others j hj]
    exact ⟨rfl, rfl, rfl⟩

theorem reclaimBegun_recency (s : State) (i : SlotId) (g : Nat) (cause : ReclaimCause) : (reclaimBegun s i g cause).recency = s.recency := by
  unfold reclaimBegun State.dropForReclaim
  split
  · change (State.noticeDropped _ _).recency = _
    rw [(noticeDropped_lists _ _).2.1, dropEntry_recency, State.report_recency]
    rfl
  · change (State.report _ _ _ _ _ _).recency = _
    rw [State.report_recency]
    rfl

/-- One candidate is entered with its target, and its reclaim begins (R146). -/
theorem makeVictim_taken (h : Sound nobody s) (hk : s.episode.kind = .overdraft) (hi : Shedable s i c) {g : Nat} (hg : g < c.held) :
    VictimsTaken s [victimFor s i g] (s.makeVictim i g) := by
  obtain ⟨heq, ha, hs, -, hep⟩ := makeVictim_spec h (.inl ⟨hk, h.settled hk⟩) hi hg
  have hact := (h.holds i id).active hi.active hi.card
  obtain ⟨⟨l, -, hl⟩, hw, -⟩ := reclaimBegun_spec (s.enterVictim i g) i g .shed hact.link
  refine ⟨hs, Evolves.refl.makeVictim i g, hep, fun v hv => ?_, fun j hj => ha.slot j (by simpa [victimFor] using hj), ?_, ?_⟩
  · rw [List.mem_singleton] at hv
    rw [hv]
    exact ⟨l, by rw [heq]; exact hl⟩
  · rw [heq, hw]
    change withoutSlot i s.waitList = _
    simp [withoutSlot, victimFor]
  · rw [heq, reclaimBegun_recency]
    rfl

theorem victimsOf_slots {amount : Nat} {l : List SlotId} {sum : Nat} : ∀ v ∈ victimsOf s amount l sum, v.slot ∈ l := by
  induction l generalizing sum with
  | nil => nofun
  | cons i l ih =>
    intro v hv
    unfold victimsOf at hv
    cases hc : (s.slot i).card with
    | none =>
      simp only [hc] at hv
      exact List.mem_cons_of_mem _ (ih v hv)
    | some c =>
      simp only [hc] at hv
      split at hv
      · rcases List.mem_cons.mp hv with rfl | hv
        · exact List.mem_cons_self
        · exact List.mem_cons_of_mem _ (ih v hv)
      · rw [List.mem_singleton] at hv
        rw [hv]
        exact List.mem_cons_self

theorem victimsOf_congr {amount : Nat} {l : List SlotId} {sum : Nat} (h : ∀ j ∈ l, u.slot j = s.slot j) :
    victimsOf u amount l sum = victimsOf s amount l sum := by
  induction l generalizing sum with
  | nil => rfl
  | cons i l ih =>
    have hi : u.slot i = s.slot i := h i List.mem_cons_self
    have hrest := fun {sum} => ih (sum := sum) fun j hj => h j (List.mem_cons_of_mem _ hj)
    cases hc : (s.slot i).card with
    | none => simp only [victimsOf, hi, hc, hrest]
    | some c => simp only [victimsOf, State.reduction, victimFor, State.remainingFor, hi, hc, hrest]

/-- What the choice of victims takes, and what it has taken in sum. -/
theorem takeVictims_taken {amount : Nat} {l : List SlotId} {sum : Nat} (hl : l.Nodup) (h : Sound nobody s) (hk : s.episode.kind = .overdraft)
    (hc : AllShedable s l) :
    (takeVictims amount l sum s).1 = sum + ((victimsOf s amount l sum).map Victim.remaining).sum
      ∧ VictimsTaken s (victimsOf s amount l sum) (takeVictims amount l sum s).2 := by
  induction l generalizing sum s with
  | nil => exact ⟨rfl, .refl h⟩
  | cons i l ih =>
    obtain ⟨hi, hl⟩ := List.nodup_cons.mp hl
    obtain ⟨c, hs, hf⟩ := hc i (by simp)
    have hcharge : (s.slot i).charge = c.heldDraw := (((h.holds i id).active hs.active hs.card).free hs.free).1
    have hrest : AllShedable s l := fun j hj => hc j (List.mem_cons_of_mem _ hj)
    unfold takeVictims victimsOf
    simp only [hs.card]
    split
    · have hm := makeVictim_taken h hk hs hf
      have hsame : ∀ j ∈ l, (s.makeVictim i c.effFloor).slot j = s.slot j := fun j hj =>
        hm.others j (by simpa [victimFor] using fun hc : j = i => hi (hc ▸ hj))
      obtain ⟨h1, h2⟩ := ih hl hm.sound (by rw [hm.episode]; exact hk) (fun j hj => by
        obtain ⟨d, ⟨q1, q2, q3, q4⟩, q5⟩ := hrest j hj
        rw [← hsame j hj] at q1 q2 q3
        exact ⟨d, ⟨q1, q2, q3, by rw [hm.episode]; exact q4⟩, q5⟩) (sum := sum + s.reduction i)
      rw [victimsOf_congr hsame] at h1 h2
      refine ⟨?_, hm.cons h2 fun hv => ?_⟩
      · rw [h1, List.map_cons, List.sum_cons, add_assoc]
        simp [victimFor, State.remainingFor, State.reduction, hs.card]
      · obtain ⟨v, hv, hvi⟩ := List.mem_map.mp hv
        have hvi : v.slot = i := hvi
        exact hi (hvi ▸ victimsOf_slots v hv)
    · refine ⟨?_, makeVictim_taken h hk hs (lastTarget_lt hf)⟩
      simp [victimFor, State.remainingFor, hs.card, hcharge]

/-! The cut tier. -/

/-- The slots of a list have been cut from the tier (R147). -/
structure CutsTaken (s : State) (cuts : List CutEntry) (t : State) : Prop where
  sound : Sound nobody t
  evolves : Evolves s t
  episode : t.episode =
    { s.episode with
      victims := s.episode.victims.filter (fun v => decide (v.slot ∉ cuts.map CutEntry.slot)), cuts := s.episode.cuts ++ cuts }
  slots : ∀ x ∈ cuts, t.slot x.slot = (s.slot x.slot).cut .shed
  others : ∀ j, j ∉ cuts.map CutEntry.slot → t.slot j = s.slot j
  waiting : t.waitList = s.waitList.filter (fun e => decide (e.slot ∉ cuts.map CutEntry.slot))
  recency : t.recency = s.recency.filter (fun j => decide (j ∉ cuts.map CutEntry.slot))

theorem CutsTaken.refl (h : Sound nobody s) : CutsTaken s [] s :=
  ⟨h, .refl, by simp, by simp, fun _ _ => rfl, by simp, by simp⟩

/-- One cut more at the front. -/
theorem CutsTaken.cons {x : CutEntry} {cuts : List CutEntry} (h : CutsTaken s [x] u) (h' : CutsTaken u cuts t) (hx : x.slot ∉ cuts.map CutEntry.slot) :
    CutsTaken s (x :: cuts) t where
  sound := h'.sound
  evolves := h.evolves.trans h'.evolves
  episode := by
    rw [h'.episode, h.episode]
    simp only [List.filter_filter, List.append_assoc, List.singleton_append]
    congr 1
    refine List.filter_congr fun e _ => ?_
    by_cases he : e.slot = x.slot <;> simp [he]
  slots w hw := by
    rcases List.mem_cons.mp hw with rfl | hw
    · rw [h'.others _ hx]
      exact h.slots _ (by simp)
    · have hne : w.slot ≠ x.slot := fun hc => hx (hc ▸ List.mem_map_of_mem hw)
      rw [h'.slots w hw, h.others _ (by simpa using hne)]
  others j hj := by
    simp only [List.map_cons, List.mem_cons, not_or] at hj
    rw [h'.others j hj.2, h.others j (by simpa using hj.1)]
  waiting := by
    rw [h'.waiting, h.waiting, List.filter_filter]
    refine List.filter_congr fun e _ => ?_
    by_cases he : e.slot = x.slot <;> simp [he]
  recency := by
    rw [h'.recency, h.recency, List.filter_filter]
    refine List.filter_congr fun j _ => ?_
    by_cases he : j = x.slot <;> simp [he]

/-- A cut moves no charge. -/
theorem CutsTaken.charge {cuts : List CutEntry} (h : CutsTaken s cuts t) (j : SlotId) : (t.slot j).charge = (s.slot j).charge := by
  by_cases hj : j ∈ cuts.map CutEntry.slot
  · obtain ⟨x, hx, rfl⟩ := List.mem_map.mp hj
    rw [h.slots x hx]
    rfl
  · rw [h.others j hj]

theorem cutBegun_recency (s : State) (i : SlotId) (r : CutReason) : (cutBegun s i r).recency = s.recency.filter (· ≠ i) := by
  unfold cutBegun
  dsimp only
  split <;> simp [State.leaveRecency]

theorem cutBegun_episode (s : State) (i : SlotId) (r : CutReason) (h : s.beneficiary = none) :
    (cutBegun s i r).episode = if s.isVictim i = true then
        { s.episode with victims := s.episode.victims.filter (fun v => v.slot ≠ i), cuts := s.episode.cuts ++ [cutFor s i] }
      else s.episode := by
  unfold cutBegun
  dsimp only
  generalize hv : State.report _ .cutStart i _ _ 0 = v
  have hve : v.episode = if s.isVictim i = true then
        { s.episode with victims := s.episode.victims.filter (fun v => v.slot ≠ i), cuts := s.episode.cuts ++ [cutFor s i] }
      else s.episode := by
    rw [← hv, State.report_episode, State.cutVictim]
    change (if s.isVictim i = true then _ else _ : State).episode = _
    split
    · simp [State.leaveVictims, State.enterCut, State.setVictims, State.setCuts, State.leaveRecency, cutFor, Slot.cut]
    · rfl
  have hvb : v.beneficiary = none := by
    have hk : v.episode.kind = s.episode.kind ∧ v.episode.beneficiary = s.episode.beneficiary := by rw [hve]; split <;> exact ⟨rfl, rfl⟩
    unfold State.beneficiary at h ⊢
    rwa [hk.1, hk.2]
  split
  · rw [dropEntry_episode_other _ (by rw [hvb]; nofun), hve]
  · exact hve

theorem tierCut_taken (h : Sound nobody s) (hk : s.episode.kind = .overdraft) (hp : (s.slot i).powered = true) :
    CutsTaken s [cutFor s i] (s.tierCut i) := by
  obtain ⟨⟨u, hu, heq⟩, ha, hs, -⟩ := tierCut_spec h hk hp
  obtain ⟨hsl, hw, -⟩ := cutBegun_spec u i .shed
  have hben : ∀ w : State, w.episode.kind = s.episode.kind → w.episode.beneficiary = s.episode.beneficiary → w.beneficiary = none := fun w h1 h2 => by
    simp [State.beneficiary, h1, hk]
  have hsame : u.slots = s.slots ∧ u.waitList = s.waitList ∧ u.recency = s.recency := by
    rcases hu with ⟨rfl, -⟩ | ⟨rfl, -⟩ <;> exact ⟨rfl, rfl, rfl⟩
  obtain ⟨h1, h2, h3⟩ := hsame
  have hus : u.slot i = s.slot i := by rw [State.slot, State.slot, h1]
  refine ⟨hs, Evolves.refl.tierCut i, ?_, fun x hx => ?_, fun j hj => ha.slot j (by simpa [cutFor] using hj), ?_, ?_⟩
  · rw [heq]
    rcases hu with ⟨rfl, hv⟩ | ⟨rfl, hv⟩
    · rw [cutBegun_episode _ _ _ (hben _ rfl rfl), if_pos hv]
      simp [cutFor]
    · have hn : (s.enterCut i).isVictim i = false := by
        simpa [State.isVictim, State.enterCut, State.setCuts] using hv
      rw [cutBegun_episode (s.enterCut i) _ _ (hben _ rfl rfl), hn, if_neg (by decide)]
      have hf : s.episode.victims.filter (fun v => decide (v.slot ∉ [cutFor s i].map CutEntry.slot)) = s.episode.victims :=
        List.filter_eq_self.mpr fun v hm => by simpa [cutFor] using hv v hm
      rw [hf]
      rfl
  · rw [List.mem_singleton] at hx
    rw [hx, heq]
    exact hsl.trans (by rw [hus]; rfl)
  · rw [heq, hw, h2]
    simp [withoutSlot, cutFor]
  · rw [heq, cutBegun_recency, h3]
    simp [cutFor]

theorem cutsOf_slots {victims : List Victim} {amount : Nat} {l : List SlotId} {sum : Nat} : ∀ x ∈ cutsOf s victims amount l sum, x.slot ∈ l := by
  intro x hx
  obtain ⟨front, rest, rfl, h2, -⟩ := cutsOf_cases s victims amount l sum
  rw [h2] at hx
  obtain ⟨i, hi, rfl⟩ := List.mem_map.mp hx
  exact List.mem_append_left _ hi

theorem cutsOf_congr {victims victims' : List Victim} {amount : Nat} {l : List SlotId} {sum : Nat} (h : ∀ j ∈ l, (u.slot j).charge = (s.slot j).charge)
    (hv : ∀ j ∈ l, tierGain u victims' j = tierGain s victims j) : cutsOf u victims' amount l sum = cutsOf s victims amount l sum := by
  induction l generalizing sum with
  | nil => rfl
  | cons i l ih =>
    simp only [cutsOf, h i List.mem_cons_self, hv i List.mem_cons_self,
      ih (fun j hj => h j (List.mem_cons_of_mem _ hj)) (fun j hj => hv j (List.mem_cons_of_mem _ hj))]

theorem cutGain_eq (s : State) (i : SlotId) : s.cutGain i = tierGain s s.episode.victims i := by
  unfold State.cutGain tierGain
  split <;> rename_i h <;> simp [h]

theorem takeCuts_taken {amount : Nat} {l : List SlotId} {sum : Nat} (hl : l.Nodup) (h : Sound nobody s) (hk : s.episode.kind = .overdraft)
    (hp : ∀ i ∈ l, (s.slot i).powered = true) : CutsTaken s (cutsOf s s.episode.victims amount l sum) (takeCuts amount l sum s) := by
  induction l generalizing sum s with
  | nil => exact .refl h
  | cons i l ih =>
    obtain ⟨hi, hl⟩ := List.nodup_cons.mp hl
    unfold takeCuts cutsOf
    split
    · exact .refl h
    · have hm := tierCut_taken h hk (hp i (by simp))
      have hsame : ∀ j ∈ l, j ≠ i := fun j hj hc => hi (hc ▸ hj)
      have hslot : ∀ j ∈ l, (s.tierCut i).slot j = s.slot j := fun j hj => hm.others j (by simpa [cutFor] using hsame j hj)
      have hr := ih hl hm.sound (by rw [hm.episode]; exact hk) (fun j hj => by
        rw [hslot j hj]
        exact hp j (List.mem_cons_of_mem _ hj)) (sum := sum + s.cutGain i)
      rw [cutsOf_congr (s := s) (victims := s.episode.victims) (fun j hj => by rw [hslot j hj]) fun j hj => ?_] at hr
      · rw [← cutGain_eq]
        refine hm.cons hr fun hx => ?_
        obtain ⟨x, hx, hxi⟩ := List.mem_map.mp hx
        have hxi : x.slot = i := hxi
        exact hi (hxi ▸ cutsOf_slots x hx)
      · unfold tierGain
        rw [hslot j hj, hm.episode]
        dsimp only
        rw [List.find?_filter]
        congr 4
        funext v
        by_cases hv : v.slot = j <;> simp [hv, cutFor, hsame j hj]

end

end Sys2Proof.Proofs
end

/-! What a fall of A that leaves K above it does: OverdraftTaken (R14, R17, R144 to R148, R152, R153, R154). -/
section
namespace Sys2Proof.Proofs

open Machine Safety Laws

section
variable {s t u b : State}

/-- Victims and cuts, one after the other, over a state with the slots and the recency list of `u`. -/
structure Covered (b : State) (new : List Victim) (cuts : List CutEntry) (t : State) : Prop where
  evolves : Evolves b t
  victimList : t.episode.victims = (b.episode.victims ++ new).filter (fun v => decide (v.slot ∉ cuts.map CutEntry.slot))
  cutList : t.episode.cuts = b.episode.cuts ++ cuts
  head : t.episode.kind = b.episode.kind ∧ t.episode.beneficiary = b.episode.beneficiary ∧ t.episode.target = b.episode.target
  reclaims : ∀ v ∈ new, v.slot ∉ cuts.map CutEntry.slot →
    ∃ r, (t.slot v.slot).reclaim = some r ∧ r.target = v.target ∧ r.cause = .shed ∧ r.phase = .reclaiming
  cutting : ∀ c ∈ cuts, (t.slot c.slot).state = .cutting ∧ (t.slot c.slot).cutReason = some .shed
  others : ∀ j, j ∉ new.map Victim.slot → j ∉ cuts.map CutEntry.slot → t.slot j = b.slot j
  charges : ∀ j, (t.slot j).charge = (b.slot j).charge
  waiting : t.waitList = b.waitList.filter (fun e => decide (e.slot ∉ new.map Victim.slot) && decide (e.slot ∉ cuts.map CutEntry.slot))
  recency : t.recency = b.recency.filter (fun j => decide (j ∉ cuts.map CutEntry.slot))

theorem Covered.none (b : State) : Covered b [] [] b :=
  ⟨.refl, by simp, by simp, ⟨rfl, rfl, rfl⟩, nofun, nofun, fun _ _ _ => rfl, fun _ => rfl, by simp, by simp⟩

theorem covered_of_taken {new : List Victim} {cuts : List CutEntry} (hv : VictimsTaken b new u) (hc : CutsTaken u cuts t) : Covered b new cuts t where
  evolves := hv.evolves.trans hc.evolves
  victimList := by rw [hc.episode, hv.episode]
  cutList := by rw [hc.episode, hv.episode]
  head := by rw [hc.episode, hv.episode]; exact ⟨rfl, rfl, rfl⟩
  reclaims v hm hn := by
    obtain ⟨l, hl⟩ := hv.slots v hm
    rw [hc.others _ hn, hl]
    exact ⟨_, rfl, rfl, rfl, rfl⟩
  cutting x hx := by
    rw [hc.slots x hx]
    exact ⟨rfl, rfl⟩
  others j hn hx := (hc.others j hx).trans (hv.others j hn)
  charges j := (hc.charge j).trans (hv.same j).1
  waiting := by
    rw [hc.waiting, hv.waiting, List.filter_filter]
    exact List.filter_congr fun e _ => Bool.and_comm _ _
  recency := by rw [hc.recency, hv.recency]

/-- The cut tier has nothing to do where the victims reach the amount, so that the choice is always the two one after the other (R147). -/
theorem cover_eq (b : State) (amount : Nat) : b.cover amount = (b.chooseVictims none amount).2.cutTier amount (b.chooseVictims none amount).1 := by
  unfold State.cover
  dsimp only
  split
  · rfl
  · rename_i hn
    unfold State.cutTier
    cases State.inShedOrder _ _ with
    | nil => rfl
    | cons i l => unfold takeCuts; rw [if_pos (not_lt.mp hn)]

/-- What an OVERDRAFT chooses is the choice of R145 to R147, and it is carried out (R146, R147). -/
theorem cover_spec (h : Sound nobody b) (hk : b.episode.kind = .overdraft) {amount : Nat} (hpos : 1 ≤ amount) :
    ∃ new cuts, ShedChoice b 4 amount new ∧ TierChoice b (b.episode.victims ++ new) amount (new.map Victim.remaining).sum cuts
      ∧ Covered b new cuts (b.cover amount) := by
  have hbn := (h.marks.plain (by simp [hk])).1
  obtain ⟨hsum, hv⟩ := takeVictims_taken (amount := amount) (sum := 0) (nodup_inShedOrder h.lists.recency (b.isCandidate none)) h hk
    (candidates_shedable fun i _ => by rw [hbn]; nofun)
  have hch := shedChoice_victimsOf h.formed hpos
  have htc := tierChoice_cutsOf h.formed (b.episode.victims ++ victimsOf b amount (b.candidates none) 0) amount
    ((victimsOf b amount (b.candidates none) 0).map Victim.remaining).sum
  change (b.chooseVictims none amount).1 = 0 + ((victimsOf b amount (b.candidates none) 0).map Victim.remaining).sum at hsum
  change VictimsTaken b (victimsOf b amount (b.candidates none) 0) (b.chooseVictims none amount).2 at hv
  rw [zero_add] at hsum
  rw [cover_eq, hsum]
  generalize victimsOf b amount (b.candidates none) 0 = new at *
  generalize (b.chooseVictims none amount).2 = u at *
  have hcuts : u.episode.cuts = b.episode.cuts := by rw [hv.episode]
  have horder : u.inShedOrder (fun i => (u.slot i).powered && !u.isCut i) = b.inShedOrder (fun i => (b.slot i).powered && !b.isCut i) :=
    inShedOrder_congr hv.recency (fun j => by rw [(hv.same j).2.2]) fun j => by
      rw [State.isCut, State.isCut, hcuts, Slot.powered, Slot.powered, (hv.same j).2.1]
  have hc := takeCuts_taken (amount := amount) (sum := (new.map Victim.remaining).sum)
    (nodup_inShedOrder hv.sound.lists.recency (fun i => (u.slot i).powered && !u.isCut i)) hv.sound (by rw [hv.episode]; exact hk) fun i hi => by
      have := mem_inShedOrder hi
      simp only [Bool.and_eq_true] at this
      exact this.1
  change CutsTaken u _ (u.cutTier amount _) at hc
  rw [horder, cutsOf_congr (s := b) (victims := b.episode.victims ++ new) (fun j _ => (hv.same j).1) fun j _ => by
    rw [tierGain, tierGain, (hv.same j).1, hv.episode]] at hc
  exact ⟨_, _, hch, htc, covered_of_taken hv hc⟩

/-! The choices speak of slots, recency and cut lists only. -/

theorem canGive_congr (h : ∀ j, u.slot j = s.slot j) (cls : Nat) : canGive u cls = canGive s cls := by
  funext j
  simp only [canGive, h]

theorem shedRank_congr (h : u.recency = s.recency) (j : SlotId) : shedRank u j = shedRank s j := by
  simp only [shedRank, h]

theorem shedBefore_congr (hs : ∀ j, u.slot j = s.slot j) (hr : u.recency = s.recency) : ShedBefore u = ShedBefore s := by
  funext i j
  simp only [ShedBefore, hs, shedRank_congr hr]

theorem takenInOrder_congr (hs : ∀ j, u.slot j = s.slot j) (hr : u.recency = s.recency) {p : SlotId → Prop} {l : List SlotId}
    (h : TakenInOrder u p l) : TakenInOrder s p l := by
  unfold TakenInOrder at h ⊢
  rwa [shedBefore_congr hs hr] at h

theorem shedChoice_congr (hs : ∀ j, u.slot j = s.slot j) (hr : u.recency = s.recency) {below amount : Nat} {new : List Victim}
    (h : ShedChoice u below amount new) : ShedChoice s below amount new := by
  obtain ⟨h1, h2, h3, h4, h5⟩ := h
  rw [canGive_congr hs] at h1 h4 h5
  simp only [hs] at h2 h3 h4 h5
  exact ⟨takenInOrder_congr hs hr h1, h2, h3, h4, h5⟩

theorem tierChoice_congr (hs : ∀ j, u.slot j = s.slot j) (hr : u.recency = s.recency) (hx : u.episode.cuts = s.episode.cuts) {victims : List Victim}
    {amount sum : Nat} {cuts : List CutEntry} (h : TierChoice u victims amount sum cuts) : TierChoice s victims amount sum cuts := by
  obtain ⟨h1, h2, h3, h4⟩ := h
  simp only [tierGain, hs, hx] at h1 h2 h3 h4
  exact ⟨takenInOrder_congr hs hr h1, h2, h3, h4⟩

/-- Nothing to cover: nothing is chosen. -/
theorem shedChoice_zero (s : State) : ShedChoice s 4 0 [] :=
  ⟨⟨.nil, nofun, nofun⟩, nofun, fun front last he => by simp at he, fun h => absurd h (by decide), fun h => absurd h (Nat.not_lt_zero _)⟩

theorem tierChoice_zero (s : State) (victims : List Victim) : TierChoice s victims 0 0 [] :=
  ⟨⟨.nil, nofun, nofun⟩, nofun, fun front last he => by simp at he, .inl (Nat.zero_le _)⟩

/-- The choice of an OVERDRAFT over the state `b` in which its record and its marks have been written, where there is something to cover. -/
theorem exists_covered (h : Sound nobody b) (hk : b.episode.kind = .overdraft) (amount : Nat) :
    ∃ new cuts, ShedChoice b 4 amount new ∧ TierChoice b (b.episode.victims ++ new) amount (new.map Victim.remaining).sum cuts
      ∧ Covered b new cuts (if 1 ≤ amount then b.cover amount else b) := by
  split
  · exact cover_spec h hk ‹_›
  · obtain rfl : amount = 0 := by omega
    exact ⟨[], [], shedChoice_zero b, tierChoice_zero b _, .none b⟩

/-- The state in which an OVERDRAFT makes its choice. -/
structure Opened (u b : State) : Prop where
  sound : Sound nobody b
  kind : b.episode.kind = .overdraft
  beneficiary : b.episode.beneficiary = none
  target : b.episode.target = u.committed - (u.available + u.episode.expected)
  victims : b.episode.victims = u.episode.victims
  cuts : b.episode.cuts = u.episode.cuts
  slot : ∀ j, b.slot j = u.slot j
  waitList : b.waitList = u.waitList.map (fun e => { e with beneficiary := false })
  recency : b.recency = u.recency
  rest : b.rest = u.rest
  opened : u.reports.length < 31 →
    ∃ q, q = u.reports ++ (if u.episode.kind = .overdraft then [] else [chipReport .episodeOpen 2 b.episode.target 15]) ∧ q <+: b.reports
      ∧ (q.length < 31 ∨ tailIsGap q = false)

theorem of_rest (h : t.rest = u.rest) :
    { t with slots := u.slots, waitList := u.waitList, recency := u.recency, episode := u.episode, reports := u.reports, gapSeen := u.gapSeen } = u := by
  have key : ∀ x : State, { x with slots := u.slots, waitList := u.waitList, recency := u.recency, episode := u.episode, reports := u.reports
                                   gapSeen := u.gapSeen }
      = { x.rest with slots := u.slots, waitList := u.waitList, recency := u.recency, episode := u.episode, reports := u.reports
                      gapSeen := u.gapSeen } := fun _ => rfl
  rw [key t, h, ← key u]

theorem Opened.taken (h : Opened u b) : OverdraftTaken u (if 1 ≤ b.episode.target then b.cover b.episode.target else b) := by
  obtain ⟨new, cuts, hch, htc, hcov⟩ := exists_covered h.sound h.kind b.episode.target
  generalize (if 1 ≤ b.episode.target then b.cover b.episode.target else b) = t at hcov ⊢
  obtain ⟨hk, hben, ht⟩ := hcov.head
  refine ⟨⟨hk.trans h.kind, hben.trans h.beneficiary⟩, ht.trans h.target, fun hlen => ?_, fun j => (hcov.charges j).trans (by rw [h.slot]), ?_,
    of_rest (hcov.evolves.rest.trans h.rest)⟩
  · obtain ⟨q, hq, hp, hg⟩ := h.opened hlen
    rw [ht, ← hq]
    exact hcov.evolves.keepsReports hg hp
  · rw [ht]
    refine ⟨new, cuts, shedChoice_congr h.slot h.recency hch, ?_, ?_⟩
    · have := tierChoice_congr h.slot h.recency h.cuts htc
      rwa [h.victims] at this
    · exact ⟨by rw [hcov.victimList, h.victims], by rw [hcov.cutList, h.cuts], hcov.reclaims, hcov.cutting,
        fun j h1 h2 => (hcov.others j h1 h2).trans (h.slot j), by rw [hcov.waiting, h.waitList], by rw [hcov.recency, h.recency]⟩

theorem Opened.covers (h : Opened u b) {n : Nat} (hn : b.episode.target = n) : OverdraftTaken u (if 1 ≤ n then b.cover n else b) := hn ▸ h.taken

/-- EPISODE_OPEN stands behind the reports before it (R144). -/
theorem reportOpen_reports (hk : s.episode.kind = .overdraft) (hb : s.episode.beneficiary = none) (hlen : s.reports.length < 31) :
    s.reportOpen.reports = s.reports ++ [chipReport .episodeOpen 2 s.episode.target 15] := by
  unfold State.reportOpen
  rw [append_of_room hlen, hk, hb]
  rfl

theorem tailIsGap_open (q : List Report) (n : Nat) : tailIsGap (q ++ [chipReport .episodeOpen 2 n 15]) = false := by
  simp [tailIsGap, chipReport]

/-- An opening or a takeover: marks, record, EPISODE_OPEN (R152, R154). -/
theorem opened_of_report (h : Formed u) (hlt : u.available < u.committed) (hnk : u.episode.kind ≠ .overdraft) {l : List WaitEntry} {e : Episode}
    (hk : e.kind = .overdraft) (hb : e.beneficiary = none) (ht : e.target = u.committed - (u.available + u.episode.expected))
    (hv : e.victims = u.episode.victims) (hx : e.cuts = u.episode.cuts) (hl : l = clearMarks u.waitList) :
    Opened u ((u.setWait l).setEpisode e).reportOpen := by
  have hmax := h.committed_le_max
  have hep : ((u.setWait l).setEpisode e).reportOpen.episode = e := by simp [State.reportOpen]
  refine ⟨h.opened hlt hk hb (by omega) hv hx hl, by rw [hep, hk], by rw [hep, hb], by rw [hep, ht], by rw [hep, hv], by rw [hep, hx], fun j => ?_, ?_, ?_,
    (Evolves.refl.setWait l |>.setEpisode e).reportOpen.rest, fun hlen => ?_⟩
  · rw [State.reportOpen, State.append_slot]
    rfl
  · simp only [State.reportOpen, State.append_waitList]
    exact hl
  · simp only [State.reportOpen, State.append_recency]
    rfl
  · rw [if_neg hnk, hep]
    refine ⟨_, rfl, ?_, .inr (tailIsGap_open _ _)⟩
    rw [reportOpen_reports (s := (u.setWait l).setEpisode e) hk hb hlen]
    exact List.prefix_rfl

/-- A fall of A that leaves K above it (R14, R17). -/
theorem Formed.overdraftTaken (h : Formed u) (hlt : u.available < u.committed) : OverdraftTaken u u.overdrawn := by
  have hshort : u.shortfall.toNat = u.committed - (u.available + u.episode.expected) := by unfold State.shortfall; omega
  unfold State.overdrawn
  rw [if_neg (by omega)]
  cases hkind : u.episode.kind with
  | none =>
    have hcl := h.lists.closed hkind
    have hexp : u.episode.expected = 0 := by rw [hcl]; rfl
    have ho := opened_of_report h hlt (by simp [hkind]) (l := u.waitList)
      (e := { Episode.closed with kind := .overdraft, target := u.committed - u.available }) rfl rfl (by rw [hexp]; rfl) (by rw [hcl]) (by rw [hcl])
      (clearMarks_plain (h.marks.plain (by simp [hkind])).2).symm
    have := ho.covers (n := u.committed - u.available) (by simp [State.reportOpen])
    rw [if_pos (by omega)] at this
    exact this
  | preempt =>
    have ho := opened_of_report h hlt (by simp [hkind]) (l := clearMarks u.waitList)
      (e := { u.episode with kind := .overdraft, beneficiary := none, target := u.shortfall.toNat }) rfl rfl hshort rfl rfl rfl
    exact ho.covers (by simp [State.reportOpen])
  | overdraft =>
    have hmax := h.committed_le_max
    have hset : Sound nobody (u.setEpisode { u.episode with target := u.shortfall.toNat }) := by
      refine Formed.sound ⟨h.lists.setEpisode h.lists.shed (show u.shortfall.toNat ≤ 8184 by omega) (fun hc => ?_), h.marks.of_episode rfl rfl, fun j => ?_⟩ (fun _ => hkind) (fun _ => hlt)
      · exact absurd (show u.episode.kind = .none from hc) (by simp [hkind])
      · obtain ⟨h1, h2, h3, h4, h5, h6⟩ := h.holds j
        exact ⟨h1, h2, h3, h4, h5, h6⟩
    have ho : Opened u (u.setEpisode { u.episode with target := u.shortfall.toNat }) :=
      ⟨hset, hkind, (h.marks.plain (by simp [hkind])).1, hshort, rfl, rfl, fun _ => rfl,
        (clearMarks_plain (h.marks.plain (by simp [hkind])).2).symm, rfl, rfl, fun hlen =>
          ⟨u.reports, by rw [if_pos hkind, List.append_nil], List.prefix_rfl, .inl hlen⟩⟩
    exact ho.covers rfl

end

end Sys2Proof.Proofs
end

/-! The changes of C and H: SRC_DEBOUNCE_TAKEN, SET_PROFILE, SET_RESERVE, and SET_POLICY (O11, O57). -/
section
namespace Sys2Proof.Proofs

open Machine Safety Laws

section
variable {s u : State} {n : Nat} {a b d : Half} {e : CmdEntry}

theorem overdrawn_of_le (h : s.committed ≤ s.available) : s.overdrawn = s := by
  unfold State.overdrawn
  rw [if_pos h]

theorem sound_of_blockInv (h : BlockInv s) : Sound nobody s := ((blockInv_iff s).mp h).2.2.2.2

/-- A fall of A that leaves K above it, in a state whose figures alone have changed (R14, R17). -/
theorem Sound.overdraftTaken (h : Sound nobody s) (ha : Alike s u) (hlt : u.available < s.committed) : OverdraftTaken u u.overdrawn :=
  (h.alike_formed ha).overdraftTaken (by rw [ha.committed]; exact hlt)

/-! A capacity change (R13, R14). -/

/-- C is written and CAPACITY reported. -/
def capacityReported (s : State) (n : Nat) : State := (capacityWritten s n).append (chipReport .capacity s.capacity n s.src.value.val)

theorem changeCapacity_eq (s : State) (n : Nat) : s.changeCapacity n =
    if n < s.capacity then (capacityReported s n).overdrawn else if s.capacity < n then (capacityReported s n).followUp else capacityReported s n := rfl

theorem alike_capacityReported (s : State) (n : Nat) : Alike s (capacityReported s n) :=
  Alike.append (s := s) (u := capacityWritten s n) ⟨rfl, rfl, rfl, rfl, rfl⟩ _

theorem available_capacityReported (s : State) (n : Nat) : (capacityReported s n).available = n - s.reserve := by
  rw [capacityReported, State.available_append]
  rfl

theorem changeCapacity_same (h : n = s.capacity) : s.changeCapacity n = capacityReported s n := by
  rw [changeCapacity_eq, if_neg (by omega), if_neg (by omega)]

theorem changeCapacity_rise (h : s.capacity < n) : s.changeCapacity n = (capacityReported s n).followUp := by
  rw [changeCapacity_eq, if_neg (by omega), if_pos h]

theorem changeCapacity_within (h : n < s.capacity) (hK : s.committed ≤ n - s.reserve) : s.changeCapacity n = capacityReported s n := by
  rw [changeCapacity_eq, if_pos h, overdrawn_of_le]
  rwa [(alike_capacityReported s n).committed, available_capacityReported]

theorem changeCapacity_below (hs : Sound nobody s) (h : n < s.capacity) (hK : n - s.reserve < s.committed) :
    OverdraftTaken (capacityReported s n) (s.changeCapacity n) := by
  rw [changeCapacity_eq, if_pos h]
  exact hs.overdraftTaken (alike_capacityReported s n) (by rwa [available_capacityReported])

/-! The commands taken with OK. -/

theorem Sound.taken (h : Sound nobody s) (c : Instr) (e : CmdEntry) : Sound nobody (taken s c e) := h.alike ⟨rfl, rfl, rfl, rfl, rfl⟩ rfl

theorem exec_setProfile (h : TakesCommand s (.setProfile a b) e) (ha : a.toNat < 4) (hb : b.toNat ≤ 4095) :
    exec (.setProfile a b) s = .next ((taken s (.setProfile a b) e).writeProfile ⟨a.toNat, ha⟩ b.toNat) := by
  obtain ⟨e', h1, h2, h3⟩ := entryCommand_code h.2.2
  cases h1
  obtain rfl : a = e.p0 := h3.resolve_left nofun
  have hres : ResultCode.ok = expectedResult s (.setProfile e.p0 b) := (if_pos ⟨by omega, hb⟩).symm
  rw [exec_of_takes h, State.takeHead, takeCommand_of_takes h, ← result_none_eq_taken h (code := 7) (by rw [← h2]; rfl) (by decide) hres]
  change Host.Outcome.next (s.popCommand.runSetProfile e.p0 b) = _
  unfold State.runSetProfile
  rw [dif_pos ha, if_pos (show b.toNat ≤ Config.maxBudget from hb)]

theorem exec_setReserve (h : TakesCommand s (.setReserve a b) e) (hok : expectedResult s (.setReserve a b) = .ok) :
    exec (.setReserve a b) s = .next ((taken s (.setReserve a b) e).writeReserve a.toNat) := by
  obtain ⟨e', h1, h2, h3⟩ := entryCommand_code h.2.2
  cases h1
  obtain rfl : a = e.p0 := h3.resolve_left nofun
  have hx : s.popCommand.checkReserve e.p0 b = expectedResult s (.setReserve e.p0 b) := checkReserve_eq s.popCommand e.p0 b
  rw [exec_of_takes h, State.takeHead, takeCommand_of_takes h, ← result_none_eq_taken h (code := 8) (by rw [← h2]; rfl) (by decide) hx]
  change Host.Outcome.next (s.popCommand.runSetReserve e.p0 b) = _
  unfold State.runSetReserve
  dsimp only
  rw [if_pos (hx.trans hok)]

theorem exec_setPolicy (h : TakesCommand s (.setPolicy a b d) e) (ha : a.toNat ≤ 1) (hl : 1 ≤ b.toNat) (hu : b.toNat ≤ 7) (hd : d.toNat ≤ 1) :
    exec (.setPolicy a b d) s = .next ((taken s (.setPolicy a b d) e).writePolicy a b d) := by
  obtain ⟨e', h1, h2, h3⟩ := entryCommand_code h.2.2
  cases h1
  obtain rfl : a = e.p0 := h3.resolve_left nofun
  have hres : ResultCode.ok = expectedResult s (.setPolicy e.p0 b d) := (if_pos ⟨ha, hl, hu, hd⟩).symm
  have hp : policyOk e.p0 b d = true := by
    simp only [policyOk, Bool.and_eq_true, inRange_iff]
    exact ⟨⟨⟨Nat.zero_le _, ha⟩, hl, hu⟩, Nat.zero_le _, hd⟩
  rw [exec_of_takes h, State.takeHead, takeCommand_of_takes h, ← result_none_eq_taken h (code := 9) (by rw [← h2]; rfl) (by decide) hres]
  change Host.Outcome.next (s.popCommand.runSetPolicy e.p0 b d) = _
  unfold State.runSetPolicy
  rw [if_pos hp]

theorem half_of_toNat (b : Half) : half b.toNat = b := BitVec.eq_of_toNat_eq (half_toNat b.isLt)

end

/-- Settles O11: the cases are those of a capacity change, over the state in which the SRC value has been taken. -/
theorem srcDebounceTaken : Obligations.SrcDebounceTaken := by
  intro s v
  refine ⟨fun hn => ?_, fun hv u hu => ?_⟩
  · change Host.Outcome.next s.srcEvent = _
    rw [srcEvent_quiet hn]
  · have he : exec .srcDebounceTaken s = .next (State.changeCapacity { s with src := Debounce.rest v } s.profiles[v]) := by
      change Host.Outcome.next s.srcEvent = _
      unfold State.srcEvent
      rw [show s.src.ready Config.srcDebounce = some v from hv]
      rfl
    replace hu : u = capacityReported { s with src := Debounce.rest v } s.profiles[v] := hu
    rw [he, hu]
    refine ⟨fun h => congrArg _ (changeCapacity_same h), fun h => congrArg _ (changeCapacity_rise h), fun h hK => congrArg _ (changeCapacity_within h hK),
      fun hs h hK => ⟨_, rfl, changeCapacity_below ((sound_of_blockInv hs).alike ⟨rfl, rfl, rfl, rfl, rfl⟩ rfl) h hK⟩⟩

/-- Settles O57: the writes of C and H by the lemmas of O11, the policy as it is written. -/
theorem profileReserveAndPolicy : Obligations.ProfileReserveAndPolicy := by
  intro s a b d e
  refine ⟨fun p hp hb ht u v hu hv => ?_, fun ht hok u hu => ?_, fun ht ha hl hu hd => ?_⟩
  · obtain ⟨p, hlt⟩ := p
    obtain rfl : a.toNat = p := hp
    have hx := exec_setProfile ht hlt hb
    have hw : (taken s (.setProfile a b) e).writeProfile ⟨a.toNat, hlt⟩ b.toNat
        = if (⟨a.toNat, hlt⟩ : Fin 4) = s.src.value ∧ b.toNat ≠ s.capacity then u.changeCapacity b.toNat else u := by rw [hu]; rfl
    have hc : u.capacity = s.capacity := by rw [hu]; rfl
    have hK : u.committed = s.committed := by rw [hu]; rfl
    have hr : u.reserve = s.reserve := by rw [hu]; rfl
    have hsrc : u.src = s.src := by rw [hu]; rfl
    have hrep : (⟨a.toNat, hlt⟩ : Fin 4) = s.src.value → v = capacityReported u b.toNat := fun h => by
      have hrec : chipReport .capacity u.capacity b.toNat u.src.value.val = ⟨.capacity, 15, half s.capacity, b, half a.toNat⟩ := by
        rw [hc, hsrc, ← h, chipReport, half_of_toNat b]
        rfl
      rw [hv, capacityReported, hrec]
      rfl
    rw [hx, hw]
    refine ⟨fun h => ?_, fun h hgt => ?_, fun h hlow hle => ?_, fun hs h hlow hgt => ⟨_, rfl, ?_⟩⟩
    · rw [if_neg (by tauto)]
    · rw [if_pos ⟨h, by omega⟩, hrep h, changeCapacity_rise (by rwa [hc])]
    · rw [if_pos ⟨h, by omega⟩, hrep h, changeCapacity_within (by rwa [hc]) (by rwa [hK, hr])]
    · rw [if_pos ⟨h, by omega⟩, hrep h]
      have hsu : Sound nobody u := by
        rw [hu]
        exact ((sound_of_blockInv hs).taken (.setProfile a b) e).alike ⟨rfl, rfl, rfl, rfl, rfl⟩ rfl
      exact changeCapacity_below hsu (by rwa [hc]) (by rwa [hK, hr])
  · have hx := exec_setReserve ht hok
    have hw : (taken s (.setReserve a b) e).writeReserve a.toNat
        = if a.toNat < s.reserve then u.followUp else if s.reserve < a.toNat then u.overdrawn else u := by rw [hu]; rfl
    have hK : u.committed = s.committed := by rw [hu]; rfl
    have hA : u.available = s.capacity - a.toNat := by rw [hu]; rfl
    rw [hx, hw]
    refine ⟨fun h => ?_, fun h => ?_, fun h hle => ?_, fun hs h hgt => ⟨_, rfl, ?_⟩⟩
    · rw [if_pos h]
    · rw [if_neg (by omega), if_neg (by omega)]
    · rw [if_neg (by omega), if_pos h, overdrawn_of_le (by rwa [hK, hA])]
    · rw [if_neg (by omega), if_pos h]
      have ha : Alike (taken s (.setReserve a b) e) u := by rw [hu]; exact ⟨rfl, rfl, rfl, rfl, rfl⟩
      exact ((sound_of_blockInv hs).taken _ e).overdraftTaken ha (by rw [hA]; exact hgt)
  · rw [exec_setPolicy ht ha hl hu hd]
    rfl

end Sys2Proof.Proofs
end

/-! Presence, faults, timers and the end of a cut: ARRIVAL_OF_PRESENCE to CUT_COMPLETION (O12 to O16). -/
section
namespace Sys2Proof.Proofs

open Machine Safety Laws

section
variable {s : State} {i : SlotId}

/-! The start of an admission and of a cut, in the states where they may start. -/

/-- Admission of a slot that holds no entry, over a list ordered as the invariant orders it (R24). -/
theorem startAdmission_eq (hs : WaitForm s) (hn : ∀ e ∈ s.waitList, e.slot ≠ i) : s.startAdmission i = admitted s i :=
  startAdmission_eq_admitted s i hs.2 hn

/-- The slots that a cut takes are those in SETTLING, LISTENING and ACTIVE (R35, R39). -/
theorem powered_iff (t : Slot) : t.powered = true ↔ t.state = .settling ∨ t.state = .listening ∨ t.state = .active := by
  unfold Slot.powered
  cases t.state <;> simp

theorem cutIfPowered_powered (h : (s.slot i).powered = true) (r : CutReason) : s.cutIfPowered i r = cutStarted s i r := by
  rw [State.cutIfPowered, if_pos h, startCut_eq_cutStarted]

theorem cutIfPowered_unpowered (h : (s.slot i).powered = false) (r : CutReason) : s.cutIfPowered i r = s := by
  simp [State.cutIfPowered, h]

/-- An ADMITTING slot that ends with its entry dropped (R23, R26, R32). -/
theorem endAdmitting_eq {e : WaitEntry} (he : s.entryOf i = some e) (r : DropReason) (st : SlotState) :
    s.endAdmitting i r st = (entryDropped (withSlot s i { s.slot i with state := st }) e (dropCode r)).followUp := by
  have he' : (withSlot s i { s.slot i with state := st }).entryOf i = some e := he
  unfold State.endAdmitting
  rw [modSlot_eq]
  dsimp only
  rw [he', ← dropEntry_eq_entryDropped]

/-! The debounced presence. -/

/-- Slot i with its presence taken (R21). -/
def presenceTaken (s : State) (i : SlotId) (b : Bool) : State := withSlot s i { s.slot i with pres := { value := b, pending := none } }

theorem presenceTaken_slot (b : Bool) : (presenceTaken s i b).slot i = { s.slot i with pres := { value := b, pending := none } } := withSlot_slot _ _ _

theorem presenceTaken_modSlot (b : Bool) (f : Slot → Slot) : (presenceTaken s i b).modSlot i f
    = withSlot s i (f { s.slot i with pres := { value := b, pending := none } }) := by
  rw [modSlot_eq, presenceTaken_slot, presenceTaken, withSlot_withSlot]

theorem presenceTaken_noEntry {b : Bool} (h : BlockInv s) (hst : (s.slot i).state = .empty) : ∀ e ∈ (presenceTaken s i b).waitList, e.slot ≠ i :=
  noEntry_of_inv h (by simp [hst]) (by simp [hst])

/-- What an arrival of presence does in a slot state (R22, R35). -/
def arriveIn (i : SlotId) : SlotState → State → State
  | .empty, s => s.arriveInEmpty i
  | _, s => s

theorem exec_arrivalOfPresence (h : (s.slot i).pres.ready 50 = some true) {st : SlotState} (hst : (s.slot i).state = st) :
    exec (.arrivalOfPresence i) s = .next (arriveIn i st (presenceTaken s i true)) := by
  change Host.Outcome.next (s.arrivalEvent i) = _
  unfold State.arrivalEvent
  rw [show (s.slot i).pres.ready Config.presDebounce = some true from h]
  have ht : s.modSlot i (fun t => { t with pres := Debounce.rest true }) = presenceTaken s i true := rfl
  simp only [State.presenceArrives, ht, presenceTaken_slot, hst]
  cases st <;> rfl

theorem arriveIn_other {st : SlotState} (h : st ≠ .empty) (s : State) : arriveIn i st s = s := by
  cases st <;> first | rfl | exact absurd rfl h

/-- What a loss of presence does in a slot state (R23). -/
def loseIn (i : SlotId) : SlotState → State → State
  | .empty, s => s
  | .disabled, s => s.modSlot i (fun t => { t with state := .empty })
  | .locked, s => s.modSlot i (fun t => { t with state := .empty })
  | .admitting, s => s.endAdmitting i .cut .empty
  | .settling, s => cutStarted s i .removed
  | .listening, s => cutStarted s i .removed
  | .active, s => cutStarted s i .removed
  | .cutting, s => s.modSlot i (fun t => { t with destEmpty := true })

theorem exec_lossOfPresence (h : (s.slot i).pres.ready 50 = some false) {st : SlotState} (hst : (s.slot i).state = st) :
    exec (.lossOfPresence i) s = .next (loseIn i st (presenceTaken s i false)) := by
  change Host.Outcome.next (s.lossEvent i) = _
  unfold State.lossEvent
  rw [show (s.slot i).pres.ready Config.presDebounce = some false from h]
  have ht : s.modSlot i (fun t => { t with pres := Debounce.rest false }) = presenceTaken s i false := rfl
  simp only [State.presenceLost, ht, presenceTaken_slot, hst, startCut_eq_cutStarted]
  cases st <;> rfl

end

/-- Settles O12: in EMPTY the slot is admitted or DISABLED as its enabled flag says; an EMPTY slot holds no entry by the invariant. -/
theorem arrivalOfPresence : Obligations.ArrivalOfPresence := by
  intro s i hs hr
  refine ⟨fun hst hen => ?_, fun hst hen => ?_, fun hst => ?_⟩
  · refine (exec_arrivalOfPresence hr hst).trans (congrArg _ ((if_pos ?_).trans (startAdmission_eq hs.wait (presenceTaken_noEntry hs hst))))
    rw [presenceTaken_slot]
    exact hen
  · refine (exec_arrivalOfPresence hr hst).trans (congrArg _ ((if_neg ?_).trans (presenceTaken_modSlot true _)))
    rw [presenceTaken_slot]
    simp [hen]
  · exact (exec_arrivalOfPresence hr rfl).trans (congrArg _ (arriveIn_other hst _))

/-- Settles O13: one branch of the loss of presence for each state of R23. -/
theorem lossOfPresence : Obligations.LossOfPresence := by
  intro s i hr
  refine ⟨?_, fun hst => ?_, fun hst => exec_lossOfPresence hr hst, fun e hst he => ?_, ?_⟩
  · rintro (hst | hst) <;> exact (exec_lossOfPresence hr hst).trans (congrArg _ (presenceTaken_modSlot false (fun t => { t with state := .empty })))
  · exact (exec_lossOfPresence hr hst).trans (congrArg _ (presenceTaken_modSlot false (fun t => { t with destEmpty := true })))
  · have he' : (presenceTaken s i false).entryOf i = some e := he
    refine (exec_lossOfPresence hr hst).trans (congrArg _ ((endAdmitting_eq he' .cut .empty).trans ?_))
    rw [presenceTaken_slot, presenceTaken, withSlot_withSlot]
    rfl
  · rintro (hst | hst | hst) <;> exact exec_lossOfPresence hr hst

/-- Settles O14: a fault cuts a powered slot, an expired hello timer a LISTENING one. -/
theorem faultAndHelloTimeoutCut : Obligations.FaultAndHelloTimeoutCut := by
  intro s i
  refine ⟨fun hst => ?_, fun h1 h2 h3 => ?_, fun hh hst => ?_, fun hh => ?_⟩
  · exact congrArg _ (cutIfPowered_powered ((powered_iff _).mpr hst) .fault)
  · refine congrArg _ (cutIfPowered_unpowered (Bool.eq_false_iff.mpr fun hp => ?_) .fault)
    rcases (powered_iff _).mp hp with h | h | h <;> contradiction
  · change Host.Outcome.next (s.helloEvent i) = _
    unfold State.helloEvent
    rw [if_pos (by simp [hh, hst]), startCut_eq_cutStarted]
  · exact congrArg _ (helloEvent_quiet (by simpa [Timer.due] using hh))

/-- Settles O15: the entry to LISTENING writes the slot's timers and its link. -/
theorem settleTimerExpiry : Obligations.SettleTimerExpiry := by
  intro s i
  refine ⟨fun hh hst => ?_, fun hh => congrArg _ (settleEvent_quiet (by simpa [Timer.due] using hh))⟩
  change Host.Outcome.next (s.settleEvent i) = _
  unfold State.settleEvent
  rw [if_pos (by simp [hh, hst])]
  rfl

section
variable {s : State} {i : SlotId}

/-! The end of a cut. -/

/-- Slot i at the end of its cut, before the follow-up (R36). -/
def cutEnded (s : State) (i : SlotId) (d : Destination) : State :=
  ((s.leaveCuts i).modSlot i (Slot.discharged d)).report .cutDone i (destinationCode d) 0 0

theorem cutEnded_followUp (s : State) (i : SlotId) (d : Destination) : (cutEnded s i d).followUp = cutDone s i d.state (destinationCode d) := rfl

theorem cutEnded_slot (s : State) (i : SlotId) (d : Destination) : (cutEnded s i d).slot i = (s.slot i).discharged d := by
  rw [cutEnded, State.report_slot, State.modSlot_slot_same]
  rfl

theorem cutEnded_waitList (s : State) (i : SlotId) (d : Destination) : (cutEnded s i d).waitList = s.waitList := by
  simp [cutEnded, State.leaveCuts, State.setCuts]

/-- The follow-up leaves presence and the enabled flag of every slot. -/
theorem followUp_pres (s : State) (i : SlotId) : (s.followUp.slot i).pres = (s.slot i).pres :=
  (congrArg Slot.pres (s.followUp_ungranted i) :)

theorem followUp_enabled (s : State) (i : SlotId) : (s.followUp.slot i).enabled = (s.slot i).enabled :=
  (congrArg Slot.enabled (s.followUp_ungranted i) :)

theorem cutDone_pres (s : State) (i : SlotId) (d : Destination) : ((cutDone s i d.state (destinationCode d)).slot i).pres = (s.slot i).pres := by
  rw [← cutEnded_followUp, followUp_pres, cutEnded_slot]
  rfl

theorem cutDone_enabled (s : State) (i : SlotId) (d : Destination) :
    ((cutDone s i d.state (destinationCode d)).slot i).enabled = (s.slot i).enabled := by
  rw [← cutEnded_followUp, followUp_enabled, cutEnded_slot]
  rfl

/-- A slot that was CUTTING is admitted at the end of its cut (R24, R37): by the invariant it holds no entry, and the follow-up gives it none. -/
theorem startAdmission_cutDone (h : BlockInv s) (hst : (s.slot i).state = .cutting) (d : Destination) :
    (cutDone s i d.state (destinationCode d)).startAdmission i = admitted (cutDone s i d.state (destinationCode d)) i := by
  have hno : ∀ e ∈ (cutEnded s i d).waitList, e.slot ≠ i := by
    rw [cutEnded_waitList]
    exact noEntry_of_inv h (by simp [hst]) (by simp [hst])
  have hsorted : (cutEnded s i d).waitList.Pairwise (fun a b => b.cls ≤ a.cls) := by
    rw [cutEnded_waitList]
    exact h.wait.2
  rw [← cutEnded_followUp]
  exact startAdmission_eq_admitted _ i (State.followUp_sorted hsorted) (State.followUp_noEntry hno)

/-- What follows the end of a cut, by its destination (R37). -/
def arriveAt (i : SlotId) : Destination → State → State
  | .admission, s => s.startAdmission i
  | .empty, s => if (s.slot i).pres.value then s.arriveInEmpty i else s
  | .disabled, s => s
  | .locked, s => s

theorem exec_cutCompletion (hd : (s.slot i).discharge = some 0) (hst : (s.slot i).state = .cutting) {d : Destination}
    (h : (s.slot i).destination = d) : exec (.cutCompletion i) s = .next (arriveAt i d (cutDone s i d.state (destinationCode d))) := by
  change Host.Outcome.next (s.dischargeEvent i) = _
  unfold State.dischargeEvent
  rw [if_pos (by simp [hd, hst])]
  subst h
  unfold State.completeCut arriveAt
  rw [← cutEnded_followUp]
  cases (s.slot i).destination <;> rfl

/-- A slot bound for EMPTY with its card gone stays there. -/
theorem arriveAt_empty_absent (hp : (s.slot i).pres.value = false) : arriveAt i .empty (cutDone s i .empty 1) = cutDone s i .empty 1 :=
  if_neg (by rw [show ((cutDone s i .empty 1).slot i).pres = (s.slot i).pres from cutDone_pres s i .empty, hp]; simp)

/-- A slot bound for EMPTY with a card present: its arrival is acted on at once (R22). -/
theorem arriveAt_empty_present (hp : (s.slot i).pres.value = true) :
    arriveAt i .empty (cutDone s i .empty 1) = (cutDone s i .empty 1).arriveInEmpty i :=
  if_pos (by rw [show ((cutDone s i .empty 1).slot i).pres = (s.slot i).pres from cutDone_pres s i .empty, hp])

/-- Where the mark is EMPTY or the reason REMOVED, or no card is present, the slot is bound for EMPTY (R37). -/
theorem destination_empty (h : (s.slot i).pres.value = false ∨ (s.slot i).destEmpty = true ∨ (s.slot i).cutReason = some .removed) :
    (s.slot i).destination = .empty := by
  unfold Slot.destination
  rcases h with h | h | h <;> simp [h]

/-- Elsewhere the reason decides (R37). -/
theorem destination_reason (hp : (s.slot i).pres.value = true) (he : (s.slot i).destEmpty = false) {r : CutReason} (hr : (s.slot i).cutReason = some r) :
    (s.slot i).destination = match r with
      | .fault | .silent | .helloTimeout => .locked
      | .host => .disabled
      | .shed | .restart => if (s.slot i).enabled then .admission else .disabled
      | .removed => .empty := by
  unfold Slot.destination
  cases r <;> simp [hp, he, hr]

end

/-- Settles O16: the destination by R37, then what follows the end of the cut there. -/
theorem cutCompletion : Obligations.CutCompletion := by
  intro s i r hd hst hr
  have bound {d : Destination} (h : (s.slot i).destination = d) := exec_cutCompletion hd hst h
  have marked (hm : (s.slot i).destEmpty = true ∨ r = .removed) := bound (destination_empty (.inr (hm.imp id fun h => by rw [hr, h])))
  refine ⟨fun hp => ?_, fun hp hm hen => ?_, fun hp hm hen hs => ?_, fun hp he => ⟨?_, ?_, ?_, ?_⟩⟩
  · exact (bound (destination_empty (.inl hp))).trans (congrArg _ (arriveAt_empty_absent hp))
  · refine (marked hm).trans (congrArg _ ((arriveAt_empty_present hp).trans (if_neg ?_)))
    rw [show ((cutDone s i .empty 1).slot i).enabled = _ from cutDone_enabled s i .empty, hen]
    simp
  · refine (marked hm).trans (congrArg _ ((arriveAt_empty_present hp).trans ((if_pos ?_).trans (startAdmission_cutDone hs hst .empty))))
    rw [show ((cutDone s i .empty 1).slot i).enabled = _ from cutDone_enabled s i .empty, hen]
  · rintro (rfl | rfl | rfl) <;> exact bound (destination_reason hp he hr)
  · rintro rfl
    exact bound (destination_reason hp he hr)
  · rintro (rfl | rfl) hen <;> exact bound ((destination_reason hp he hr).trans (if_neg (by simp [hen])))
  · rintro (rfl | rfl) hen hs <;>
      exact (bound ((destination_reason hp he hr).trans (if_pos hen))).trans (congrArg _ (startAdmission_cutDone hs hst .admission))

end Sys2Proof.Proofs
end

/-! The taking of a command: whose turn it is, and what a command taken with OK does behind its RESULT (O50, O51). -/
section
namespace Sys2Proof.Proofs

open Machine Safety Laws

section
variable {s u : State} {c : Instr} {e : CmdEntry}

/-! Rows and entries. -/

/-- A code that names no command (R165). -/
theorem entryCommand_unknownCode (h : e.code.toNat = 0 ∨ 10 < e.code.toNat) : entryCommand e = .unknownCommandCode e.code e.p0 := by
  unfold entryCommand
  split
  case h_11 => rfl
  all_goals omega

/-- A field code that names no field (R41). -/
theorem entryCommand_unknownField (hc : e.code.toNat = 1) (hf : 10 < e.p1.toNat) : entryCommand e = .slotConfigUnknownField e.p0 e.p1 e.p2 := by
  simp only [entryCommand, hc]
  split
  case h_12 => rfl
  all_goals omega

/-- The entry of a well-formed command row spells that row (12.2, R41, R165). -/
theorem entryCommand_commandEntry (hw : WellFormed c = true) (h : commandEntry c = some e) : entryCommand e = c := by
  cases c with
  | unknownCommandCode code p0 =>
    cases h
    exact entryCommand_unknownCode (by simpa [WellFormed] using hw)
  | slotConfigUnknownField p0 field v =>
    cases h
    exact entryCommand_unknownField rfl (by simpa [WellFormed] using hw)
  | _ => first | (cases h; rfl) | cases h

/-- Every entry spells a well-formed row. -/
theorem wellFormed_entryCommand (e : CmdEntry) : WellFormed (entryCommand e) = true := by
  by_cases hc : e.code.toNat = 0 ∨ 10 < e.code.toNat
  · rw [entryCommand_unknownCode hc]
    simpa [WellFormed] using hc
  by_cases hf : e.code.toNat = 1 ∧ 10 < e.p1.toNat
  · rw [entryCommand_unknownField hf.1 hf.2]
    simpa [WellFormed] using hf.2
  unfold entryCommand
  split
  case h_11 => simp only [imp_false] at *; omega
  case h_1 =>
    split
    case h_12 => simp only [imp_false] at *; omega
    all_goals rfl
  all_goals rfl

/-- A row that an entry spells is spelled by its own entry. -/
theorem spellsItself_entryCommand (e : CmdEntry) : spellsItself (entryCommand e) = true := by
  obtain ⟨e', h⟩ := Option.isSome_iff_exists.mp (commandEntry_entryCommand e)
  simp [spellsItself, h, entryCommand_commandEntry (wellFormed_entryCommand e) h]

/-- A command that cannot be taken changes nothing (R164). -/
theorem takeHead_of_canTake_false (h : s.canTake c = false) : s.takeHead c = s := by
  simp [State.takeHead, State.takeCommand, h]

theorem canTake_other {head : CmdEntry} (hq : s.cmdQueue.head? = some head) (hne : entryCommand head ≠ c) : s.canTake c = false := by
  simp [State.canTake, State.headCommand, hq, hne]

/-- Over an empty queue a command row stands for its push and its taking at once (R163, R164). -/
theorem takeHead_pushed (h : entryCommand e = c) (hp : c = .restart → e.p0 = s.cmdP0) (hq : s.cmdQueue = []) (hr : s.reports.length < 24) :
    s.takeHead c = State.takeHead { s with cmdQueue := [e] } c := by
  have h1 : s.canTake c = true := by simp [State.canTake, State.headCommand, hq, Config.throttle, hr, ← h, spellsItself_entryCommand]
  have h2 : State.canTake { s with cmdQueue := [e] } c = true := canTake_of_takes (e := e) ⟨hr, rfl, h⟩
  have hpop : s.popCommand = State.popCommand { s with cmdQueue := [e] } := by unfold State.popCommand; rw [hq]; rfl
  have hp0 : c = .restart → s.takenP0 = State.takenP0 { s with cmdQueue := [e] } := fun hc => by
    unfold State.takenP0
    rw [hq]
    exact (hp hc).symm
  unfold State.takeHead State.takeCommand
  rw [if_pos h1, if_pos h2, ← hpop]
  cases c with
  | restart => rw [hp0 rfl]
  | _ => rfl

end

/-- Settles O50: the throttle, the head of the queue, and the spelling of rows by entries. -/
theorem commandOrder : Obligations.CommandOrder := by
  refine ⟨fun s c e hc => ?_, fun c e hw hc => entryCommand_commandEntry hw hc, fun e => ?_, fun s c e hc hp hq hr => ?_⟩
  · have hx : exec c s = .next (s.takeHead c) := exec_takeHead (by rw [hc]; rfl) s
    rw [hx]
    exact ⟨fun hr => congrArg _ (takeHead_throttled hr c), fun head hq hne => congrArg _ (takeHead_of_canTake_false (canTake_other hq hne))⟩
  · obtain ⟨e', h1, h2, -⟩ := entryCommand_code (rfl : entryCommand e = entryCommand e)
    exact ⟨wellFormed_entryCommand e, e', h1, h2⟩
  · have hs : (commandEntry c).isSome = true := hc ▸ commandEntry_entryCommand e
    rw [exec_takeHead hs, exec_takeHead hs, takeHead_pushed hc hp hq hr]

section
variable {s u : State} {c : Instr} {e : CmdEntry}

/-! Commands taken with OK. -/

/-- The effect of a slot command on the slot that P0 names (R165). -/
def onSlot (p0 : Half) (act : SlotId → State → State) (s : State) : State :=
  match slotOf p0 with
  | some i => act i s
  | none => s

theorem onSlot_eq {p0 : Half} {i : SlotId} (h : slotOf p0 = some i) (act : SlotId → State → State) (s : State) : onSlot p0 act s = act i s := by
  simp [onSlot, h]

/-- What a command row does behind its RESULT when it is taken with OK (R164). -/
def effectOf : Instr → State → State
  | .slotConfigEnabled p0 v => onSlot p0 fun i s => if v.toNat = 1 then s.enableSlot i else s.disableSlot i
  | .slotConfigClass p0 v => onSlot p0 fun i s => s.writeClass i v.toNat
  | .slotConfigCap p0 v => onSlot p0 fun i s => s.writeCap i v.toNat
  | .slotConfigAdmissionCharge p0 v => onSlot p0 fun i s => s.modConfig i (fun c => { c with admission := v.toNat })
  | .slotConfigLease p0 v => onSlot p0 fun i s => s.modConfig i (fun c => { c with lease := v.toNat })
  | .slotConfigSettle p0 v => onSlot p0 fun i s => s.modConfig i (fun c => { c with settle := v.toNat })
  | .slotConfigDischarge p0 v => onSlot p0 fun i s => s.modConfig i (fun c => { c with discharge := v.toNat })
  | .slotConfigHelloTimeout p0 v => onSlot p0 fun i s => s.modConfig i (fun c => { c with helloTimeout := v.toNat })
  | .slotConfigReplyWindow p0 v => onSlot p0 fun i s => s.modConfig i (fun c => { c with replyWindow := v.toNat })
  | .slotConfigReclaimWindow p0 v => onSlot p0 fun i s => s.modConfig i (fun c => { c with reclaimWindow := v.toNat })
  | .slotConfigFloorOverride p0 v => onSlot p0 fun i s => s.writeOverride i (overrideOf v)
  | .enable p0 => onSlot p0 fun i s => s.enableSlot i
  | .disable p0 => onSlot p0 fun i s => s.disableSlot i
  | .restore p0 => onSlot p0 fun i s => s.restoreSlot i
  | .reclaim p0 step => onSlot p0 fun i s => s.hostReclaim i step.toNat
  | .dropWait p0 => onSlot p0 fun i s => s.dropWaiting i
  | .restart => State.restart
  | _ => id

/-- The rows that write a figure of the account or the policy have rules of their own (R12, R15, R112). -/
def writesFigure : Instr → Bool
  | .setProfile _ _ => true
  | .setReserve _ _ => true
  | .setPolicy _ _ _ => true
  | _ => false

/-- The result of a slot command taken with OK: its slot passes the check (R165). -/
theorem slotResult_ok {p0 : Half} {check : SlotId → ResultCode} (h : slotResult p0 check = .ok) : ∃ i, slotOf p0 = some i ∧ check i = .ok := by
  unfold slotResult at h
  cases hs : slotOf p0 with
  | none => rw [hs] at h; cases h
  | some i => rw [hs] at h; exact ⟨i, rfl, h⟩

theorem rangeResult_ok {lo hi : Nat} {v : Half} : rangeResult lo hi v = .ok ↔ lo ≤ v.toNat ∧ v.toNat ≤ hi := by
  unfold rangeResult
  split <;> simp [*]

theorem slotCommand_ok (u : State) (code : Nat) {p0 : Half} {check : SlotId → ResultCode} (act : SlotId → State → State)
    (h : slotResult p0 check = .ok) : u.slotCommand code p0 check act = onSlot p0 act (u.result code (slotOf p0) .ok p0) := by
  obtain ⟨i, hi, hc⟩ := slotResult_ok h
  simp [State.slotCommand, onSlot, hi, hc]

/-- A slot command taken with OK acts in the state in which it is taken (R164, R165). -/
theorem runSlotRow_ok (h : TakesCommand s c e) {code : Nat} {check : SlotId → ResultCode} {act : SlotId → State → State} (hc : e.code.toNat = code)
    (h1 : 1 ≤ code) (h6 : code ≤ 6) (hx : expectedResult s c = slotResult e.p0 check) (hok : expectedResult s c = .ok) :
    s.popCommand.slotCommand code e.p0 check act = onSlot e.p0 act (taken s c e) := by
  rw [slotCommand_ok _ _ _ (hx ▸ hok), result_eq_taken h ?_ (BitVec.eq_of_toNat_eq ?_) hok.symm rfl]
  · rw [namedSlot_slotOf]
    simp only [resultSlot, hc, h1, h6, true_and]
  · rw [half, BitVec.toNat_ofNat, hc]
    omega

/-- A row taken with OK has its effect in the state in which it is taken (R164). -/
theorem takeHead_ok (h : TakesCommand s c e) (hok : expectedResult s c = .ok) (hf : writesFigure c = false) : s.takeHead c = effectOf c (taken s c e) := by
  obtain ⟨e', h1, h2, h3⟩ := entryCommand_code h.2.2
  refine (takeCommand_of_takes h _).trans ?_
  have slotRow {code : Nat} {check : SlotId → ResultCode} {act : SlotId → State → State} (hc : e.code.toNat = code) (hl : 1 ≤ code)
      (hu : code ≤ 6) (hx : expectedResult s c = slotResult e.p0 check) := runSlotRow_ok (act := act) h hc hl hu hx hok
  have configRow {inside : Bool} {act : SlotId → State → State} (hc : e.code.toNat = 1)
      (hx : expectedResult s c = slotResult e.p0 (fun _ => if inside then .ok else .badValue)) :
      s.popCommand.configCommand e.p0 inside act = onSlot e.p0 act (taken s c e) := slotRow hc le_rfl (by decide) hx
  have hcode : e.code.toNat = e'.code.toNat := by rw [h2]
  have hp0 : c = .restart ∨ e'.p0 = e.p0 := h3
  cases c
  case restart =>
    cases h1
    have hr := result_eq_taken h (code := 10) (named := none) (res := .ok) (p0 := e.p0)
      (by unfold resultSlot; rw [hcode]; exact (if_neg fun hh => absurd hh.2.1 (by decide)).symm) (BitVec.eq_of_toNat_eq hcode.symm) rfl rfl
    exact congrArg State.restart ((takenP0_of_takes h).symm ▸ hr)
  case unknownCommandCode code p0 => cases hok
  case slotConfigUnknownField p0 f v => obtain ⟨i, -, hi⟩ := slotResult_ok hok; cases hi
  all_goals first | cases hf; done | cases h1; done | (cases h1; obtain rfl := hp0.resolve_left nofun)
  case slotConfigCap v => exact slotRow hcode le_rfl (by decide) (congrArg (slotResult _) (funext fun i => (checkCap_eq s v i).symm))
  case reclaim g => exact slotRow hcode (by decide) (by decide) (congrArg (slotResult _) (funext fun i => (checkReclaim_eq s g i).symm))
  case slotConfigFloorOverride v => exact configRow hcode (by simp [expectedResult, overrideOk])
  case enable | disable | restore | dropWait => exact slotRow hcode (by decide) (by decide) rfl
  all_goals exact configRow hcode (by rw [ite_inRange]; rfl)

/-! What stands in the report queue behind a RESULT. -/

theorem Evolves.onSlot {p0 : Half} {act : SlotId → State → State} (ha : ∀ i, slotOf p0 = some i → Evolves u (act i u)) : Evolves u (onSlot p0 act u) := by
  unfold Proofs.onSlot
  split
  · exact ha _ ‹_›
  · exact .refl

/-- A configuration field written in its range. -/
theorem modConfig_evolves {lo hi : Nat} {p0 v : Half} (hx : slotResult p0 (fun _ => rangeResult lo hi v) = .ok) {f : SlotConfig → SlotConfig}
    (hf : lo ≤ v.toNat ∧ v.toNat ≤ hi → ∀ c, ConfigRanges c → ConfigRanges (f c)) (u : State) : Evolves u (onSlot p0 (fun i s => s.modConfig i f) u) :=
  .onSlot fun i _ => Evolves.refl.modConfig i f (hf (rangeResult_ok.mp (slotResult_ok hx).choose_spec.2))

/-- The effect of a row that writes no figure is made of events (R164). -/
theorem effectOf_evolves (hok : expectedResult s c = .ok) (u : State) : Evolves u (effectOf c u) := by
  have h : Evolves u u := .refl
  cases c <;> dsimp only [effectOf]
  case slotConfigEnabled p0 v =>
    refine .onSlot fun i _ => ?_
    split
    · exact h.enableSlot i
    · exact h.disableSlot i
  case slotConfigClass p0 v => exact .onSlot fun i _ => h.writeClass i _ (rangeResult_ok.mp (slotResult_ok hok).choose_spec.2).2
  case slotConfigCap p0 v =>
    obtain ⟨j, -, hc⟩ := slotResult_ok hok
    exact .onSlot fun i _ => h.writeCap i _ (checkCap_range ((checkCap_eq s v j).trans hc))
  case slotConfigAdmissionCharge p0 v => exact modConfig_evolves hok (by exact fun hv _ hc => { hc with admission := hv }) u
  case slotConfigLease p0 v => exact modConfig_evolves hok (by exact fun hv _ hc => { hc with lease := hv.2 }) u
  case slotConfigSettle p0 v => exact modConfig_evolves hok (by exact fun hv _ hc => { hc with settle := hv }) u
  case slotConfigDischarge p0 v => exact modConfig_evolves hok (by exact fun hv _ hc => { hc with discharge := hv }) u
  case slotConfigHelloTimeout p0 v => exact modConfig_evolves hok (by exact fun hv _ hc => { hc with helloTimeout := hv }) u
  case slotConfigReplyWindow p0 v => exact modConfig_evolves hok (by exact fun hv _ hc => { hc with replyWindow := hv }) u
  case slotConfigReclaimWindow p0 v => exact modConfig_evolves hok (by exact fun hv _ hc => { hc with reclaimWindow := hv }) u
  case slotConfigFloorOverride p0 v =>
    obtain ⟨j, -, hv⟩ := slotResult_ok hok
    exact .onSlot fun i _ => h.writeOverride i _ (overrideOf_le (by by_contra hc; simp_all [overrideOk]))
  case enable p0 => exact .onSlot fun i _ => h.enableSlot i
  case disable p0 => exact .onSlot fun i _ => h.disableSlot i
  case restore p0 => exact .onSlot fun i _ => h.restoreSlot i
  case reclaim p0 g => exact .onSlot fun i _ => h.hostReclaim i _
  case dropWait p0 => exact .onSlot fun i _ => h.dropWaiting i
  case restart => exact h.restart
  all_goals exact h

/-- A row taken with OK goes on by events from the state in which its figures are written: RESULT appended, entry popped. -/
theorem exec_ok_evolves (h : TakesCommand s c e) (hok : expectedResult s c = .ok) :
    ∃ b t, exec c s = .next t ∧ b.reports = (taken s c e).reports ∧ b.cmdQueue = s.cmdQueue.tail ∧ Evolves b t := by
  cases hf : writesFigure c with
  | false => exact ⟨_, _, by rw [exec_of_takes h, takeHead_ok h hok hf], rfl, rfl, effectOf_evolves hok _⟩
  | true =>
    cases c with
    | setProfile index n =>
      have hr : index.toNat ≤ 3 ∧ n.toNat ≤ 4095 := by by_contra hc; simp [expectedResult, hc] at hok
      have hw := writeProfile_evolves (taken s (.setProfile index n) e) ⟨index.toNat, by omega⟩ n.toNat
      split at hw
      · exact ⟨capacityWritten (profileWritten _ _ _) _, _, exec_setProfile h (by omega) hr.2, rfl, rfl, hw⟩
      · refine ⟨_, _, (exec_setProfile h (by omega) hr.2).trans (congrArg _ hw), ?_, ?_, .refl⟩ <;> rfl
    | setReserve amount force => exact ⟨reserveWritten _ _, _, exec_setReserve h hok, rfl, rfl, writeReserve_evolves _ _⟩
    | setPolicy mode limit preempt =>
      obtain ⟨h1, h2, h3, h4⟩ : mode.toNat ≤ 1 ∧ 1 ≤ limit.toNat ∧ limit.toNat ≤ 7 ∧ preempt.toNat ≤ 1 := by
        by_contra hc
        simp [expectedResult, hc] at hok
      exact ⟨{ taken s (.setPolicy mode limit preempt) e with policy := policyOf mode limit preempt }, _, exec_setPolicy h h1 h2 h3 h4, rfl, rfl,
        writePolicy_evolves _ _ _ _⟩
    | _ => cases hf

end

/-- Settles O51: a refused command leaves its RESULT alone (O52), and the events behind the RESULT of one taken with OK keep it. -/
theorem takenCommandLeavesResult : Obligations.TakenCommandLeavesResult := by
  intro s c e h
  by_cases hok : expectedResult s c = .ok
  · obtain ⟨b, t, hx, hr, hq, hb⟩ := exec_ok_evolves h hok
    refine ⟨t, hx, ?_, hb.keepsReports (.inl ?_) (hr ▸ List.prefix_rfl)⟩
    · rw [← hq]
      exact (congrArg State.cmdQueue hb.rest :)
    · have := h.1
      simp only [List.length_append, List.length_singleton]
      omega
  · exact ⟨_, refusedCommandLeavesOnlyItsResult s c e h hok, rfl, List.prefix_rfl⟩

end Sys2Proof.Proofs
end

/-! The host's commands on one slot, taken with OK: SLOT_CONFIG, ENABLE, DISABLE, RESTORE, RECLAIM and DROP_WAIT (O53 to O56). -/
section
namespace Sys2Proof.Proofs

open Machine Safety Laws

section
variable {s : State} {i : SlotId} {c : Instr} {e : CmdEntry} {p0 v : Half}

/-- A command on a slot taken with OK acts on that slot, in the state in which it is taken (R164, R165). -/
theorem exec_slotRow {check : SlotId → ResultCode} {act : SlotId → State → State} (h : TakesCommand s c e) (hi : slotOf p0 = some i)
    (hx : expectedResult s c = slotResult p0 check) (hc : check i = .ok) (he : effectOf c = onSlot p0 act) (hf : writesFigure c = false) :
    exec c s = .next (act i (taken s c e)) := by
  have hok : expectedResult s c = .ok := by simp [hx, slotResult, hi, hc]
  rw [exec_of_takes h, takeHead_ok h hok hf, he, onSlot_eq hi]

/-- A SLOT_CONFIG of a field in its range, of a field with no further effect, writes that field of the record (R41, R42). -/
theorem exec_configRow {lo hi : Nat} {f : SlotConfig → SlotConfig} (h : TakesCommand s c e) (hp : slotOf p0 = some i) (hv : lo ≤ v.toNat ∧ v.toNat ≤ hi)
    (hx : expectedResult s c = slotResult p0 (fun _ => rangeResult lo hi v)) (he : effectOf c = onSlot p0 (fun i s => s.modConfig i f))
    (hf : writesFigure c = false) : exec c s = .next (withSlot (taken s c e) i { s.slot i with cfg := f (s.slot i).cfg }) :=
  exec_slotRow h hp hx (rangeResult_ok.mpr hv) he hf

/-! The class of a slot and the place of its entry (R43, R107). -/

/-- Where the entries of the slot have the class already, only the field is written. -/
theorem writeClass_same {k : Nat} (h : ∀ x ∈ s.waitList, x.slot = i → x.cls = k) : s.writeClass i k = s.modConfig i (fun c => { c with cls := k }) := by
  have hent : (s.modConfig i (fun c => { c with cls := k })).entryOf i = s.entryOf i := rfl
  unfold State.writeClass State.reclassEntry
  rw [hent]
  cases hx : s.entryOf i with
  | none => rfl
  | some x =>
    obtain ⟨hm, hs⟩ := entryOf_mem hx
    dsimp only
    rw [if_pos (h x hm hs)]
    rfl

/-- An entry of another class moves behind the entries of its new class and above, with a follow-up. -/
theorem writeClass_moved {k : Nat} {x : WaitEntry} (hs : WaitForm s) (hx : s.entryOf i = some x) (hk : x.cls ≠ k) :
    s.writeClass i k =
      State.followUp
        { s.modConfig i (fun c => { c with cls := k }) with
          waitList := s.waitList.filter (fun y => decide (y.slot ≠ i ∧ k ≤ y.cls)) ++ { x with cls := k }
            :: s.waitList.filter (fun y => decide (y.slot ≠ i ∧ y.cls < k)) } := by
  have hent : (s.modConfig i (fun c => { c with cls := k })).entryOf i = some x := hx
  have hsorted : (withoutSlot i s.waitList).Pairwise (fun a b => b.cls ≤ a.cls) := hs.2.sublist List.filter_sublist
  have hins : insertEntry { x with cls := k } (withoutSlot i s.waitList) =
      s.waitList.filter (fun y => decide (y.slot ≠ i ∧ k ≤ y.cls)) ++ { x with cls := k }
        :: s.waitList.filter (fun y => decide (y.slot ≠ i ∧ y.cls < k)) := by
    rw [insertEntry_of_sorted _ _ hsorted, withoutSlot, List.filter_filter, List.filter_filter]
    simp only [Bool.decide_and, Bool.and_comm]
  rw [← hins]
  unfold State.writeClass State.reclassEntry
  dsimp only
  rw [hent]
  dsimp only
  rw [if_neg hk]
  rfl

/-! The cap of a slot and the usable top step of its card (R44, R45, R77). -/

/-- Outside ACTIVE a cap is only stored. -/
theorem writeCap_inactive (hst : (s.slot i).state ≠ .active) (cap : Nat) : s.writeCap i cap = s.modConfig i (fun c => { c with cap := cap }) := by
  have hn : ((s.modConfig i (fun c => { c with cap := cap })).slot i).state ≠ .active := by
    rw [State.modConfig, State.modSlot_slot_same]
    exact hst
  exact if_neg hn

/-- The usable top step is the only step within the cap with none above it (R77). -/
theorem usableTopOf_eq {c : Card} {cap top : Nat} (ht : top < c.count) (hd : c.draw top ≤ cap) (hk : ∀ k, top < k → k < c.count → cap < c.draw k) :
    usableTopOf c.draws cap = top := by
  have hcount : c.count = c.draws.length := rfl
  have hh : highest (fun k => decide (c.draws.getD k 0 ≤ cap)) 0 (c.draws.length - 1) = some top := by
    refine ((highest_spec _ _ _).1 top).mpr ⟨Nat.zero_le _, by omega, decide_eq_true hd, fun k h1 h2 => decide_eq_false ?_⟩
    exact Nat.not_le.mpr (hk k h1 (by omega))
  rw [usableTopOf, hh, Option.getD_some]

/-- The check of a cap in range (R44). -/
theorem checkCap_ok {c : Card} (ha : ActiveWith s i c) (h0 : c.draw 0 ≤ v.toNat) :
    (if rangeResult 1 1023 v = .ok ∧ (s.slot i).state = .active ∧ (s.slot i).card.any (fun c => decide (v.toNat < c.draw 0)) = true
      then .badState else rangeResult 1 1023 v) = rangeResult 1 1023 v :=
  if_neg fun h => by simp [ha.2] at h; omega

/-- The NOTICE of a dropped STEP entry is placed in its slot's link (R118). -/
theorem noticeDropped_step {x : WaitEntry} {asked floor : Nat} (hk : x.kind = .step asked floor) (u : State) :
    u.noticeDropped x = u.modLink x.slot (Link.placeNotice .dropped asked) := by
  unfold State.noticeDropped
  rw [hk]
  rfl

/-- An entry with its floor above the usable top step is removed as GRANTED_NOT (R45). -/
theorem dropAboveCap_above {x : WaitEntry} {asked floor top : Nat} (hx : s.entryOf i = some x) (hk : x.kind = .step asked floor) (ht : top < floor) :
    s.dropAboveCap i top = ((entryDropped s x 6).modLink i (Link.placeNotice .dropped asked)).followUp := by
  unfold State.dropAboveCap
  rw [hx]
  dsimp only
  rw [hk]
  dsimp only
  rw [if_pos ht, noticeDropped_step hk, dropEntry_eq_entryDropped, (entryOf_mem hx).2]
  rfl

/-- An entry with its floor within the usable top step stays. -/
theorem dropAboveCap_within {top : Nat} (h : ∀ x ∈ s.waitList, x.slot = i → ∀ asked floor, x.kind = .step asked floor → floor ≤ top) :
    s.dropAboveCap i top = s := by
  unfold State.dropAboveCap
  cases hx : s.entryOf i with
  | none => rfl
  | some x =>
    obtain ⟨hm, hs⟩ := entryOf_mem hx
    dsimp only
    cases hk : x.kind with
    | admission => rfl
    | step asked floor => exact if_neg (Nat.not_lt.mpr (h x hm hs asked floor hk))

/-! The override of the yield floor (R46, R78). -/

/-- Outside ACTIVE an override is only stored. -/
theorem writeOverride_inactive (hst : (s.slot i).state ≠ .active) (o : Option Nat) :
    s.writeOverride i o = s.modConfig i (fun c => { c with floorOverride := o }) := by
  have hn : ((s.modConfig i (fun c => { c with floorOverride := o })).slot i).state ≠ .active := by
    rw [State.modConfig, State.modSlot_slot_same]
    exact hst
  exact if_neg hn

/-! The enabled flag (R31, R32). -/

/-- Slot i with its enabled flag written. -/
def flagged (s : State) (i : SlotId) (b : Bool) : State := withSlot s i { s.slot i with enabled := b }

theorem flagged_slot (b : Bool) : (flagged s i b).slot i = { s.slot i with enabled := b } := withSlot_slot _ _ _

theorem enableSlot_disabled (hs : BlockInv s) (hst : (s.slot i).state = .disabled) (u : State) (hu : u.waitList = s.waitList)
    (hui : u.slot i = s.slot i) : u.enableSlot i = admitted (flagged u i true) i := by
  have hd : ((flagged u i true).slot i).state = .disabled := by rw [flagged_slot, hui]; exact hst
  have hw : (flagged u i true).waitList = s.waitList := hu
  refine (if_pos hd).trans (startAdmission_eq_admitted (flagged u i true) i ?_ ?_)
  · rw [hw]
    exact hs.wait.2
  · rw [hw]
    exact noEntry_of_inv hs (by simp [hst]) (by simp [hst])

theorem enableSlot_other (hst : (s.slot i).state ≠ .disabled) : s.enableSlot i = flagged s i true :=
  if_neg (by rw [show s.modSlot i (fun t => { t with enabled := true }) = flagged s i true from rfl, flagged_slot]; exact hst)

/-- What DISABLE does in a slot state once the flag is cleared (R32). -/
def disableIn (i : SlotId) : SlotState → State → State
  | .admitting, s => s.endAdmitting i .host .disabled
  | .settling, s => cutStarted s i .host
  | .listening, s => cutStarted s i .host
  | .active, s => cutStarted s i .host
  | _, s => s

theorem disableSlot_in {st : SlotState} (hst : (s.slot i).state = st) : s.disableSlot i = disableIn i st (flagged s i false) := by
  unfold State.disableSlot
  rw [show s.modSlot i (fun t => { t with enabled := false }) = flagged s i false from rfl]
  simp only [flagged_slot, hst, startCut_eq_cutStarted]
  cases st <;> rfl

/-! DROP_WAIT (R26, R118, R121). -/

theorem dropWaiting_step {x : WaitEntry} {asked floor : Nat} (hx : s.entryOf i = some x) (hk : x.kind = .step asked floor) :
    s.dropWaiting i = ((entryDropped s x 2).modLink i (Link.placeNotice .dropped asked)).followUp := by
  unfold State.dropWaiting
  rw [hx]
  dsimp only
  rw [hk]
  dsimp only
  rw [noticeDropped_step hk, dropEntry_eq_entryDropped, (entryOf_mem hx).2]
  rfl

theorem dropWaiting_admission {x : WaitEntry} (hx : s.entryOf i = some x) (hk : x.kind = .admission) :
    s.dropWaiting i = (entryDropped (withSlot s i { s.slot i with enabled := false, state := .disabled }) x 2).followUp := by
  have hf : (flagged s i false).entryOf i = some x := hx
  unfold State.dropWaiting
  rw [hx]
  dsimp only
  rw [hk]
  refine (endAdmitting_eq hf .host .disabled).trans ?_
  rw [flagged_slot, flagged, withSlot_withSlot]
  rfl

end

/-- Settles O53: each field is written in its slot's record; the class moves the entry, the override the effective floor. -/
theorem configFields : Obligations.ConfigFields := by
  intro s p0 v i e hi
  refine ⟨fun h1 h2 => ⟨fun h => ?_, fun h => ?_, fun h => ?_, fun h => ?_⟩, fun h2 h => ?_, fun h1 h2 h => ?_, fun h1 h2 h => ?_, fun h2 h => ?_, fun hv h => ?_⟩
  iterate 4 exact exec_configRow h hi ⟨h1, h2⟩ rfl rfl rfl
  · exact exec_configRow h hi ⟨Nat.zero_le _, h2⟩ rfl rfl rfl
  iterate 2 exact exec_configRow h hi ⟨h1, h2⟩ rfl rfl rfl
  · have hx := exec_slotRow h hi rfl (rangeResult_ok.mpr ⟨Nat.zero_le _, h2⟩) rfl rfl
    rintro u rfl
    exact ⟨fun hs => hx.trans (congrArg _ (writeClass_same hs)), fun x hs he hk => hx.trans (congrArg _ (writeClass_moved hs he hk))⟩
  · have hx := exec_slotRow h hi rfl (if_pos hv) rfl rfl
    rintro o rfl u rfl
    refine ⟨fun hst => hx.trans (congrArg _ (writeOverride_inactive (s := taken s _ e) hst _)), fun c ha => hx.trans (congrArg _ ?_)⟩
    rw [writeOverride_active (s := taken s _ e) ha.1 ha.2, withSlot_slot, withSlot_withSlot]
    rfl

/-- Settles O54: the usable top step is determined by the cap, then the held draw decides between a reclaim and the entry. -/
theorem configCap : Obligations.ConfigCap := by
  intro s p0 v i e hi h1 h2 h
  have hrange : rangeResult 1 1023 v = .ok := rangeResult_ok.mpr ⟨h1, h2⟩
  constructor
  · rintro u rfl hst
    have hx := exec_slotRow h hi rfl ((if_neg fun hc => hst hc.2.1).trans hrange) rfl rfl
    exact hx.trans (congrArg _ (writeCap_inactive (s := taken s _ e) hst _))
  · rintro c top ha h0 ht hd hk c' u rfl hu
    have hx := exec_slotRow h hi rfl ((checkCap_ok ha h0).trans hrange) rfl rfl
    have hcapped : (taken s (.slotConfigCap p0 v) e).modSlot i (capped v.toNat c) = u := by
      rw [hu, modSlot_eq, capped, usableTopOf_eq ht hd hk]
      rfl
    rw [writeCap_active (s := taken s (.slotConfigCap p0 v) e) ha.1 ha.2, hcapped, usableTopOf_eq ht hd hk] at hx
    have hslot : u.slot i = { s.slot i with cfg := { (s.slot i).cfg with cap := v.toNat }, card := some { c with usableTop := top } } := by
      rw [hu, withSlot_slot]
    have hrec : (u.slot i).reclaim = (s.slot i).reclaim := by rw [hslot]
    have above (hlt : v.toNat < c.draw c.held) := (hx.trans (congrArg _ (if_pos hlt))).trans
      (congrArg Host.Outcome.next (reclaimTo_eq u i { c with usableTop := top } top .cap (.inl (by rw [hslot]))))
    rw [hrec] at above
    refine ⟨fun hlt hr => ?_, fun r hlt hr => ⟨fun htr => ?_, fun htr => ?_⟩, fun hle => ?_⟩
    · rw [above hlt, hr]
    · rw [above hlt, hr]
      exact congrArg _ (if_pos htr)
    · rw [above hlt, hr]
      exact congrArg _ (if_neg (Nat.not_lt.mpr htr))
    · have within := hx.trans (congrArg _ (if_neg (Nat.not_lt.mpr hle)))
      have hw : u.waitList = s.waitList := by rw [hu]; rfl
      have hent : u.entryOf i = s.entryOf i := by rw [hu]; rfl
      exact ⟨fun x asked floor he hkind hf => within.trans (congrArg _ (dropAboveCap_above (hent.trans he) hkind hf)),
        fun hall => within.trans (congrArg _ (dropAboveCap_within (hw ▸ hall)))⟩

/-- Settles O55: the flag first, then the branch of the slot's state; DISABLED and LOCKED slots hold no entry by the invariant. -/
theorem enableDisableRestore : Obligations.EnableDisableRestore := by
  intro s p0 i e hs hi
  refine ⟨fun c hc h u hu => ?_, fun c hc h u hu => ?_, fun h hst => ?_⟩
  · have hx : exec c s = .next ((taken s c e).enableSlot i) := by
      rcases hc with rfl | rfl
      · exact exec_slotRow h hi rfl rfl rfl rfl
      · exact exec_slotRow h hi rfl rfl rfl rfl
    subst hu
    exact ⟨fun hst => hx.trans (congrArg _ (enableSlot_disabled hs hst _ rfl rfl)), fun hst => hx.trans (congrArg _ (enableSlot_other hst))⟩
  · have hx : exec c s = .next ((taken s c e).disableSlot i) := by
      rcases hc with rfl | rfl
      · exact exec_slotRow h hi rfl rfl rfl rfl
      · exact exec_slotRow h hi rfl rfl rfl rfl
    have bySt {st : SlotState} (hst : (s.slot i).state = st) : exec c s = .next (disableIn i st u) := by
      rw [hx, disableSlot_in (s := taken s c e) hst, hu]
      rfl
    refine ⟨?_, fun x hst he => ?_, ?_⟩
    · rintro (hst | hst | hst) <;> exact bySt hst
    · have he' : u.entryOf i = some x := by rw [hu]; exact he
      exact (bySt hst).trans (congrArg _ (endAdmitting_eq he' .host .disabled))
    · rintro (hst | hst | hst | hst) <;> exact bySt hst
  · have hx := exec_slotRow h hi rfl (if_pos hst) rfl rfl
    refine ⟨fun hen => hx.trans (congrArg _ ((if_pos hen).trans (startAdmission_eq hs.wait ?_))), fun hen => hx.trans (congrArg _ (if_neg ?_))⟩
    · exact noEntry_of_inv hs (by simp [hst]) (by simp [hst])
    · change ¬ (s.slot i).enabled = true
      simp [hen]

/-- Settles O56: the host RECLAIM is a reclaim of cause HOST; DROP_WAIT removes the entry by its kind. -/
theorem hostReclaimAndDropWait : Obligations.HostReclaimAndDropWait := by
  intro s p0 step i e hi
  refine ⟨fun c h ha hlt u hu => ?_, fun x h hx u hu => ?_⟩
  · have hcheck : (match (s.slot i).state, (s.slot i).card with
        | .active, some c => if step.toNat < c.held then ResultCode.ok else .badValue
        | _, _ => .badState) = .ok := by
      rw [ha.1, ha.2]
      exact if_pos hlt
    have hcard : (u.slot i).card = some c := by rw [hu]; exact ha.2
    have hrec : (u.slot i).reclaim = (s.slot i).reclaim := by rw [hu]; rfl
    have hrow : exec (.reclaim p0 step) s = .next (u.reclaimTo i c step.toNat .host) := by
      rw [exec_slotRow h hi rfl hcheck rfl rfl, ← hu, State.hostReclaim, hcard]
    rw [reclaimTo_eq u i c step.toNat .host (.inl hcard), hrec] at hrow
    refine ⟨fun hr => ?_, fun r hr => ⟨fun htr => ?_, fun htr => ?_⟩⟩
    · rw [hrow, hr]
    · rw [hrow, hr]
      exact congrArg _ (if_pos htr)
    · rw [hrow, hr]
      exact congrArg _ (if_neg (Nat.not_lt.mpr htr))
  · have hrow : exec (.dropWait p0) s = .next (u.dropWaiting i) := by
      rw [exec_slotRow h hi rfl (if_pos (by rw [hx]; rfl)) rfl rfl, ← hu]
    have hx' : u.entryOf i = some x := by rw [hu]; exact hx
    have hslot : u.slot i = s.slot i := by rw [hu]; rfl
    exact ⟨fun asked floor hk => hrow.trans (congrArg _ (dropWaiting_step hx' hk)),
      fun hk => hslot ▸ hrow.trans (congrArg _ (dropWaiting_admission hx' hk))⟩

end Sys2Proof.Proofs
end

/-! RESTART: the wait list goes, the powered slots are cut, the former ADMITTING slots are admitted again (O58). -/
section
namespace Sys2Proof.Proofs

open Machine Safety Laws

/-! Reports appended while there is room. -/

/-- Where the report queue of s has room for all of `rs`, that of u is the one of s with `rs` behind it (R176). -/
def Appends (rs : List Report) (s u : State) : Prop := s.reports.length + rs.length ≤ 31 → u.reports = s.reports ++ rs

section
variable {s u v : State} {i j : SlotId} {e : WaitEntry} {l : List SlotId} {rs qs : List Report}

theorem Appends.of_eq (h : u.reports = s.reports) : Appends [] s u := fun _ => by simp [h]

theorem Appends.append (h : Appends rs s u) (r : Report) : Appends (rs ++ [r]) s (u.append r) := by
  intro hl
  rw [List.length_append, List.length_singleton] at hl
  have hu := h (by omega)
  rw [append_of_room (by rw [hu, List.length_append]; omega), hu, List.append_assoc]

theorem Appends.trans (h : Appends rs s u) (h' : Appends qs u v) : Appends (rs ++ qs) s v := by
  intro hl
  rw [List.length_append] at hl
  have hu := h (by omega)
  rw [h' (by rw [hu, List.length_append]; omega), hu, List.append_assoc]

/-! The wait list is cleared (R120). -/

/-- The reports of an entry that goes while the episode record stands as `ep` (R120). -/
def clearedReports (ep : Episode) (e : WaitEntry) : List Report :=
  slotReport .waitDropped e.slot 5 0 0 :: if ep.kind = .preempt ∧ ep.beneficiary = some e.slot then [chipReport .episodeClose 1 4 0] else []

theorem entryCleared_appends (s : State) (e : WaitEntry) : Appends (clearedReports s.episode e) s (entryCleared s e) := by
  have dropped : Appends [slotReport .waitDropped e.slot 5 0 0] s
      (State.report { s with waitList := s.waitList.filter (fun x => decide (x.slot ≠ e.slot)) } .waitDropped e.slot 5 0 0) :=
    (Appends.of_eq (s := s) (u := { s with waitList := s.waitList.filter (fun x => decide (x.slot ≠ e.slot)) }) rfl).append _
  unfold entryCleared clearedReports
  by_cases hc : s.episode.kind = .preempt ∧ s.episode.beneficiary = some e.slot
  · rw [if_pos hc, if_pos hc]
    exact dropped.append _
  · rw [if_neg hc, if_neg hc]
    exact dropped

/-- An entry that goes leaves the episode record, or closes it as its beneficiary. -/
theorem entryCleared_episode (s : State) (e : WaitEntry) : (entryCleared s e).episode = s.episode
    ∨ ((entryCleared s e).episode = Episode.closed ∧ s.episode.beneficiary = some e.slot) := by
  unfold entryCleared
  dsimp only
  split
  · rename_i hc
    exact .inr ⟨rfl, hc.2⟩
  · exact .inl (by simp)

/-- What the closing of the episode changes in the reports of other entries: nothing. -/
theorem clearedReports_entryCleared {x : WaitEntry} (hx : x.slot ≠ e.slot) : clearedReports (entryCleared s e).episode x = clearedReports s.episode x := by
  rcases entryCleared_episode s e with h | ⟨h, hb⟩
  · rw [h]
  · rw [h, clearedReports, clearedReports, hb, if_neg (by simp [Episode.closed]), if_neg (by simp [hx.symm])]

theorem cleared_appends {w : List WaitEntry} (hn : (w.map WaitEntry.slot).Nodup) :
    Appends (w.flatMap (clearedReports s.episode)) s (w.foldl entryCleared s) := by
  induction w generalizing s with
  | nil => exact .of_eq rfl
  | cons e w ih =>
    obtain ⟨he, hn⟩ := List.nodup_cons.mp hn
    have hw : w.flatMap (clearedReports (entryCleared s e).episode) = w.flatMap (clearedReports s.episode) :=
      List.flatMap_congr fun x hx => clearedReports_entryCleared fun hc => he (hc ▸ List.mem_map_of_mem hx)
    rw [List.flatMap_cons, List.foldl_cons, ← hw]
    exact (entryCleared_appends s e).trans (ih hn)

theorem Cleared.committed (h : Cleared s u) : u.committed = s.committed := by
  rw [State.committed_eq_sum, State.committed_eq_sum]
  exact Finset.sum_congr rfl fun j _ => by rw [h.slot]

/-- Behind the clearing an OVERDRAFT is open as it was, or no episode is. -/
theorem Cleared.overdraft (h : Cleared s u) (hs : Sound nobody s) :
    (s.episode.kind = .overdraft ∧ u.episode = s.episode) ∨ (s.episode.kind ≠ .overdraft ∧ u.episode = Episode.closed) := by
  rcases h.episode with ⟨he, hb⟩ | ⟨he, hk⟩
  · cases hk : s.episode.kind with
    | overdraft => exact .inl ⟨rfl, he⟩
    | none => exact .inr ⟨nofun, he.trans (hs.lists.closed hk)⟩
    | preempt =>
      obtain ⟨b, h1, h2, -⟩ := hs.marks.preempt hk
      have hm : b ∈ (s.waitList.filter WaitEntry.beneficiary).map WaitEntry.slot := by rw [h2]; exact List.mem_singleton_self b
      obtain ⟨e, he, rfl⟩ := List.mem_map.mp hm
      exact absurd (by simp [State.beneficiary, hk, h1]) (hb e (List.mem_of_mem_filter he))
  · exact .inr ⟨by simp [hk], he⟩

/-- The follow-up of the clearing finds nothing to do: nobody waits, and an OVERDRAFT is not covered by entries that go (R120). -/
theorem Cleared.followUp (h : Cleared s u) (hs : Sound nobody s) : u.followUp = u := by
  rcases h.overdraft hs with ⟨hk, he⟩ | ⟨-, he⟩
  · refine followUp_of_blocked (.inl ⟨by rw [he]; exact hk, ?_⟩)
    rw [available_of_rest h.rest, h.committed]
    exact hs.settled hk
  · rw [followUp_closed (by rw [he]; rfl), h.empty]
    change u.setWait [] = u
    rw [← h.empty]
    rfl

/-! The powered slots are cut (R168). -/

/-- The start of a cut while nobody waits. -/
theorem cutStarted_empty (hw : u.waitList = []) (i : SlotId) (r : CutReason) :
    cutStarted u i r =
      (withSlot
        { u with
          recency := u.recency.filter (fun j => decide (j ≠ i))
          episode :=
            if u.episode.victims.any (fun v => decide (v.slot = i)) then
              { u.episode with
                victims := u.episode.victims.filter (fun v => decide (v.slot ≠ i))
                cuts := u.episode.cuts ++ [{ slot := i, counted := (u.slot i).charge }] }
            else u.episode }
        i ((u.slot i).cut r)).report .cutStart i (cutReasonCode r) (u.slot i).charge 0 := by
  unfold cutStarted
  rw [hw]
  rfl

theorem withSlot_slot_other {t : Slot} (h : j ≠ i) : (withSlot s i t).slot j = s.slot j := State.modSlot_slot_other s (fun _ => t) h

/-- Slot i stands on the victim list of s. -/
def victimOf (s : State) (i : SlotId) : Bool := decide (i ∈ s.episode.victims.map Victim.slot)

/-- State u is s with the slots of l, in their order, cut with reason RESTART. -/
structure CutDown (s : State) (l : List SlotId) (u : State) : Prop where
  waits : u.waitList = []
  slot : ∀ j, u.slot j = if j ∈ l then (s.slot j).cut .restart else s.slot j
  recency : u.recency = s.recency.filter (fun j => decide (j ∉ l))
  kind : u.episode.kind = s.episode.kind
  target : u.episode.target = s.episode.target
  victims : u.episode.victims = s.episode.victims.filter (fun v => decide (v.slot ∉ l))
  cuts : u.episode.cuts = s.episode.cuts ++ (l.filter (victimOf s)).map (fun i => { slot := i, counted := (s.slot i).charge })
  reports : Appends (l.map (fun i => slotReport .cutStart i 7 (s.slot i).charge 0)) s u

theorem CutDown.refl (hw : s.waitList = []) : CutDown s [] s where
  waits := hw
  slot := fun j => by simp
  recency := by simp
  kind := rfl
  target := rfl
  victims := by simp
  cuts := by simp
  reports := .of_eq rfl

/-- Slots cut before leave slot i on the victim list. -/
theorem CutDown.isVictim (h : CutDown s l u) (hi : i ∉ l) : u.episode.victims.any (fun v => decide (v.slot = i)) = victimOf s i := by
  rw [h.victims, Bool.eq_iff_iff]
  simp only [List.any_eq_true, List.mem_filter, victimOf, decide_eq_true_eq, List.mem_map]
  constructor
  · rintro ⟨v, ⟨hv, -⟩, hvi⟩
    exact ⟨v, hv, hvi⟩
  · rintro ⟨v, hv, rfl⟩
    exact ⟨v, ⟨hv, hi⟩, rfl⟩

theorem CutDown.cut (h : CutDown s l u) (hi : i ∉ l) : CutDown s (l ++ [i]) (cutStarted u i .restart) := by
  have hslot : u.slot i = s.slot i := by rw [h.slot, if_neg hi]
  have hvic := h.isVictim hi
  have mem (j : SlotId) : j ∉ l ++ [i] ↔ j ≠ i ∧ j ∉ l := by simp [and_comm]
  have hfilter : s.episode.victims.filter (fun v => decide (v.slot ∉ l ++ [i])) = u.episode.victims.filter (fun v => decide (v.slot ≠ i)) := by
    rw [h.victims, List.filter_filter]
    simp only [mem, Bool.decide_and]
  have hepisode : (cutStarted u i .restart).episode =
      if victimOf s i then
        { u.episode with
          victims := u.episode.victims.filter (fun v => decide (v.slot ≠ i))
          cuts := u.episode.cuts ++ [{ slot := i, counted := (s.slot i).charge }] }
      else u.episode := by
    rw [cutStarted_empty h.waits, State.report_episode, hvic, hslot]
    rfl
  refine ⟨?_, fun j => ?_, ?_, ?_, ?_, ?_, ?_, ?_⟩
  · rw [cutStarted_empty h.waits, State.report_waitList]
    exact h.waits
  · rw [cutStarted_empty h.waits, State.report_slot, hslot]
    by_cases hj : j = i
    · rw [hj, withSlot_slot, if_pos (by simp)]
    · rw [withSlot_slot_other hj]
      exact (h.slot j).trans (by simp [hj])
  · rw [cutStarted_empty h.waits, State.report_recency]
    change u.recency.filter _ = _
    rw [h.recency, List.filter_filter]
    simp only [mem, Bool.decide_and]
  · rw [hepisode, ← h.kind]
    split <;> rfl
  · rw [hepisode, ← h.target]
    split <;> rfl
  · rw [hepisode, hfilter]
    split
    · rfl
    · rename_i hn
      rw [← hvic] at hn
      exact (List.filter_eq_self.mpr (by simpa using hn)).symm
  · rw [hepisode, List.filter_append, List.map_append, ← List.append_assoc, ← h.cuts]
    split
    · rename_i hv
      rw [List.filter_singleton, hv]
      rfl
    · rename_i hv
      rw [List.filter_singleton, Bool.eq_false_iff.mpr hv]
      simp
  · rw [cutStarted_empty h.waits, List.map_append, List.map_singleton, hslot]
    refine Appends.append ?_ _
    exact h.reports

theorem cutDown_foldl (hw : s.waitList = []) (hl : l.Nodup) : CutDown s l (l.foldl (fun u i => cutStarted u i .restart) s) := by
  induction l using List.reverseRecOn with
  | nil => exact .refl hw
  | append_singleton l i ih =>
    rw [List.nodup_append_comm, List.singleton_append, List.nodup_cons] at hl
    rw [List.foldl_append]
    exact (ih hl.2).cut hl.1

/-! The former ADMITTING slots start admission afresh (R168). -/

/-- A slot whose admission is granted at once (R24, R25). -/
def switchedOn (t : Slot) : Slot := { t with state := .settling, charge := t.cfg.admission, swen := true, settle := some (10 * t.cfg.settle) }

/-- A list with entry x behind the entries of class k and above (R106). -/
def placedBehind (k : Nat) (x : WaitEntry) (w : List WaitEntry) : List WaitEntry :=
  w.filter (fun y => decide (k ≤ y.cls)) ++ x :: w.filter (fun y => decide (y.cls < k))

theorem mem_placedBehind {k : Nat} {x y : WaitEntry} {w : List WaitEntry} : y ∈ placedBehind k x w ↔ y = x ∨ y ∈ w := by
  have := Nat.lt_or_ge y.cls k
  simp only [placedBehind, List.mem_append, List.mem_cons, List.mem_filter, decide_eq_true_eq]
  tauto

theorem placedBehind_sorted {x : WaitEntry} {w : List WaitEntry} (h : w.Pairwise (fun a b => b.cls ≤ a.cls)) :
    (placedBehind x.cls x w).Pairwise (fun a b => b.cls ≤ a.cls) := by
  simp only [placedBehind, List.pairwise_append, List.pairwise_cons, List.mem_cons, List.mem_filter, decide_eq_true_eq]
  refine ⟨h.filter _, ⟨fun y hy => hy.2.le, h.filter _⟩, ?_⟩
  rintro y ⟨-, hy⟩ z (rfl | ⟨-, hz⟩)
  · exact hy
  · exact hz.le.trans hy

/-- Counting entries as overtaken leaves their places, kinds and marks. -/
theorem mem_overtakenAbove {k : Nat} {x : WaitEntry} (h : x ∈ overtakenAbove s k) :
    ∃ y ∈ s.waitList, x.slot = y.slot ∧ x.kind = y.kind ∧ x.cls = y.cls ∧ x.beneficiary = y.beneficiary := by
  obtain ⟨y, hy, rfl⟩ := List.mem_map.mp h
  refine ⟨y, hy, ?_⟩
  split <;> exact ⟨rfl, rfl, rfl, rfl⟩

theorem exists_overtakenAbove {k : Nat} {y : WaitEntry} (h : y ∈ s.waitList) : ∃ x ∈ overtakenAbove s k, x.slot = y.slot := by
  refine ⟨_, List.mem_map_of_mem h, ?_⟩
  split <;> rfl

theorem overtakenAbove_sorted (k : Nat) (h : s.waitList.Pairwise (fun a b => b.cls ≤ a.cls)) :
    (overtakenAbove s k).Pairwise (fun a b => b.cls ≤ a.cls) := by
  have same (y : WaitEntry) : (if s.policy.mode = .fit ∧ k ≤ y.cls then overtaken s.policy.limit y else y).cls = y.cls := by split <;> rfl
  rw [overtakenAbove, List.pairwise_map]
  simpa only [same] using h

/-- An admission: granted at once with no episode open, or deferred with a new ADMIT entry (R24). -/
theorem admitted_cases (s : State) (i : SlotId) :
    (s.episode.kind = .none ∧ admitted s i = (withSlot { s with waitList := overtakenAbove s (s.slot i).cfg.cls } i (switchedOn (s.slot i))).report
        .powered i (s.slot i).cfg.admission 0 0)
    ∨ ∃ x n, x.slot = i ∧ x.kind = .admission ∧ x.cls = (s.slot i).cfg.cls ∧ x.beneficiary = false ∧ x.overtaken = 0 ∧ x.anchored = false
      ∧ admitted s i = (withSlot { s with waitList := placedBehind x.cls x s.waitList } i { s.slot i with state := .admitting }).report
        .deferred i n 0 0 := by
  unfold admitted
  dsimp only
  split
  · rename_i h
    exact .inl ⟨h.1, rfl⟩
  · exact .inr ⟨{ slot := i, kind := .admission, cls := (s.slot i).cfg.cls, overtaken := 0, anchored := false, beneficiary := false }, _,
      rfl, rfl, rfl, rfl, rfl, rfl, rfl⟩

/-- State u is s with the ADMITTING slots of l, in their order, admitted afresh. -/
structure Readmitted (s : State) (l : List SlotId) (u : State) : Prop where
  recency : u.recency = s.recency
  episode : u.episode = s.episode
  sorted : u.waitList.Pairwise (fun a b => b.cls ≤ a.cls)
  other : ∀ j, j ∉ l → u.slot j = s.slot j
  entries : ∀ x ∈ u.waitList, x.slot ∈ l ∧ u.slot x.slot = s.slot x.slot ∧ x.kind = .admission ∧ x.cls = (s.slot x.slot).cfg.cls ∧ x.beneficiary = false
  outcome : ∀ j ∈ l, (s.episode.kind = .none ∧ u.slot j = switchedOn (s.slot j)) ∨ (u.slot j = s.slot j ∧ ∃ x ∈ u.waitList, x.slot = j)
  counts : s.episode.kind ≠ .none → ∀ x ∈ u.waitList, x.overtaken = 0 ∧ x.anchored = false
  reports : ∃ last : List Report, Appends last s u ∧ last.map Report.slot = l.map slotField
    ∧ ∀ j ∈ l, (u.slot j = switchedOn (s.slot j) ∧ slotReport .powered j (s.slot j).cfg.admission 0 0 ∈ last)
      ∨ (u.slot j = s.slot j ∧ ∃ n, slotReport .deferred j n 0 0 ∈ last)

theorem Readmitted.refl (hw : s.waitList = []) : Readmitted s [] s where
  recency := rfl
  episode := rfl
  sorted := by rw [hw]; exact .nil
  other := fun _ _ => rfl
  entries := by rw [hw]; nofun
  outcome := nofun
  counts := by rw [hw]; nofun
  reports := ⟨[], .of_eq rfl, rfl, nofun⟩

theorem Readmitted.noEntry (h : Readmitted s l u) (hi : i ∉ l) : ∀ x ∈ u.waitList, x.slot ≠ i := fun x hx hc => hi (hc ▸ (h.entries x hx).1)

/-- One more slot is admitted at once. -/
theorem Readmitted.grant (h : Readmitted s l u) (hi : i ∉ l) (hk : s.episode.kind = .none)
    (hv : v = (withSlot { u with waitList := overtakenAbove u (u.slot i).cfg.cls } i (switchedOn (s.slot i))).report
      .powered i (s.slot i).cfg.admission 0 0) : Readmitted s (l ++ [i]) v := by
  have hwait : v.waitList = overtakenAbove u (u.slot i).cfg.cls := by rw [hv, State.report_waitList]; rfl
  have hself : v.slot i = switchedOn (s.slot i) := by rw [hv, State.report_slot, withSlot_slot]
  have hother {j : SlotId} (hj : j ≠ i) : v.slot j = u.slot j := by rw [hv, State.report_slot, withSlot_slot_other hj]; rfl
  have apart {j : SlotId} (hj : j ∈ l) : j ≠ i := fun hc => hi (hc ▸ hj)
  refine ⟨by rw [hv, State.report_recency]; exact h.recency, by rw [hv, State.report_episode]; exact h.episode, ?_, fun j hj => ?_, fun x hx => ?_,
    fun j hj => ?_, fun hn => absurd hk hn, ?_⟩
  · rw [hwait]
    exact overtakenAbove_sorted _ h.sorted
  · rw [List.mem_append, List.mem_singleton, not_or] at hj
    exact (hother hj.2).trans (h.other j hj.1)
  · obtain ⟨y, hy, h1, h2, h3, h4⟩ := mem_overtakenAbove (hwait ▸ hx)
    obtain ⟨g1, g2, g3, g4, g5⟩ := h.entries y hy
    rw [h1, h2, h3, h4, hother (apart g1)]
    exact ⟨List.mem_append_left _ g1, g2, g3, g4, g5⟩
  · rcases List.mem_append.mp hj with hj | hj
    · rw [hother (apart hj), hwait]
      refine (h.outcome j hj).imp id fun ⟨h1, y, hy, hyj⟩ => ⟨h1, ?_⟩
      obtain ⟨x, hx, hxy⟩ := exists_overtakenAbove hy
      exact ⟨x, hx, hxy.trans hyj⟩
    · rw [List.mem_singleton.mp hj]
      exact .inl ⟨hk, hself⟩
  · obtain ⟨last, h1, h2, h3⟩ := h.reports
    refine ⟨last ++ [slotReport .powered i (s.slot i).cfg.admission 0 0], ?_, by rw [List.map_append, List.map_append, h2]; rfl, fun j hj => ?_⟩
    · rw [hv]
      refine Appends.append ?_ _
      exact h1
    · rcases List.mem_append.mp hj with hj | hj
      · rw [hother (apart hj)]
        exact (h3 j hj).imp (fun g => ⟨g.1, List.mem_append_left _ g.2⟩) fun ⟨g, n, hn⟩ => ⟨g, n, List.mem_append_left _ hn⟩
      · rw [List.mem_singleton.mp hj]
        exact .inl ⟨hself, by simp⟩

/-- One more slot waits for its admission. -/
theorem Readmitted.defer (h : Readmitted s l u) (hi : i ∉ l) {x : WaitEntry} {n : Nat} (hx : x.slot = i) (hkind : x.kind = .admission)
    (hcls : x.cls = (s.slot i).cfg.cls) (hb : x.beneficiary = false) (ho : x.overtaken = 0) (ha : x.anchored = false)
    (hv : v = (withSlot { u with waitList := placedBehind x.cls x u.waitList } i (s.slot i)).report .deferred i n 0 0) :
    Readmitted s (l ++ [i]) v := by
  have hwait : v.waitList = placedBehind x.cls x u.waitList := by rw [hv, State.report_waitList]; rfl
  have hself : v.slot i = s.slot i := by rw [hv, State.report_slot, withSlot_slot]
  have hother {j : SlotId} (hj : j ≠ i) : v.slot j = u.slot j := by rw [hv, State.report_slot, withSlot_slot_other hj]; rfl
  have apart {j : SlotId} (hj : j ∈ l) : j ≠ i := fun hc => hi (hc ▸ hj)
  refine ⟨by rw [hv, State.report_recency]; exact h.recency, by rw [hv, State.report_episode]; exact h.episode, ?_, fun j hj => ?_, fun y hy => ?_,
    fun j hj => ?_, fun hn y hy => ?_, ?_⟩
  · rw [hwait]
    exact placedBehind_sorted h.sorted
  · rw [List.mem_append, List.mem_singleton, not_or] at hj
    exact (hother hj.2).trans (h.other j hj.1)
  · rcases mem_placedBehind.mp (hwait ▸ hy) with rfl | hy
    · rw [hx]
      exact ⟨by simp, hself, hkind, hcls, hb⟩
    · obtain ⟨g1, g2, g3, g4, g5⟩ := h.entries y hy
      rw [hother (apart g1)]
      exact ⟨List.mem_append_left _ g1, g2, g3, g4, g5⟩
  · rcases List.mem_append.mp hj with hj | hj
    · rw [hother (apart hj), hwait]
      exact (h.outcome j hj).imp id fun ⟨h1, y, hy, hyj⟩ => ⟨h1, y, mem_placedBehind.mpr (.inr hy), hyj⟩
    · rw [List.mem_singleton.mp hj, hwait]
      exact .inr ⟨hself, x, mem_placedBehind.mpr (.inl rfl), hx⟩
  · rcases mem_placedBehind.mp (hwait ▸ hy) with rfl | hy
    · exact ⟨ho, ha⟩
    · exact h.counts hn y hy
  · obtain ⟨last, h1, h2, h3⟩ := h.reports
    refine ⟨last ++ [slotReport .deferred i n 0 0], ?_, by rw [List.map_append, List.map_append, h2]; rfl, fun j hj => ?_⟩
    · rw [hv]
      refine Appends.append ?_ _
      exact h1
    · rcases List.mem_append.mp hj with hj | hj
      · rw [hother (apart hj)]
        exact (h3 j hj).imp (fun g => ⟨g.1, List.mem_append_left _ g.2⟩) fun ⟨g, m, hm⟩ => ⟨g, m, List.mem_append_left _ hm⟩
      · rw [List.mem_singleton.mp hj]
        exact .inr ⟨hself, n, by simp⟩

theorem Readmitted.next (h : Readmitted s l u) (hi : i ∉ l) (hst : (s.slot i).state = .admitting) : Readmitted s (l ++ [i]) (admitted u i) := by
  have hslot := h.other i hi
  have hsame : { s.slot i with state := .admitting } = s.slot i := by rw [← hst]
  rcases admitted_cases u i with ⟨hk, hv⟩ | ⟨x, n, h1, h2, h3, h4, h5, h6, hv⟩
  · exact h.grant hi (h.episode ▸ hk) (by rw [hv, hslot])
  · exact h.defer hi h1 h2 (hslot ▸ h3) h4 h5 h6 (by rw [hv, hslot, hsame])

theorem readmitted_foldl (hw : s.waitList = []) (hl : l.Nodup) (hst : ∀ j ∈ l, (s.slot j).state = .admitting) :
    Readmitted s l (l.foldl admitted s) := by
  induction l using List.reverseRecOn with
  | nil => exact .refl hw
  | append_singleton l i ih =>
    rw [List.nodup_append_comm, List.singleton_append, List.nodup_cons] at hl
    rw [List.foldl_append]
    exact (ih hl.2 fun j hj => hst j (List.mem_append_left _ hj)).next hl.1 (hst i (by simp))

/-! RESTART as the three parts one after another. -/

theorem foldl_cutIfPowered (hw : u.waitList = []) (hl : l.Nodup) (hs : ∀ j ∈ l, u.slot j = s.slot j) :
    l.foldl (fun u i => u.cutIfPowered i .restart) u = (l.filter (fun i => (s.slot i).powered)).foldl (fun u i => cutStarted u i .restart) u := by
  induction l generalizing u with
  | nil => rfl
  | cons i l ih =>
    obtain ⟨hi, hl⟩ := List.nodup_cons.mp hl
    have hslot := hs i List.mem_cons_self
    have hrest := fun j hj => hs j (List.mem_cons_of_mem _ hj)
    rw [List.foldl_cons]
    cases hp : (s.slot i).powered with
    | true =>
      have hc := (CutDown.refl hw).cut (i := i) (by simp)
      rw [List.filter_cons_of_pos (p := fun i => (s.slot i).powered) hp, List.foldl_cons, cutIfPowered_powered (hslot ▸ hp)]
      refine ih hc.waits hl fun j hj => ?_
      rw [hc.slot, if_neg (by rintro hm; exact hi (List.mem_singleton.mp hm ▸ hj)), hrest j hj]
    | false =>
      rw [List.filter_cons_of_neg (p := fun i => (s.slot i).powered) (by simp [hp]), cutIfPowered_unpowered (hslot ▸ hp)]
      exact ih hw hl hrest

theorem foldl_startAdmission (hw : s.waitList = []) (hl : l.Nodup) (hst : ∀ j ∈ l, (s.slot j).state = .admitting) :
    l.foldl (fun u i => u.startAdmission i) s = l.foldl admitted s := by
  induction l using List.reverseRecOn with
  | nil => rfl
  | append_singleton l i ih =>
    rw [List.nodup_append_comm, List.singleton_append, List.nodup_cons] at hl
    have hst' := fun j hj => hst j (List.mem_append_left _ hj)
    have h := readmitted_foldl hw hl.2 hst'
    rw [List.foldl_append, List.foldl_append, ih hl.2 hst']
    exact startAdmission_eq_admitted _ i h.sorted (h.noEntry hl.1)

/-- The slots that RESTART cuts, in ascending number. -/
def poweredSlots (s : State) : List SlotId := slotIds.filter (fun i => (s.slot i).powered)

/-- The slots that RESTART admits again, in ascending number. -/
def admittingSlots (s : State) : List SlotId := slotIds.filter (fun i => decide ((s.slot i).state = .admitting))

theorem mem_poweredSlots : j ∈ poweredSlots s ↔ (s.slot j).powered = true := by simp [poweredSlots, mem_slotIds]

theorem mem_admittingSlots : j ∈ admittingSlots s ↔ (s.slot j).state = .admitting := by simp [admittingSlots, mem_slotIds]

theorem not_powered_of_admitting (h : (s.slot j).state = .admitting) : j ∉ poweredSlots s := by simp [mem_poweredSlots, Slot.powered, h]

/-- The state in which RESTART has cleared the wait list. -/
def waitCleared (s : State) : State := s.waitList.foldl entryCleared s

/-- The state in which RESTART has cut the powered slots too. -/
def poweredCut (s : State) : State := (poweredSlots s).foldl (fun u i => cutStarted u i .restart) (waitCleared s)

theorem Sound.waitCleared (h : Sound nobody s) : Cleared s (waitCleared s) := by
  have hc := dropForRestart_cleared (s := s) rfl h.lists.slots
  rwa [dropForRestart_eq] at hc

theorem Sound.poweredCut (h : Sound nobody s) : CutDown (Proofs.waitCleared s) (poweredSlots s) (poweredCut s) :=
  cutDown_foldl h.waitCleared.empty (nodup_slotIds.filter _)

/-- A powered slot is cut, every other slot is as before. -/
theorem Sound.poweredCut_slot (h : Sound nobody s) (j : SlotId) :
    (Proofs.poweredCut s).slot j = if j ∈ poweredSlots s then (s.slot j).cut .restart else s.slot j := by
  rw [h.poweredCut.slot, h.waitCleared.slot]

theorem Sound.admitting_poweredCut (h : Sound nobody s) : ∀ j ∈ admittingSlots s, ((Proofs.poweredCut s).slot j).state = .admitting := by
  intro j hj
  have hst := mem_admittingSlots.mp hj
  rw [h.poweredCut_slot, if_neg (not_powered_of_admitting hst)]
  exact hst

theorem Sound.restarted (h : Sound nobody s) : Readmitted (Proofs.poweredCut s) (admittingSlots s) (restarted s) :=
  readmitted_foldl h.poweredCut.waits (nodup_slotIds.filter _) h.admitting_poweredCut

theorem Sound.foldl_startAdmission (h : Sound nobody s) :
    (admittingSlots s).foldl (fun u i => u.startAdmission i) (Proofs.poweredCut s) = Safety.restarted s :=
  Proofs.foldl_startAdmission h.poweredCut.waits (nodup_slotIds.filter _) h.admitting_poweredCut

theorem Sound.restarted_evolves (h : Sound nobody s) : Evolves (Proofs.poweredCut s) (Safety.restarted s) :=
  h.foldl_startAdmission ▸ Evolves.refl.foldl _ _ fun _ i hv => hv.startAdmission i

/-- The effects of RESTART are its three parts (R168). -/
theorem Sound.restart_eq (h : Sound nobody s) : s.restart = Safety.restarted s := by
  have hw : dropForRestart s.waitList s = Proofs.waitCleared s := dropForRestart_eq _ _
  rw [← h.foldl_startAdmission]
  unfold State.restart
  dsimp only
  rw [hw, h.waitCleared.followUp h, foldl_cutIfPowered h.waitCleared.empty nodup_slotIds (fun j _ => h.waitCleared.slot j)]
  rfl

/-! What RESTART leaves. -/

/-- A slot after RESTART: cut if it was powered, at once on or waiting as before if it was ADMITTING, else as it was (R168). -/
theorem Sound.restarted_slot (h : Sound nobody s) (j : SlotId) :
    ((s.slot j).powered = true ∧ (Safety.restarted s).slot j = (s.slot j).cut .restart)
    ∨ ((s.slot j).state = .admitting ∧ (Safety.restarted s).slot j = switchedOn (s.slot j) ∧ (Safety.restarted s).entryOf j = none)
    ∨ ((s.slot j).powered = false ∧ (Safety.restarted s).slot j = s.slot j) := by
  by_cases hp : (s.slot j).powered = true
  · have hn : j ∉ admittingSlots s := fun hc => not_powered_of_admitting (mem_admittingSlots.mp hc) (mem_poweredSlots.mpr hp)
    exact .inl ⟨hp, by rw [h.restarted.other j hn, h.poweredCut_slot, if_pos (mem_poweredSlots.mpr hp)]⟩
  have hcut : (Proofs.poweredCut s).slot j = s.slot j := by rw [h.poweredCut_slot, if_neg (mt mem_poweredSlots.mp hp)]
  have hp' : (s.slot j).powered = false := Bool.eq_false_iff.mpr hp
  by_cases ha : j ∈ admittingSlots s
  · rcases h.restarted.outcome j ha with ⟨-, ho⟩ | ⟨ho, -⟩
    · refine .inr (.inl ⟨mem_admittingSlots.mp ha, ho.trans (congrArg switchedOn hcut), entryOf_none.mpr fun x hx hxj => ?_⟩)
      have hsame := (h.restarted.entries x hx).2.1
      rw [hxj, ho] at hsame
      have hst := congrArg Slot.state hsame
      rw [hcut, mem_admittingSlots.mp ha] at hst
      cases hst
    · exact .inr (.inr ⟨hp', ho.trans hcut⟩)
  · exact .inr (.inr ⟨hp', (h.restarted.other j ha).trans hcut⟩)

/-- An entry after RESTART is the ADMIT entry of a slot that was ADMITTING (R24, R27). -/
theorem Sound.restarted_entry (h : Sound nobody s) {x : WaitEntry} (hx : x ∈ (Safety.restarted s).waitList) :
    (s.slot x.slot).state = .admitting ∧ x.kind = .admission ∧ x.cls = (s.slot x.slot).cfg.cls ∧ x.beneficiary = false := by
  obtain ⟨h1, -, h3, h4, h5⟩ := h.restarted.entries x hx
  have hst := mem_admittingSlots.mp h1
  rw [h.poweredCut_slot, if_neg (not_powered_of_admitting hst)] at h4
  exact ⟨hst, h3, h4, h5⟩

/-- A slot that is ADMITTING after RESTART holds an entry (R27). -/
theorem Sound.restarted_waits (h : Sound nobody s) (hst : (s.slot j).state = .admitting) (ht : (Safety.restarted s).slot j = s.slot j) :
    ∃ x, (Safety.restarted s).entryOf j = some x := by
  rcases h.restarted.outcome j (mem_admittingSlots.mpr hst) with ⟨-, ho⟩ | ⟨-, x, hx, hxj⟩
  · have hs := congrArg Slot.state (ht.symm.trans ho)
    rw [hst] at hs
    cases hs
  · cases he : (Safety.restarted s).entryOf j with
    | none => exact absurd hxj (entryOf_none.mp he x hx)
    | some x => exact ⟨x, rfl⟩

theorem Sound.powered_of_victim (h : Sound nobody s) {w : Victim} (hw : w ∈ s.episode.victims) : (s.slot w.slot).powered = true := by
  obtain ⟨c, r, -, hr, -⟩ := (h.holds w.slot id).victims w hw rfl
  by_contra hp
  have hfits := (h.holds w.slot id).ok.fits
  have hn : (s.slot w.slot).state ≠ .active := fun hc => hp ((powered_iff _).mpr (.inr (.inr hc)))
  simp [slotFits, hn, hr] at hfits

theorem Sound.restarted_recency (h : Sound nobody s) : (Safety.restarted s).recency = [] := by
  rw [h.restarted.recency, h.poweredCut.recency, h.waitCleared.recency, List.filter_eq_nil_iff]
  intro j hj
  have hst := (h.holds j id).recent hj
  simp [mem_poweredSlots, powered_iff, hst]

/-- A PREEMPT is over after RESTART (R120, R156). -/
theorem Sound.restarted_closed (h : Sound nobody s) (hk : s.episode.kind ≠ .overdraft) : (Safety.restarted s).episode.kind = .none := by
  rw [h.restarted.episode, h.poweredCut.kind]
  rcases h.waitCleared.overdraft h with ⟨hc, -⟩ | ⟨-, he⟩
  · exact absurd hc hk
  · rw [he]
    rfl

/-- An OVERDRAFT goes on over the clearing as it was. -/
theorem Sound.waitCleared_episode (h : Sound nobody s) (hk : s.episode.kind = .overdraft) : (Proofs.waitCleared s).episode = s.episode := by
  rcases h.waitCleared.overdraft h with ⟨-, he⟩ | ⟨hn, -⟩
  · exact he
  · exact absurd hk hn

/-- The victims of an OVERDRAFT are on the cut list with their charges, behind those that were there (R148, R156). -/
theorem Sound.restarted_overdraft (h : Sound nobody s) (hk : s.episode.kind = .overdraft) :
    (Safety.restarted s).episode.kind = .overdraft ∧ (Safety.restarted s).episode.target = s.episode.target
    ∧ (Safety.restarted s).episode.victims = []
    ∧ (Safety.restarted s).episode.cuts = s.episode.cuts ++ (slotIds.filter (fun i => decide (i ∈ s.episode.victims.map Victim.slot))).map
        (fun i => { slot := i, counted := (s.slot i).charge }) := by
  have he := h.waitCleared_episode hk
  have hvic : victimOf (Proofs.waitCleared s) = fun i => decide (i ∈ s.episode.victims.map Victim.slot) := by
    funext i
    rw [victimOf, he]
  have hpow : (poweredSlots s).filter (victimOf (Proofs.waitCleared s)) = slotIds.filter (fun i => decide (i ∈ s.episode.victims.map Victim.slot)) := by
    rw [hvic, poweredSlots, List.filter_filter]
    refine List.filter_congr fun i _ => ?_
    rw [Bool.and_eq_left_iff_imp, decide_eq_true_eq, List.mem_map]
    rintro ⟨w, hw, rfl⟩
    exact h.powered_of_victim hw
  rw [h.restarted.episode]
  refine ⟨h.poweredCut.kind.trans (he ▸ hk), h.poweredCut.target.trans (he ▸ rfl), ?_, ?_⟩
  · rw [h.poweredCut.victims, he, List.filter_eq_nil_iff]
    intro w hw
    simp [mem_poweredSlots, h.powered_of_victim hw]
  · rw [h.poweredCut.cuts, he, hpow]
    exact congrArg _ (List.map_congr_left fun i _ => by rw [h.waitCleared.slot])

/-- While an OVERDRAFT is open every admission is deferred (R24, R156). -/
theorem Sound.restarted_defers (h : Sound nobody s) (hk : s.episode.kind = .overdraft) :
    (∀ x ∈ (Safety.restarted s).waitList, x.overtaken = 0 ∧ x.anchored = false)
    ∧ ∀ j, (s.slot j).state = .admitting → ((Safety.restarted s).slot j).state = .admitting := by
  have hn : (Proofs.poweredCut s).episode.kind ≠ .none := by rw [h.poweredCut.kind, h.waitCleared_episode hk, hk]; nofun
  refine ⟨h.restarted.counts hn, fun j hst => ?_⟩
  rcases h.restarted.outcome j (mem_admittingSlots.mpr hst) with ⟨hc, -⟩ | ⟨ho, -⟩
  · exact absurd hc hn
  · rw [ho]
    exact h.admitting_poweredCut j (mem_admittingSlots.mpr hst)

/-! The reports of RESTART. -/

theorem Sound.poweredCut_appends (h : Sound nobody s) : Appends (restartReports s) s (Proofs.poweredCut s) := by
  have hmap : (poweredSlots s).map (fun i => slotReport .cutStart i 7 ((Proofs.waitCleared s).slot i).charge 0)
      = (poweredSlots s).map (fun i => slotReport .cutStart i 7 (s.slot i).charge 0) :=
    List.map_congr_left fun i _ => by rw [h.waitCleared.slot]
  exact (cleared_appends h.lists.slots).trans (hmap ▸ h.poweredCut.reports)

theorem tailIsGap_append {qs : List Report} (hn : qs ≠ []) (hq : ∀ r ∈ qs, r.kind ≠ .gap) (rs : List Report) : tailIsGap (rs ++ qs) = false := by
  rw [← List.dropLast_concat_getLast hn, ← List.append_assoc, tailIsGap_concat]
  exact decide_eq_false (hq _ (List.getLast_mem hn))

theorem restartReports_kind (s : State) : ∀ r ∈ restartReports s, r.kind ≠ .gap := by
  intro r hr
  unfold restartReports at hr
  rcases List.mem_append.mp hr with hr | hr
  · obtain ⟨e, -, hr⟩ := List.mem_flatMap.mp hr
    rcases List.mem_cons.mp hr with rfl | hr
    · nofun
    · split at hr
      · rw [List.mem_singleton.mp hr]
        nofun
      · cases hr
  · obtain ⟨i, -, rfl⟩ := List.mem_map.mp hr
    nofun

/-- Each ADMITTING slot holds an entry of its own. -/
theorem Sound.length_admittingSlots (h : Sound nobody s) : (admittingSlots s).length ≤ s.waitList.length := by
  have hsub : admittingSlots s ⊆ s.waitList.map WaitEntry.slot := fun j hj => by
    obtain ⟨e, he, rfl⟩ := (h.holds j id).waits (mem_admittingSlots.mp hj)
    exact List.mem_map_of_mem he
  have := (List.subperm_of_subset (nodup_slotIds.filter _) hsub).length_le
  rwa [List.length_map] at this

/-- The reports of the admissions: one on each slot that was ADMITTING, by what became of it (R24, R168). -/
theorem Sound.restarted_last (h : Sound nobody s) :
    ∃ last, Appends last (Proofs.poweredCut s) (Safety.restarted s) ∧ last.length ≤ s.waitList.length
      ∧ last.map Report.slot = (admittingSlots s).map slotField
      ∧ ∀ i, (s.slot i).state = .admitting →
          (((Safety.restarted s).slot i).state = .settling → slotReport .powered i (s.slot i).cfg.admission 0 0 ∈ last)
          ∧ (((Safety.restarted s).slot i).state = .admitting → ∃ n, slotReport .deferred i n 0 0 ∈ last) := by
  obtain ⟨last, h1, h2, h3⟩ := h.restarted.reports
  have hlen := congrArg List.length h2
  rw [List.length_map, List.length_map] at hlen
  refine ⟨last, h1, hlen ▸ h.length_admittingSlots, h2, fun i hst => ?_⟩
  have hi : (Proofs.poweredCut s).slot i = s.slot i := by rw [h.poweredCut_slot, if_neg (not_powered_of_admitting hst)]
  have ho := h3 i (mem_admittingSlots.mpr hst)
  rw [hi] at ho
  rcases ho with ⟨ho, hr⟩ | ⟨ho, hr⟩ <;> rw [ho]
  · exact ⟨fun _ => hr, nofun⟩
  · exact ⟨fun hc => absurd (hst.symm.trans hc) nofun, fun _ => hr⟩

/-- State u with what the Arbiter and the slots hold taken from s, the report queue included. -/
def withListsOf (s u : State) : State :=
  { u with slots := s.slots, waitList := s.waitList, recency := s.recency, episode := s.episode, reports := s.reports, gapSeen := s.gapSeen }

theorem withListsOf_of_rest (s : State) (h : v.rest = u.rest) : withListsOf s v = withListsOf s u := (congrArg (withListsOf s) h :)

end

/-- Settles O58: the slots, the lists, the episode and the reports through the three parts of RESTART, in the state in which it is taken. -/
theorem restart : Obligations.Restart := by
  intro s e hs ht
  obtain ⟨u, hu⟩ : ∃ u, u = taken s .restart e := ⟨_, rfl⟩
  have h : Sound nobody u := hu ▸ (sound_of_blockInv hs).taken _ _
  have hslot (i : SlotId) : u.slot i = s.slot i := by rw [hu]; rfl
  have hepisode : u.episode = s.episode := by rw [hu]; rfl
  have hreports : u.reports = s.reports ++ [resultRecord s .restart e] := by rw [hu]; rfl
  have hlist : restartReports u = restartReports s := by rw [hu]; rfl
  have hwait : u.waitList = s.waitList := by rw [hu]; rfl
  have hformer : admittingSlots u = slotIds.filter (fun i => decide ((s.slot i).state = .admitting)) := by simp only [admittingSlots, hslot]
  have hcut (hl : s.reports.length + 1 + (restartReports s).length ≤ 31) :
      (poweredCut u).reports = s.reports ++ resultRecord s .restart e :: restartReports s := by
    rw [h.poweredCut_appends (by rw [hreports, hlist, List.length_append, List.length_singleton]; exact hl), hreports, hlist, List.append_assoc]
    rfl
  have hrest := h.restart_eq ▸ (Evolves.refl (s := u)).restart.rest
  have hexec : exec .restart s = .next (restarted u) := by
    rw [exec_of_takes ht, takeHead_ok ht rfl rfl, ← hu]
    exact congrArg _ h.restart_eq
  refine ⟨restarted u, hexec, by rw [hu], fun i => ?_, fun x hx => ?_, h.restarted_recency, fun hk => h.restarted_closed (hepisode ▸ hk), fun hk => ?_,
    fun hl => ?_, fun hl => ?_, ?_⟩
  · rw [← hslot i]
    rcases h.restarted_slot i with ⟨hp, ho⟩ | ⟨hst, ho, he⟩ | ⟨hp, ho⟩
    · have hn : (u.slot i).state ≠ .admitting := fun hc => by simp [Slot.powered, hc] at hp
      rw [ho]
      exact ⟨fun _ => ⟨rfl, rfl, rfl, rfl, rfl, rfl⟩, fun hc => absurd hc hn, fun hc => absurd hp (by simp [hc]), rfl, rfl, rfl⟩
    · rw [ho]
      exact ⟨fun hc => by simp [Slot.powered, hst] at hc, fun _ => .inl ⟨he, rfl⟩, fun _ hc => absurd hst hc, rfl, rfl, rfl⟩
    · refine ⟨fun hc => absurd hc (by simp [hp]), fun hst => .inr ⟨ho, ?_⟩, fun _ _ => ho, by rw [ho], by rw [ho], by rw [ho]⟩
      obtain ⟨x, hx⟩ := h.restarted_waits hst ho
      obtain ⟨hm, hxi⟩ := entryOf_mem hx
      obtain ⟨-, h2, h3, -⟩ := h.restarted_entry hm
      exact ⟨x, hx, h2, hxi ▸ h3⟩
  · obtain ⟨h1, h2, -, h4⟩ := h.restarted_entry hx
    exact ⟨h2, h4, hslot x.slot ▸ h1⟩
  · obtain ⟨h1, h2, h3, h4⟩ := h.restarted_overdraft (hepisode ▸ hk)
    obtain ⟨h5, h6⟩ := h.restarted_defers (hepisode ▸ hk)
    simp only [hslot, hepisode] at h4 h6
    exact ⟨h1, h2.trans (by rw [hepisode]), h3, h4, h5, h6⟩
  · refine h.restarted_evolves.keepsReports (.inr (tailIsGap_append (List.cons_ne_nil _ _) ?_ _)) (by rw [hcut hl])
    exact List.forall_mem_cons.mpr ⟨nofun, restartReports_kind s⟩
  · obtain ⟨last, h1, h2, h3, h4⟩ := h.restarted_last
    have hc := hcut (by omega)
    rw [hwait] at h2
    refine ⟨last, ?_, by rw [h3, hformer], fun i hst => hslot i ▸ h4 i (hslot i ▸ hst)⟩
    rw [h1 (by rw [hc, List.length_append, List.length_cons]; omega), hc]
  · exact (withListsOf_of_rest s hrest).trans (by rw [hu]; rfl)

end Sys2Proof.Proofs
end

/-! The records that a snapshot latches, bit by bit (O60). -/
section
namespace Sys2Proof.Proofs

open Machine Safety Laws

/-! Fields of a halfword. -/

section
variable {n m a b k lo hi : Nat}

/-- A field of a halfword that holds the number n. -/
theorem half_field (hn : n < 65536) (h : n / 2 ^ a % 2 ^ b = m) : ((half n).extractLsb' a b).toNat = m := by
  rw [BitVec.extractLsb'_toNat, half_toNat hn, Nat.shiftRight_eq_div_pow, h]

theorem half_field_zero (hn : n < 65536) (h : n / 2 ^ a % 2 ^ b = 0) : (half n).extractLsb' a b = 0 :=
  BitVec.eq_of_toNat_eq ((half_field hn h).trans (by simp))

/-- A flag of a halfword that holds the number n. -/
theorem half_flag {f : Bool} (hk : k < 16) (h : n / 2 ^ k % 2 = bit f) : (half n).getLsbD k = f := by
  rw [half, BitVec.getLsbD_ofNat, Nat.testBit_eq_decide_div_mod_eq, h]
  cases f <;> simp [bit, hk]

theorem bit_le (f : Bool) : bit f ≤ 1 := by cases f <;> decide

/-- The low byte of two. -/
theorem twoBytes_low (h1 : lo < 256) (h2 : hi < 256) : ((twoBytes lo hi).extractLsb' 0 8).toNat = lo := half_field (by omega) (by omega)

/-- The high byte of two. -/
theorem twoBytes_high (h1 : lo < 256) (h2 : hi < 256) : ((twoBytes lo hi).extractLsb' 8 8).toNat = hi := half_field (by omega) (by omega)

theorem byteOr_lt {o : Option Nat} (h : ∀ k, o = some k → k < 256) : byteOr o < 256 := by
  cases o with
  | none => decide
  | some k => exact h k rfl

end

/-! What a latched record reads. -/

section
variable {s t : State} {index : Half} {l : List Half}

/-- TABLE_DATA0 to TABLE_DATA7 of a latched record (R170, 12.2). -/
theorem read_latched (h : t.tableData = latchOf l) :
    t.read 0x28 = l.getD 0 0 ∧ t.read 0x29 = l.getD 1 0 ∧ t.read 0x2A = l.getD 2 0 ∧ t.read 0x2B = l.getD 3 0 ∧ t.read 0x2C = l.getD 4 0
      ∧ t.read 0x2D = l.getD 5 0 ∧ t.read 0x2E = l.getD 6 0 ∧ t.read 0x2F = l.getD 7 0 := by
  have read (k : Fin 8) : t.tableData[k] = l.getD k 0 := by
    rw [h]
    exact Vector.getElem_ofFn k.isLt
  exact ⟨read 0, read 1, read 2, read 3, read 4, read 5, read 6, read 7⟩

theorem writeIndex_latches {r : Vector Half 8} (hr : s.selected index = some r) (ht : s.writeIndex index = t) : t.tableData = r := by
  subst ht
  change (s.selected index).getD noRecord = r
  rw [hr]
  rfl

theorem selected_live {i : SlotId} (h0 : s.tableSel.toNat = 0) (hi : index.toNat = i.val) : s.selected index = some (s.slot i).liveRecord := by
  unfold State.selected State.slotTable
  rw [h0, hi]
  exact dif_pos i.isLt

theorem selected_config {i : SlotId} (h0 : s.tableSel.toNat = 0) (hi : index.toNat = i.val + 8) :
    s.selected index = some ((s.slot i).cfg.record ((s.slot i).card.map Card.effFloor)) := by
  unfold State.selected State.slotTable
  rw [h0, hi]
  refine (dif_neg (by omega)).trans ((dif_pos (by omega)).trans ?_)
  rfl

theorem selected_steps {i : SlotId} {c : Card} (h1 : s.tableSel.toNat = 1) (hi : index.toNat = i.val) (hc : (s.slot i).card = some c) :
    s.selected index = some c.record := by
  unfold State.selected State.stepTable
  rw [h1, hi]
  refine (dif_pos i.isLt).trans ?_
  rw [Fin.eta, hc]
  rfl

theorem selected_wait {e : WaitEntry} (h2 : s.tableSel.toNat = 2) (hi : 1 ≤ index.toNat) (he : s.waitList[index.toNat - 1]? = some e) :
    s.selected index = some e.record := by
  unfold State.selected State.waitTable
  rw [h2]
  refine (if_neg (by omega)).trans ?_
  rw [he]
  rfl

theorem selected_header (h3 : s.tableSel.toNat = 3) (hi : index = 0) : s.selected index = some s.episodeHeader := by
  unfold State.selected
  rw [h3, hi]
  rfl

end

/-! What the fields hold. -/

section
variable {s : State} {n : Nat} {i : SlotId} {t : Slot} {c : Card}

/-- A slot is ACTIVE with a step table, or holds nothing of what only ACTIVE holds. -/
theorem SlotOk.inactive_or_active (h : SlotOk n i t) : Inactive t ∨ ∃ c, Active n i t c := by
  cases hst : t.state with
  | active => exact .inr ((slotOk_active hst).mp h)
  | cutting => exact .inl ((slotOk_cutting hst).mp h).toInactive
  | settling => exact .inl ((slotOk_settling hst).mp h).1
  | listening => exact .inl ((slotOk_listening hst).mp h).1
  | _ => exact .inl ((slotOk_unpowered (by rw [hst]; rfl)).mp h).1.toInactive

/-- Reclaim target and widths of a slot lie in their ranges (R123, R133). -/
structure ReclaimRanges (t : Slot) : Prop where
  target : ∀ r, t.reclaim = some r → r.target ≤ 5
  curWidth : ∀ w, t.curWidth = some w → w ≤ 30
  pendWidth : ∀ w, t.pendWidth = some w → w ≤ 30

theorem of_eq_none {α : Type} {o : Option α} {p : α → Prop} (h : o = none) : ∀ x, o = some x → p x := by rw [h]; nofun

theorem of_eq_some {α : Type} {o : Option α} {p : α → Prop} {y : α} (h : o = some y) (hp : p y) : ∀ x, o = some x → p x :=
  fun _ hx => Option.some.inj (h.symm.trans hx) ▸ hp

theorem Inactive.reclaimRanges (h : Inactive t) : ReclaimRanges t := ⟨of_eq_none h.reclaim, of_eq_none h.curWidth, of_eq_none h.pendWidth⟩

theorem Active.reclaimRanges (h : Active n i t c) : ReclaimRanges t := by
  have hs := h.cardShape
  have hcount := hs.hi
  have hheld := hs.held
  have hf := h.reclaim
  unfold reclaimOk at hf
  cases hr : t.reclaim with
  | none =>
    rw [hr] at hf
    exact ⟨of_eq_none hr, of_eq_none hf.2.1, of_eq_none hf.2.2⟩
  | some r =>
    rw [hr] at hf
    cases hp : r.phase with
    | reclaiming =>
      obtain ⟨h1, -, -, -, h5, h6, -⟩ := (reclaimFits_reclaiming hp).mp hf
      exact ⟨of_eq_some hr (by omega), of_eq_none h5, of_eq_none h6⟩
    | pacePending =>
      obtain ⟨h1, -, -, -, h5, h6, -⟩ := (reclaimFits_pacePending hp).mp hf
      exact ⟨of_eq_some hr (by omega), of_eq_none h5, of_eq_some h6 (hs.width_le h1 hheld)⟩
    | paced =>
      obtain ⟨b, w, hb⟩ := (reclaimFits_paced hp).mp hf
      have htarget := hb.target
      have hstep := hb.step
      refine ⟨of_eq_some hr (by omega), of_eq_some hb.width hb.narrow, ?_⟩
      cases hl : r.liftPending with
      | true => exact of_eq_none (hb.lift hl).2.1
      | false =>
        rcases (hb.plain hl).2 with hpw | ⟨hpw, -⟩
        · exact of_eq_some hpw (hs.width_le htarget hstep)
        · exact of_eq_none hpw

theorem SlotOk.reclaimRanges (h : SlotOk n i t) : ReclaimRanges t := by
  rcases h.inactive_or_active with hi | ⟨c, hc⟩
  · exact hi.reclaimRanges
  · exact hc.reclaimRanges

theorem SlotOk.cardShape (h : SlotOk n i t) (hc : t.card = some c) : CardShape c := (cardFits_iff c).mp (h.cardFits hc)

/-- A figure of the step table as a byte: a step of at most six, or none. -/
theorem SlotOk.cardByte (h : SlotOk n i t) {f : Card → Nat} (hf : ∀ c, CardShape c → f c < c.count) : byteOr (t.card.map f) < 256 := by
  refine byteOr_lt fun k hk => ?_
  obtain ⟨c, hc, rfl⟩ := Option.map_eq_some_iff.mp hk
  have hs := h.cardShape hc
  have h1 := hs.hi
  have h2 := hf c hs
  omega

/-- The slots on the victim list and on the cut list (R148). -/
def shedSlots (s : State) : List SlotId := s.episode.victims.map Victim.slot ++ s.episode.cuts.map CutEntry.slot

/-- The sums of the victims and of the cuts together are charges of different slots (R148). -/
theorem Sound.expected_le (h : Sound nobody s) : s.episode.expected ≤ s.committed := by
  have hv : (s.episode.victims.map Victim.remaining).sum ≤ (s.episode.victims.map fun v => (s.slot v.slot).charge).sum :=
    List.sum_le_sum fun v hm => by
      obtain ⟨c, r, -, -, -, -, hrem⟩ := (h.holds v.slot id).victims v hm rfl
      rw [hrem]
      exact Nat.sub_le _ _
  have hx : (s.episode.cuts.map CutEntry.counted).sum ≤ (s.episode.cuts.map fun x => (s.slot x.slot).charge).sum :=
    List.sum_le_sum fun x hm => ((h.holds x.slot id).cuts x hm rfl).2.ge
  calc s.episode.expected ≤ _ := Nat.add_le_add hv hx
    _ = ((shedSlots s).map fun j => (s.slot j).charge).sum := by rw [shedSlots, List.map_append, List.sum_append, List.map_map, List.map_map]; rfl
    _ = ∑ j ∈ (shedSlots s).toFinset, (s.slot j).charge := (List.sum_toFinset _ h.lists.shed).symm
    _ ≤ ∑ j, (s.slot j).charge := Finset.sum_le_sum_of_subset (Finset.subset_univ _)
    _ = s.committed := s.committed_eq_sum.symm

/-- The victim list and the cut list hold at most the eight slots together. -/
theorem Sound.shed_length (h : Sound nobody s) : s.episode.victims.length + s.episode.cuts.length ≤ 8 := by
  have := h.lists.shed.length_le_card
  rwa [List.length_append, List.length_map, List.length_map, Fintype.card_fin] at this

end

/-! The records. -/

theorem slotStateCode_le (st : SlotState) : slotStateCode st ≤ 7 := by cases st <;> decide

theorem phaseCode_le (p : ReclaimPhase) : phaseCode p ≤ 3 := by cases p <;> decide

theorem causeCode_le (x : ReclaimCause) : causeCode x ≤ 4 := by cases x <;> decide

theorem cutReasonCode_le (r : CutReason) : cutReasonCode r ≤ 7 := by cases r <;> decide

theorem getD_map_le {α : Type} {f : α → Nat} {k : Nat} (h : ∀ x, f x ≤ k) (o : Option α) : (o.map f).getD 0 ≤ k := by
  cases o with
  | none => exact Nat.zero_le _
  | some x => exact h x

/-- The live record in the terms of the fields it shows. -/
theorem liveRecord_eq (t : Slot) : t.liveRecord =
    latchOf
      [ half (slotStateCode t.state + 8 * bit t.enabled + 16 * (t.reclaim.map (fun r => phaseCode r.phase)).getD 0
          + 64 * bit (t.reclaim.any Reclaim.liftPending) + 128 * bit t.destEmpty + 256 * (t.cutReason.map cutReasonCode).getD 0),
        half t.charge, twoBytes (byteOr (t.card.map Card.held)) (byteOr (t.reclaim.map Reclaim.target)),
        half ((t.reclaim.map (fun r => causeCode r.cause)).getD 0), twoBytes (byteOr t.curWidth) (byteOr t.pendWidth) ] := by
  unfold Slot.liveRecord
  cases t.reclaim <;> cases t.cutReason <;> rfl

/-- The record of a wait entry in the terms of the fields it shows. -/
theorem waitRecord_eq (e : WaitEntry) : ∃ asked floor, e.record =
      latchOf [half (e.slot.val + 16 * bit (decide (e.kind ≠ .admission)) + 32 * e.cls + 256 * bit e.anchored + 512 * bit e.beneficiary), half asked,
        half floor, half e.overtaken]
    ∧ (∀ a f, e.kind = .step a f → asked = a ∧ floor = f) ∧ (e.kind = .admission → asked = 0 ∧ floor = 0) := by
  unfold WaitEntry.record
  cases hk : e.kind with
  | admission => exact ⟨0, 0, rfl, nofun, fun _ => ⟨rfl, rfl⟩⟩
  | step a f => exact ⟨a, f, rfl, fun _ _ h => by cases h; exact ⟨rfl, rfl⟩, nofun⟩

/-! A word of the step table: a draw in bits 11:0 and a figure in bits 14:12 (12.5). -/

section
variable {d m : Nat}

theorem drawWord_figure (hd : d ≤ 4095) (hm : m ≤ 7) : ((half (d + 4096 * m)).extractLsb' 12 3).toNat = m := half_field (by omega) (by omega)

theorem drawWord_draw (hd : d ≤ 4095) (hm : m ≤ 7) : ((half (d + 4096 * m)).extractLsb' 0 12).toNat = d := half_field (by omega) (by omega)

theorem drawWord_top (hd : d ≤ 4095) (hm : m ≤ 7) : (half (d + 4096 * m)).getLsbD 15 = false := half_flag (by decide) (by change _ = 0; omega)

theorem draw_top (hd : d ≤ 4095) : (half d).extractLsb' 12 4 = 0 := half_field_zero (by omega) (by omega)

end

/-- Two halfwords make up a card identity (12.5). -/
theorem cardId_halves (x : BitVec 32) : x.extractLsb' 16 16 ++ x.extractLsb' 0 16 = x := by
  refine BitVec.eq_of_toNat_eq ?_
  rw [BitVec.toNat_append, BitVec.extractLsb'_toNat, BitVec.extractLsb'_toNat, ← Nat.shiftLeft_add_eq_or_of_lt (Nat.mod_lt _ (by decide)),
    Nat.shiftLeft_eq, Nat.shiftRight_eq_div_pow, Nat.shiftRight_eq_div_pow]
  have := x.isLt
  omega

section
variable {s u : State} {n : Nat} {i : SlotId} {t : Slot} {c : Card} {e : WaitEntry}

/-- The live record of a slot (12.5). -/
theorem liveRecord_layout (hok : SlotOk n i t) (hu : u.tableData = t.liveRecord) :
    ((u.read 0x28).extractLsb' 0 3).toNat = slotStateCode t.state
    ∧ (u.read 0x28).getLsbD 3 = t.enabled
    ∧ ((u.read 0x28).extractLsb' 4 2).toNat = (t.reclaim.map (fun r => phaseCode r.phase)).getD 0
    ∧ (u.read 0x28).getLsbD 6 = t.reclaim.any Reclaim.liftPending ∧ (u.read 0x28).getLsbD 7 = t.destEmpty
    ∧ ((u.read 0x28).extractLsb' 8 4).toNat = (t.cutReason.map cutReasonCode).getD 0
    ∧ (u.read 0x29).toNat = t.charge
    ∧ ((u.read 0x2A).extractLsb' 0 8).toNat = (t.card.map Card.held).getD 255
    ∧ ((u.read 0x2A).extractLsb' 8 8).toNat = (t.reclaim.map Reclaim.target).getD 255
    ∧ (u.read 0x2B).toNat = (t.reclaim.map (fun r => causeCode r.cause)).getD 0
    ∧ ((u.read 0x2C).extractLsb' 0 8).toNat = t.curWidth.getD 255
    ∧ ((u.read 0x2C).extractLsb' 8 8).toNat = t.pendWidth.getD 255
    ∧ (u.read 0x28).extractLsb' 12 4 = 0 ∧ u.read 0x2D = 0 ∧ u.read 0x2E = 0 ∧ u.read 0x2F = 0 := by
  obtain ⟨r0, r1, r2, r3, r4, r5, r6, r7⟩ := read_latched (hu.trans (liveRecord_eq t))
  rw [r0, r1, r2, r3, r4, r5, r6, r7]
  have hcharge := hok.charge_le
  have hstate := slotStateCode_le t.state
  have hphase := getD_map_le (fun r : Reclaim => phaseCode_le r.phase) t.reclaim
  have hcause := getD_map_le (fun r : Reclaim => causeCode_le r.cause) t.reclaim
  have hreason := getD_map_le cutReasonCode_le t.cutReason
  have hen := bit_le t.enabled
  have hlift := bit_le (t.reclaim.any Reclaim.liftPending)
  have hempty := bit_le t.destEmpty
  have hheld := hok.cardByte (f := Card.held) fun _ hs => hs.held
  have hranges := hok.reclaimRanges
  have htarget : byteOr (t.reclaim.map Reclaim.target) < 256 := byteOr_lt fun k hk => by
    obtain ⟨r, hr, rfl⟩ := Option.map_eq_some_iff.mp hk
    have := hranges.target r hr
    omega
  have hcur : byteOr t.curWidth < 256 := byteOr_lt fun w hw => (hranges.curWidth w hw).trans_lt (by decide)
  have hpend : byteOr t.pendWidth < 256 := byteOr_lt fun w hw => (hranges.pendWidth w hw).trans_lt (by decide)
  exact ⟨half_field (by omega) (by omega), half_flag (by decide) (by omega), half_field (by omega) (by omega), half_flag (by decide) (by omega),
    half_flag (by decide) (by omega), half_field (by omega) (by omega), half_toNat (by omega), twoBytes_low hheld htarget,
    twoBytes_high hheld htarget, half_toNat (by omega), twoBytes_low hcur hpend, twoBytes_high hcur hpend,
    half_field_zero (by omega) (by omega), rfl, rfl, rfl⟩

/-- The configuration record of a slot (12.5, R46). -/
theorem configRecord_layout (hok : SlotOk n i t) (hu : u.tableData = t.cfg.record (t.card.map Card.effFloor)) :
    ((u.read 0x28).extractLsb' 0 8).toNat = t.cfg.cls
    ∧ ((u.read 0x28).extractLsb' 8 8).toNat = t.cfg.floorOverride.getD 255 ∧ (u.read 0x29).toNat = t.cfg.cap
    ∧ ((u.read 0x2A).extractLsb' 0 8).toNat = t.cfg.admission
    ∧ ((u.read 0x2A).extractLsb' 8 8).toNat = t.cfg.lease
    ∧ ((u.read 0x2B).extractLsb' 0 8).toNat = t.cfg.settle
    ∧ ((u.read 0x2B).extractLsb' 8 8).toNat = t.cfg.discharge
    ∧ ((u.read 0x2C).extractLsb' 0 8).toNat = t.cfg.helloTimeout
    ∧ ((u.read 0x2C).extractLsb' 8 8).toNat = t.cfg.replyWindow
    ∧ ((u.read 0x2D).extractLsb' 0 8).toNat = t.cfg.reclaimWindow
    ∧ ((u.read 0x2D).extractLsb' 8 8).toNat = (t.card.map Card.effFloor).getD 255
    ∧ u.read 0x2E = 0 ∧ u.read 0x2F = 0 := by
  obtain ⟨r0, r1, r2, r3, r4, r5, r6, r7⟩ := read_latched hu
  rw [r0, r1, r2, r3, r4, r5, r6, r7]
  obtain ⟨hcls, hcap, hadm, hlease, hsettle, hdis, hhello, hreply, hrec, hover⟩ := (configFits_iff _).mp hok.cfg
  have hfloor : byteOr t.cfg.floorOverride < 256 := byteOr_lt fun k hk => by
    rw [hk, Option.getD_some] at hover
    omega
  have heff := hok.cardByte (f := Card.effFloor) fun _ hs => hs.effFloor
  exact ⟨twoBytes_low (by omega) hfloor, twoBytes_high (by omega) hfloor, half_toNat (by omega), twoBytes_low (by omega) (by omega),
    twoBytes_high (by omega) (by omega), twoBytes_low (by omega) (by omega), twoBytes_high (by omega) (by omega), twoBytes_low (by omega) (by omega),
    twoBytes_high (by omega) (by omega), twoBytes_low (by omega) heff, twoBytes_high (by omega) heff, rfl, rfl⟩

/-- The step table of a card (12.5). -/
theorem stepTable_layout (hs : CardShape c) (hu : u.tableData = c.record) :
    ((u.read 0x28).extractLsb' 12 3).toNat = c.count ∧ ((u.read 0x29).extractLsb' 12 3).toNat = c.declaredFloor
    ∧ ((u.read 0x2A).extractLsb' 12 3).toNat = c.effFloor ∧ ((u.read 0x2B).extractLsb' 12 3).toNat = c.usableTop
    ∧ (∀ k : Fin 6, ((u.tableData[k.val]).extractLsb' 0 12).toNat = min (c.draw k.val) 4095)
    ∧ u.read 0x2F ++ u.read 0x2E = c.cardId
    ∧ (∀ k : Fin 6, (u.tableData[k.val]).getLsbD 15 = false)
    ∧ (u.read 0x2C).extractLsb' 12 4 = 0 ∧ (u.read 0x2D).extractLsb' 12 4 = 0 := by
  obtain ⟨r0, r1, r2, r3, r4, r5, r6, r7⟩ := read_latched hu
  have hcount := hs.hi
  have hd (k : Nat) : c.draw12 k ≤ 4095 := Nat.min_le_right _ _
  have step {k : Nat} (hk : k < c.count) : k ≤ 7 := by omega
  have word (k : Fin 6) : ∃ m, m ≤ 7 ∧ u.tableData[k.val] = half (c.draw12 k.val + 4096 * m) := by
    rw [hu]
    fin_cases k
    · exact ⟨c.count, by omega, rfl⟩
    · exact ⟨c.declaredFloor, step hs.floor, rfl⟩
    · exact ⟨c.effFloor, step hs.effFloor, rfl⟩
    · exact ⟨c.usableTop, step hs.usableTop, rfl⟩
    · exact ⟨0, by decide, rfl⟩
    · exact ⟨0, by decide, rfl⟩
  rw [r0, r1, r2, r3, r4, r5, r6, r7]
  refine ⟨drawWord_figure (hd 0) (by omega), drawWord_figure (hd 1) (step hs.floor), drawWord_figure (hd 2) (step hs.effFloor),
    drawWord_figure (hd 3) (step hs.usableTop), fun k => ?_, cardId_halves _, fun k => ?_, draw_top (hd 4), draw_top (hd 5)⟩
  · obtain ⟨m, hm, hk⟩ := word k
    exact hk ▸ drawWord_draw (hd k) hm
  · obtain ⟨m, hm, hk⟩ := word k
    exact hk ▸ drawWord_top (hd k) hm

/-- A wait entry (12.5, R122). -/
theorem waitEntry_layout (h : Sound nobody s) (hm : e ∈ s.waitList) (hu : u.tableData = e.record) :
    ((u.read 0x28).extractLsb' 0 4).toNat = e.slot.val ∧ (u.read 0x28).getLsbD 4 = decide (e.kind ≠ .admission)
    ∧ ((u.read 0x28).extractLsb' 5 2).toNat = e.cls ∧ (u.read 0x28).getLsbD 8 = e.anchored
    ∧ (u.read 0x28).getLsbD 9 = e.beneficiary ∧ (u.read 0x2B).toNat = e.overtaken
    ∧ (∀ asked floor, e.kind = .step asked floor → (u.read 0x29).toNat = asked ∧ (u.read 0x2A).toNat = floor)
    ∧ (e.kind = .admission → u.read 0x29 = 0 ∧ u.read 0x2A = 0)
    ∧ (u.read 0x28).getLsbD 7 = false ∧ (u.read 0x28).extractLsb' 10 6 = 0
    ∧ u.read 0x2C = 0 ∧ u.read 0x2D = 0 ∧ u.read 0x2E = 0 ∧ u.read 0x2F = 0 := by
  obtain ⟨asked, floor, hrec, hstep, hadm⟩ := waitRecord_eq e
  obtain ⟨r0, r1, r2, r3, r4, r5, r6, r7⟩ := read_latched (hu.trans hrec)
  rw [r0, r1, r2, r3, r4, r5, r6, r7]
  have hh := h.holds e.slot id
  have hcls : e.cls ≤ 3 := (hh.entries e hm rfl).1 ▸ ((configFits_iff _).mp hh.ok.cfg).cls
  have hover := h.lists.overtaken e hm
  have hslot := e.slot.isLt
  have hkind := bit_le (decide (e.kind ≠ .admission))
  have hanch := bit_le e.anchored
  have hben := bit_le e.beneficiary
  refine ⟨half_field (by omega) (by omega), half_flag (by decide) (by omega), half_field (by omega) (by omega), half_flag (by decide) (by omega),
    half_flag (by decide) (by omega), half_toNat (by omega), fun a f hk => ?_, fun hk => ?_, half_flag (by decide) (by change _ = 0; omega),
    half_field_zero (by omega) (by omega), rfl, rfl, rfl, rfl⟩
  · obtain ⟨rfl, rfl⟩ := hstep a f hk
    obtain ⟨-, -, c, hc, -, h4, h5, -⟩ := hh.step hm rfl hk
    have := (hh.ok.cardShape hc).hi
    exact ⟨half_toNat (by omega), half_toNat (by omega)⟩
  · obtain ⟨rfl, rfl⟩ := hadm hk
    exact ⟨rfl, rfl⟩

/-- The episode header with the policy (12.5, R144). -/
theorem episodeHeader_layout (h : Sound nobody s) (hlimit : s.policy.limit ≤ 7) (hu : u.tableData = s.episodeHeader) :
    (u.read 0x28).toNat = (match s.episode.kind with
      | .none => 0
      | .preempt => 1
      | .overdraft => 2)
    ∧ (u.read 0x29).toNat = (s.episode.beneficiary.map Fin.val).getD 15 ∧ (u.read 0x2A).toNat = s.episode.target
    ∧ (u.read 0x2B).toNat = s.episode.expected ∧ ((u.read 0x2C).extractLsb' 0 8).toNat = s.episode.victims.length
    ∧ ((u.read 0x2C).extractLsb' 8 8).toNat = s.episode.cuts.length ∧ (u.read 0x2D).toNat = (if s.policy.mode = .fit then 0 else 1)
    ∧ (u.read 0x2E).toNat = s.policy.limit ∧ (u.read 0x2F).toNat = (if s.policy.preempt then 1 else 0) := by
  obtain ⟨r0, r1, r2, r3, r4, r5, r6, r7⟩ := read_latched hu
  rw [r0, r1, r2, r3, r4, r5, r6, r7]
  have htarget := h.lists.target
  have hexp := h.expected_le.trans h.formed.committed_le_max
  have hlen := h.shed_length
  refine ⟨?_, ?_, half_toNat (by omega), half_toNat (by omega), twoBytes_low (by omega) (by omega), twoBytes_high (by omega) (by omega), ?_,
    half_toNat (by omega), ?_⟩
  · cases s.episode.kind <;> rfl
  · cases s.episode.beneficiary with
    | none => rfl
    | some i => exact half_toNat (n := i.val) (by omega)
  · cases s.policy.mode <;> rfl
  · cases s.policy.preempt <;> rfl

end

/-- Settles O60: each snapshot latches its record, whose fields lie in their bits by the ranges that the invariant gives them. -/
theorem snapshotLayouts : Obligations.SnapshotLayouts := by
  refine ⟨⟨rfl, rfl, rfl, rfl⟩, fun s t index hs => ?_⟩
  obtain ⟨-, -, -, ⟨-, -, -, -, hlimit⟩, h⟩ := (blockInv_iff s).mp hs
  refine ⟨fun ht i h0 hi => ?_, fun ht i h0 hi => ?_, fun ht i c h1 hi hc => ?_, fun ht e h2 hi he => ?_, fun ht h3 hi => ?_⟩
  · exact liveRecord_layout (h.holds i id).ok (writeIndex_latches (selected_live h0 hi) (Host.Outcome.next.inj ht))
  · exact configRecord_layout (h.holds i id).ok (writeIndex_latches (selected_config h0 hi) (Host.Outcome.next.inj ht))
  · exact stepTable_layout ((h.holds i id).ok.cardShape hc) (writeIndex_latches (selected_steps h1 hi hc) (Host.Outcome.next.inj ht))
  · exact waitEntry_layout h (List.mem_of_getElem? he) (writeIndex_latches (selected_wait h2 hi he) (Host.Outcome.next.inj ht))
  · exact episodeHeader_layout h hlimit (writeIndex_latches (selected_header h3 hi) (Host.Outcome.next.inj ht))

end Sys2Proof.Proofs
end

/-! What a transmitter begins, and what is queued behind a frame on the line (O28 to O31). -/
section
namespace Sys2Proof.Proofs

open Machine Safety Laws

section
variable {s : State} {i : SlotId} {l : Link} {tag : BitVec 3} {o : Outstanding}

/-! The choice of the next frame, one equation for each of its cases (R67). -/

theorem pump_busy (hx : l.tx ≠ .idle) : l.pump = l := by simp [Link.pump, hx]

theorem pump_reply {r : Reply} (ha : l.asm ≠ .off) (hx : l.tx = .idle) (hr : l.replySlot = some (tag, r)) :
    l.pump = { l with tx := .reply tag r, replySlot := none } := by simp [Link.pump, ha, hx, hr]

theorem pump_retransmission (ha : l.asm ≠ .off) (hx : l.tx = .idle) (hr : l.replySlot = none) (ho : l.outstanding = some o) (hd : o.due = true) :
    l.pump = { l with tx := .message o.msg o.seq, outstanding := some { o with due := false } } := by simp [Link.pump, ha, hx, hr, ho, hd]

theorem pump_outstanding (hr : l.replySlot = none) (ho : l.outstanding = some o) (hd : o.due = false) : l.pump = l := by
  simp [Link.pump, hr, ho, hd]

theorem pump_head {m : Message} {rest : List Message} (ha : l.asm ≠ .off) (hx : l.tx = .idle) (hr : l.replySlot = none)
    (ho : l.outstanding = none) (hq : l.queue = m :: rest) :
    l.pump =
      { l with
        tx := .message m l.nextSeq, nextSeq := !l.nextSeq, queue := rest
        outstanding := some { msg := m, seq := l.nextSeq, retries := 0, window := none, due := false } } := by
  simp [Link.pump, ha, hx, hr, ho, hq]

theorem pump_empty (hr : l.replySlot = none) (ho : l.outstanding = none) (hq : l.queue = []) : l.pump = l := by simp [Link.pump, hr, ho, hq]

/-! A Link Engine in its place. -/

/-- The state with the Link Engine of slot i replaced. -/
def withLink (s : State) (i : SlotId) (l : Link) : State := withSlot s i { s.slot i with link := l }

theorem withLink_link (s : State) (i : SlotId) (l : Link) : ((withLink s i l).slot i).link = l := by rw [withLink, withSlot_slot]

theorem withLink_withLink (s : State) (i : SlotId) (l m : Link) : withLink (withLink s i l) i m = withLink s i m := by
  rw [withLink, withLink, withSlot_slot, withSlot_withSlot]
  rfl

theorem withLink_self (s : State) (i : SlotId) : withLink s i (s.slot i).link = s := withSlot_self s i

/-- The outcome in which nothing but the Link Engine of slot i has changed. -/
def nextWithLink (s : State) (i : SlotId) (l : Link) : Host.Outcome State Fault Refusal := .next (withLink s i l)

/-! ACK (R61). -/

/-- An ACK while the link is on, whatever the reply slot holds (R55, R61). -/
theorem exec_ack (ha : (s.slot i).link.asm ≠ .off) (seq : Bool) :
    exec (.ack i seq) s = nextWithLink s i (Link.acknowledge seq (hunting (s.slot i).link)) := by
  change Host.Outcome.next (s.takeAck i seq) = _
  rw [State.takeAck, if_neg ha, frameDone_eq ha, modLink_eq, frameEnded_slot, frameEnded, withSlot_withSlot]
  rfl

theorem acknowledge_none (ho : l.outstanding = none) (seq : Bool) : Link.acknowledge seq l = l := by simp [Link.acknowledge, ho]

theorem acknowledge_other (ho : l.outstanding = some o) {seq : Bool} (hs : o.seq ≠ seq) : Link.acknowledge seq l = l := by
  simp [Link.acknowledge, ho, hs]

theorem acknowledge_match (ho : l.outstanding = some o) {seq : Bool} (hs : o.seq = seq) :
    Link.acknowledge seq l = { l with outstanding := none }.pump := by simp [Link.acknowledge, ho, hs]

end

/-- Settles O28: an ACK is taken at the outstanding record, and an emptied record lets the transmitter choose again. -/
theorem acknowledgement : Obligations.Acknowledgement := by
  intro s i seq
  refine ⟨fun ha => ?_, fun ha ho => ?_, fun o ha ho l hl => ⟨fun hs => ?_, fun hs hq => ?_, fun m rest hs hx hr hq => ?_⟩⟩
  · exact congrArg Host.Outcome.next (if_pos ha)
  · exact (exec_ack ha seq).trans (congrArg (nextWithLink s i) (acknowledge_none (l := hunting (s.slot i).link) ho seq))
  all_goals
    have ho' : (hunting (s.slot i).link).outstanding = some o := ho
    subst hl
  · exact (exec_ack ha seq).trans (congrArg (nextWithLink s i) (acknowledge_other ho' hs))
  all_goals refine (exec_ack ha seq).trans (congrArg (nextWithLink s i) ((acknowledge_match ho' hs).trans ?_))
  · rcases hq with hx | ⟨hq, hr⟩
    · exact pump_busy hx
    · exact pump_empty hr rfl hq
  · exact pump_head nofun hx hr rfl hq

/-! FRAME_TRANSMITTED and REPLY_WINDOW_EXPIRY (R59, R60, R62). -/

section
variable {s : State} {i : SlotId} {l : Link} {o : Outstanding}

/-- The end of a frame on LTX: a free transmitter chooses again, over the link `l` in which the reply window of a sent message has
started. -/
theorem exec_frameTransmitted
    (hl : (∃ tag r, (s.slot i).link.tx = .reply tag r ∧ l = (s.slot i).link)
        ∨ (∃ m q, (s.slot i).link.tx = .message m q ∧
            l = { (s.slot i).link with
                  outstanding := (s.slot i).link.outstanding.map (fun o => { o with window := some (s.slot i).cfg.replyWindow }) })) :
    exec (.frameTransmitted i) s = nextWithLink s i { l with tx := .idle }.pump := by
  change Host.Outcome.next (s.modLink i (Link.sent (s.slot i).cfg.replyWindow)) = _
  rw [modLink_eq, Link.sent]
  obtain ⟨tag, r, hx, rfl⟩ | ⟨m, q, hx, rfl⟩ := hl
  · rw [hx]; rfl
  · rw [hx]; rfl

theorem replyEvent_expired (ho : (s.slot i).link.outstanding = some o) (hw : o.window = some 0) :
    s.replyEvent i = if o.retries < 3 then s.modLink i (Link.retry o) else s.cutIfPowered i .silent := by
  simp only [State.replyEvent, ho, hw]
  rfl

/-- One of the first three expiries makes a retransmission due (R60). -/
theorem exec_replyWindowExpiry_retry (ho : (s.slot i).link.outstanding = some o) (hw : o.window = some 0) (hn : o.retries < 3) :
    exec (.replyWindowExpiry i) s =
      nextWithLink s i { (s.slot i).link with outstanding := some { o with retries := o.retries + 1, window := none, due := true } }.pump := by
  change Host.Outcome.next (s.replyEvent i) = _
  rw [replyEvent_expired ho hw, if_pos hn]
  rfl

end

/-- Settles O29: the choice of the next frame in its order, in the link as the end of the frame leaves it. -/
theorem transmitterOrder : Obligations.TransmitterOrder := by
  intro s i l ha
  refine ⟨fun hx => ?_, fun hl => ⟨_, exec_frameTransmitted hl, fun tag r hr => ?_, fun o hr ho hd => ?_, fun o hr ho hd => ?_,
    fun m rest hr ho hq => ?_, fun hr ho hq => ?_⟩⟩
  · change Host.Outcome.next (s.modLink i (Link.sent (s.slot i).cfg.replyWindow)) = _
    rw [modLink_eq, Link.sent, hx]
    exact congrArg _ (withSlot_self s i)
  all_goals
    have hon : l.asm ≠ .off := by obtain ⟨_, _, _, rfl⟩ | ⟨_, _, _, rfl⟩ := hl <;> exact ha
  · exact pump_reply hon rfl hr
  · exact pump_retransmission hon rfl hr ho hd
  · exact pump_outstanding hr ho hd
  · exact pump_head hon rfl hr ho hq
  · exact pump_empty hr ho hq

/-- Settles O30: three expiries ask for a retransmission, which goes out when its turn comes; the fourth cuts the slot. -/
theorem replyWindowExpiry : Obligations.ReplyWindowExpiry := by
  intro s i o ha ho
  refine ⟨fun hw => ?_, fun hw hn hx => ?_, fun hw hn hx hr => ?_, fun hw hn hst => ?_⟩
  · exact congrArg Host.Outcome.next (replyEvent_quiet (by simpa [ho, Timer.due] using hw))
  · exact (exec_replyWindowExpiry_retry ho hw hn).trans (congrArg (nextWithLink s i) (pump_busy hx))
  · refine (exec_replyWindowExpiry_retry ho hw hn).trans (congrArg (nextWithLink s i) ?_)
    exact pump_retransmission (o := { o with retries := o.retries + 1, window := none, due := true }) ha hx hr rfl rfl
  · change Host.Outcome.next (s.replyEvent i) = _
    rw [replyEvent_expired ho hw, if_neg (Nat.not_lt.mpr hn), cutIfPowered_powered ((powered_iff _).mpr (.inr hst))]

/-! The transmit queue (R63 to R66). -/

section
variable {m x : Message} {front back q : List Message}

theorem joinTail_room (h : q.length < 4) (m : Message) : joinTail m q = q ++ [m] := by
  rw [joinTail, if_pos (show q.length < Config.txQueueSize from h)]

/-- In a full queue the oldest NOTICE gives way. -/
theorem joinTail_full (h : (front ++ x :: back).length = 4) (hx : x.isNotice = true) (hf : ∀ y ∈ front, y.isNotice = false) (m : Message) :
    joinTail m (front ++ x :: back) = front ++ back ++ [m] := by
  have hn : ¬ (front ++ x :: back).length < Config.txQueueSize := by rw [h]; decide
  rw [joinTail, if_neg hn, List.eraseP_append_right _ (by simpa using hf), List.eraseP_cons_of_pos hx]

theorem replaceOrJoin_absent {same : Message → Bool} (h : q.any same = false) (m : Message) : replaceOrJoin same m q = joinTail m q := by
  simp [replaceOrJoin, h]

/-- The one message of a kind that a queue holds is replaced in its place. -/
theorem replaceOrJoin_present {same : Message → Bool} (hq : ((front ++ x :: back).filter same).length ≤ 1) (hx : same x = true) (m : Message) :
    replaceOrJoin same m (front ++ x :: back) = front ++ m :: back := by
  rw [List.filter_append, List.filter_cons_of_pos hx, List.length_append, List.length_cons] at hq
  have keep {p : List Message} (hp : (p.filter same).length = 0) : p.map (fun y => if same y then m else y) = p := by
    have hno := List.filter_eq_nil_iff.mp (List.length_eq_zero_iff.mp hp)
    exact (List.map_congr_left fun y hy => if_neg (hno y hy)).trans (List.map_id p)
  have hfront : front.map (fun y => if same y then m else y) = front := keep (by omega)
  have hback : back.map (fun y => if same y then m else y) = back := keep (by omega)
  simp [replaceOrJoin, hx, hfront, hback]

end

section
variable {l : Link} (hx : l.tx ≠ .idle)
include hx

/-! Behind a busy transmitter a placement changes the queue alone. -/

theorem placeNotice_busy (k : NoticeKind) (v : Nat) : Link.placeNotice k v l = { l with queue := joinTail (.notice k v) l.queue } := pump_busy hx

theorem placeReclaim_busy (g w : Nat) :
    Link.placeReclaim g w l = { l with queue := replaceOrJoin Message.isReclaim (.reclaim g w) l.queue } := pump_busy hx

theorem placeAward_busy (g w : Nat) :
    Link.placeAward g w l = { l with queue := replaceOrJoin Message.isAward (.award g w) l.queue } := pump_busy hx

end

/-- Settles O31: each placement is its operation on the queue, which joins, replaces or lets a NOTICE give way, and keeps the queue's form. -/
theorem queuePlacement : Obligations.QueuePlacement := by
  intro l target window step lease value kind hx hq
  obtain ⟨-, hr1, ha1⟩ := (queueFits_iff _).mp hq
  rw [placeNotice_busy hx, placeReclaim_busy hx, placeAward_busy hx]
  refine ⟨fun hn => ?_, fun front k v back he hn hf => ?_, fun front g w back he => ?_, fun front g w back he => ?_, fun hno hn => ?_,
    fun hno hn => ?_, fun front k v back he hn hf => ⟨fun hno => ?_, fun hno => ?_⟩,
    queueFits_joinTail hq nofun nofun, queueFits_placeReclaim hq, queueFits_placeAward hq⟩
  · rw [joinTail_room hn]
  · rw [he] at hn ⊢
    rw [joinTail_full hn rfl hf]
  · rw [he] at hr1 ⊢
    rw [replaceOrJoin_present hr1 rfl]
  · rw [he] at ha1 ⊢
    rw [replaceOrJoin_present ha1 rfl]
  · rw [replaceOrJoin_absent hno, joinTail_room hn]
  · rw [replaceOrJoin_absent hno, joinTail_room hn]
  · rw [replaceOrJoin_absent hno, he, joinTail_full (he ▸ hn) rfl hf]
  · rw [replaceOrJoin_absent hno, he, joinTail_full (he ▸ hn) rfl hf]

end Sys2Proof.Proofs
end

/-! Frames on the line: the CRC, and that a card's frame is judged to be the row it was made from (O21, O22). -/
section
namespace Sys2Proof.Proofs

open Machine Safety Laws

/-! The CRC register (R50). -/

/-- One bit: the register shifts left, and takes 0x07 when the bit shifted out differs from the data bit. -/
theorem crcBit_eq (reg : Byte) (bit : Bool) : crcBit reg bit = (reg <<< 1) ^^^ (if reg.getLsbD 7 = bit then 0x00 else 0x07) := by
  have hm : reg.msb = reg.getLsbD 7 := rfl
  rw [crcBit, hm]
  generalize reg.getLsbD 7 = top
  cases top <;> cases bit <;> simp

/-- One byte: its bits from the most significant down. -/
theorem crcByte_eq (reg b : Byte) : crcByte reg b =
    List.foldl (fun (r : Byte) k => (r <<< 1) ^^^ (if r.getLsbD 7 = b.getLsbD (7 - k) then 0x00 else 0x07)) reg (List.range 8) := by
  have hk : [7, 6, 5, 4, 3, 2, 1, 0] = (List.range 8).map (fun k => 7 - k) := rfl
  rw [crcByte, hk, List.foldl_map]
  simp only [crcBit_eq]

theorem crc8_concat (bytes : List Byte) (b : Byte) : crc8 (bytes ++ [b]) = crcByte (crc8 bytes) b := by
  rw [crc8, List.foldl_append]
  rfl

/-- The check value of the CRC, over the digits 1 to 9 in ASCII, with the register after each. -/
theorem crc8_digits : crc8 [0x31, 0x32, 0x33, 0x34, 0x35, 0x36, 0x37, 0x38, 0x39] = 0xF4 := by
  have h1 : crcByte 0x00 0x31 = 0x97 := by decide
  have h2 : crcByte 0x97 0x32 = 0x72 := by decide
  have h3 : crcByte 0x72 0x33 = 0xC0 := by decide
  have h4 : crcByte 0xC0 0x34 = 0xC2 := by decide
  have h5 : crcByte 0xC2 0x35 = 0xCB := by decide
  have h6 : crcByte 0xCB 0x36 = 0xFD := by decide
  have h7 : crcByte 0xFD 0x37 = 0x78 := by decide
  have h8 : crcByte 0x78 0x38 = 0xC7 := by decide
  have h9 : crcByte 0xC7 0x39 = 0xF4 := by decide
  simp only [crc8, List.foldl_cons, List.foldl_nil, h1, h2, h3, h4, h5, h6, h7, h8, h9]

/-- A frame is SYNC, what the CRC covers, and the CRC. -/
theorem frameBytes_covered (kind ctl : Byte) (payload : List Byte) : ∃ covered, frameBytes kind ctl payload = 0xC3 :: (covered ++ [crc8 covered]) :=
  ⟨_, rfl⟩

/-! The judgement of a frame, by the checks in their order (R53, R54). -/

section
variable {i : SlotId} {f : RxFrame} {k : LinkKind}

theorem frameCommand_discarded (h : passesChecks f = false) : frameCommand i f = .linkFrameDiscarded i f := by
  unfold frameCommand
  split
  · rfl
  · simp [h]

theorem frameCommand_malformed (hk : linkKindOf f.kind = some k) (hp : passesChecks f = true) (hl : lengthSuits k f.payload = false) :
    frameCommand i f = .malformed i k (f.ctl.setWidth 3) f.payload := by
  simp [frameCommand, hk, hp, hl]

/-- The row of a message of a suitable length, from its kind, TAG, SEQ and payload (R51). -/
def messageRow (i : SlotId) (tag : BitVec 3) (seq : Bool) (payload : List Byte) : LinkKind → Instr
  | .hello => .hello i tag (wordOf payload) (payload.getD 5 0) (pairs (payload.drop 6))
  | .ask => .ask i tag (payload.getD 0 0) (payload.getD 1 0) (payload.getD 2 0)
  | .yield => .yield i tag (payload.getD 0 0)
  | .withdraw => .withdraw i tag
  | .renew => .renew i tag
  | .confirm => .confirm i tag (payload.getD 0 0)
  | .ack => .ack i seq

theorem frameCommand_message (hk : linkKindOf f.kind = some k) (hp : passesChecks f = true) (hl : lengthSuits k f.payload = true) :
    frameCommand i f = messageRow i (f.ctl.setWidth 3) (f.ctl.getLsbD 3) f.payload k := by
  simp only [frameCommand, hk, hp, hl]
  cases k <;> rfl

end

/-- Settles O21: bit by bit by `crcBit_eq`; every sent frame is built by `frameBytes`; a wrong CRC fails the checks. -/
theorem crcRule : Obligations.CrcRule := by
  refine ⟨rfl, fun bytes b => ?_, crc8_digits, by decide, fun tx htx => ?_, fun i f hf => ?_⟩
  · rw [crc8_concat, crcByte_eq]
  · cases tx with
    | idle => exact absurd rfl htx
    | reply tag r => exact frameBytes_covered _ _ _
    | message m seq => exact frameBytes_covered _ _ _
  · refine frameCommand_discarded ?_
    simp [passesChecks, Ne.symm hf]

/-! The fields of a frame, encoded and decoded (12.1). -/

theorem linkKindOf_linkKindCode (k : LinkKind) : linkKindOf (linkKindCode k) = some k := by cases k <;> rfl

theorem ctlByte_tag (tag : BitVec 3) (seq : Bool) : (ctlByte tag seq).setWidth 3 = tag := by revert tag seq; decide
theorem ctlByte_seq (tag : BitVec 3) (seq : Bool) : (ctlByte tag seq).getLsbD 3 = seq := by revert tag seq; decide
theorem ctlByte_reserved (tag : BitVec 3) (seq : Bool) : ctlByte tag seq >>> 4 = 0 := by revert tag seq; decide

/-- Bit m of the byte that starts at bit k of a word. -/
theorem getLsbD_byte {v : Nat} (w : BitVec v) {k m n : Nat} (hn : k + m = n) (hm : m < 8) : (decide (m < 8) && w.getLsbD (k + m)) = w.getLsbD n := by
  simp [hn, hm]

theorem wordOf_idBytes (w : BitVec 32) (rest : List Byte) : wordOf (idBytes w ++ rest) = w := by
  change (((w >>> 24).setWidth 8 ++ (w >>> 16).setWidth 8 : BitVec 16) ++ (w >>> 8).setWidth 8 : BitVec 24) ++ w.setWidth 8 = w
  refine BitVec.eq_of_getLsbD_eq fun n hn => ?_
  simp only [BitVec.getLsbD_append, BitVec.getLsbD_setWidth, BitVec.getLsbD_ushiftRight]
  split_ifs with h8
  · simp [h8]
  all_goals exact getLsbD_byte w (by omega) (by omega)

theorem halfBytes_joined (h : Half) : ((h >>> 8).setWidth 8 ++ h.setWidth 8 : BitVec 16) = h := by
  refine BitVec.eq_of_getLsbD_eq fun n hn => ?_
  simp only [BitVec.getLsbD_append, BitVec.getLsbD_setWidth, BitVec.getLsbD_ushiftRight]
  split_ifs with h8
  · simp [h8]
  · exact getLsbD_byte h (by omega) (by omega)

theorem pairs_halfBytes (l : List Half) : pairs (l.flatMap halfBytes) = l := by
  induction l with
  | nil => rfl
  | cons h l ih => exact congrArg₂ List.cons (halfBytes_joined h) ih

theorem length_halfBytes (l : List Half) : (l.flatMap halfBytes).length = 2 * l.length := by
  simp [List.length_flatMap, halfBytes, Nat.mul_comm]

section
variable {i : SlotId} {k : LinkKind} {tag : BitVec 3} {seq : Bool} {payload : List Byte}

theorem passesChecks_sealFrame : passesChecks (sealFrame (linkKindCode k) (ctlByte tag seq) payload) = true := by
  simp [passesChecks, sealFrame, ctlByte_reserved, linkKindOf_linkKindCode]

/-- A sealed frame of a suitable length is the row of its kind, TAG, SEQ and payload. -/
theorem frameCommand_sealFrame (hl : lengthSuits k payload = true) :
    frameCommand i (sealFrame (linkKindCode k) (ctlByte tag seq) payload) = messageRow i tag seq payload k := by
  rw [frameCommand_message (linkKindOf_linkKindCode k) passesChecks_sealFrame hl]
  change messageRow i ((ctlByte tag seq).setWidth 3) ((ctlByte tag seq).getLsbD 3) payload k = _
  rw [ctlByte_tag, ctlByte_seq]

theorem frameCommand_sealFrame_malformed (hl : lengthSuits k payload = false) :
    frameCommand i (sealFrame (linkKindCode k) (ctlByte tag seq) payload) = .malformed i k tag payload := by
  rw [frameCommand_malformed (linkKindOf_linkKindCode k) passesChecks_sealFrame hl]
  exact congrArg (Instr.malformed i k · payload) (ctlByte_tag tag seq)

end

/-- The payload of a HELLO whose draws fit a frame has the length its step count asks for (R51, R54). -/
theorem lengthSuits_hello {cardId : BitVec 32} {floor : Byte} {draws : List Half} (hd : draws.length ≤ 7) :
    lengthSuits .hello (idBytes cardId ++ [BitVec.ofNat 8 draws.length, floor] ++ draws.flatMap halfBytes) = true := by
  have hc : (BitVec.ofNat 8 draws.length).toNat = draws.length := by rw [BitVec.toNat_ofNat]; omega
  have hlen : (idBytes cardId ++ [BitVec.ofNat 8 draws.length, floor] ++ draws.flatMap halfBytes).length = 6 + 2 * draws.length := by
    rw [List.length_append, length_halfBytes]
    rfl
  have hcount : (idBytes cardId ++ [BitVec.ofNat 8 draws.length, floor] ++ draws.flatMap halfBytes).getD 4 0 = BitVec.ofNat 8 draws.length := rfl
  simp only [lengthSuits, hlen, hcount, hc]
  simp

/-- Settles O22: the payload of each row suits its kind, so that the frame is judged by the fields it was sealed with. -/
theorem cardFramesDecodeToTheirRows : Obligations.CardFramesDecodeToTheirRows := by
  intro c f hw hf
  cases c with
  | linkFrameDiscarded i frame =>
    obtain rfl := Option.some.inj hf
    simp only [WellFormed, Bool.and_eq_true, Bool.not_eq_true'] at hw
    exact ⟨i, frameCommand_discarded hw.2⟩
  | malformed i kind tag payload =>
    obtain rfl := Option.some.inj hf
    simp only [WellFormed, Bool.and_eq_true, Bool.not_eq_true'] at hw
    exact ⟨i, frameCommand_sealFrame_malformed hw.2⟩
  | hello i tag cardId floor draws =>
    obtain rfl := Option.some.inj hf
    have hd : draws.length ≤ 7 := by
      have := of_decide_eq_true hw
      simp only [Config.maxLen] at this
      omega
    refine ⟨i, (frameCommand_sealFrame (k := .hello) (lengthSuits_hello hd)).trans ?_⟩
    change Instr.hello i tag (wordOf (idBytes cardId ++ [_, floor] ++ draws.flatMap halfBytes)) floor (pairs (draws.flatMap halfBytes)) = _
    rw [List.append_assoc, wordOf_idBytes, pairs_halfBytes]
  | ask i tag asked floor flags => exact ⟨i, Option.some.inj hf ▸ frameCommand_sealFrame (k := .ask) rfl⟩
  | yield i tag target => exact ⟨i, Option.some.inj hf ▸ frameCommand_sealFrame (k := .yield) rfl⟩
  | withdraw i tag => exact ⟨i, Option.some.inj hf ▸ frameCommand_sealFrame (k := .withdraw) rfl⟩
  | renew i tag => exact ⟨i, Option.some.inj hf ▸ frameCommand_sealFrame (k := .renew) rfl⟩
  | confirm i tag target => exact ⟨i, Option.some.inj hf ▸ frameCommand_sealFrame (k := .confirm) rfl⟩
  | ack i seq => exact ⟨i, Option.some.inj hf ▸ frameCommand_sealFrame (k := .ack) rfl⟩
  | _ => cases hf

end Sys2Proof.Proofs
end

/-! The receive assembler: what a byte does, the bytes of a whole frame, and frames that leave no trace (O23, O24). -/
section
namespace Sys2Proof.Proofs

open Machine Safety Laws

section
variable {s : State} {i : SlotId} {l : Link} {a : Assembler} {b : Byte} {f : RxFrame}

/-- The state with the assembler of slot i inside a frame, and its gap timer started afresh (R48, R49). -/
def assembling (s : State) (i : SlotId) (a : Assembler) : State := withLink s i { (s.slot i).link with asm := a, gap := some 2 }

@[simp] theorem assembling_link : ((assembling s i a).slot i).link = { (s.slot i).link with asm := a, gap := some 2 } := withLink_link _ _ _

theorem assembling_assembling (s : State) (i : SlotId) (a b : Assembler) : assembling (assembling s i a) i b = assembling s i b := by
  rw [assembling, assembling_link]
  exact withLink_withLink _ _ _ _

theorem assembling_frameEnded (s : State) (i : SlotId) (a : Assembler) : assembling (frameEnded s i) i a = assembling s i a := by
  rw [assembling, frameEnded_slot]
  exact withLink_withLink s i (hunting (s.slot i).link) _

theorem assembling_self (ha : (s.slot i).link.asm = a) (hg : (s.slot i).link.gap = some 2) : assembling s i a = s := by
  subst ha
  rw [assembling, ← hg]
  exact withLink_self s i

theorem frameEnded_assembling (s : State) (i : SlotId) (a : Assembler) : frameEnded (assembling s i a) i = frameEnded s i := by
  have hl : hunting ((assembling s i a).slot i).link = hunting (s.slot i).link := by rw [assembling_link]; rfl
  change withLink (assembling s i a) i (hunting ((assembling s i a).slot i).link) = _
  rw [hl]
  exact withLink_withLink _ _ _ _

theorem frameEnded_self (ha : (s.slot i).link.asm = .hunt) (hg : (s.slot i).link.gap = none) : frameEnded s i = s := by
  have hl : hunting (s.slot i).link = (s.slot i).link := by rw [hunting, ← ha, ← hg]
  exact (congrArg (withLink s i) hl).trans (withLink_self s i)

/-! One byte, received before the gap timer has expired (R48, R49). -/

/-- A byte that completes no frame moves the assembler alone. -/
theorem receive_unfinished (hg : (s.slot i).link.gap ≠ some 0) (hr : receiveByte (s.slot i).link.asm b = (a, none)) :
    s.receive i b = withLink s i (Link.afterByte a (s.slot i).link) := by
  simp only [State.receive, gapEvent_running hg, hr]
  rfl

theorem receive_stored (hg : (s.slot i).link.gap ≠ some 0) (hr : receiveByte (s.slot i).link.asm b = (a, none)) (ha : a.busy = true) :
    s.receive i b = assembling s i a := by
  rw [receive_unfinished hg hr, Link.afterByte, if_pos ha]
  rfl

/-- The byte that completes a frame ends it and hands it on. -/
theorem receive_finished (hg : (s.slot i).link.gap ≠ some 0) (hr : receiveByte (s.slot i).link.asm b = (.hunt, some f)) :
    s.receive i b = (frameEnded s i).takeFrame i f := by
  simp only [State.receive, gapEvent_running hg, hr]
  rfl

/-- SYNC begins a frame in HUNT. -/
theorem receive_sync (ha : (s.slot i).link.asm = .hunt) (hg : (s.slot i).link.gap ≠ some 0) : s.receive i 0xC3 = assembling s i .length :=
  receive_stored hg (by rw [ha]; rfl) rfl

/-- SYNC after the gap timer has expired begins a frame in every phase but OFF. -/
theorem receive_sync_expired (ha : (s.slot i).link.asm ≠ .off) (hg : (s.slot i).link.gap = some 0) : s.receive i 0xC3 = assembling s i .length := by
  rw [receive_expired _ ha hg, receive_sync (by rw [frameEnded_slot]; rfl) (by rw [frameEnded_slot]; exact nofun), assembling_frameEnded]

/-- A LEN of at most 20 begins the body. -/
theorem receive_length (ha : (s.slot i).link.asm = .length) (hg : (s.slot i).link.gap ≠ some 0) (hb : b.toNat ≤ 20) :
    s.receive i b = assembling s i (.body b.toNat []) :=
  receive_stored hg (by rw [ha]; exact if_neg (Nat.not_lt.mpr hb)) rfl

/-- A LEN above 20 abandons the frame. -/
theorem receive_badLength (ha : (s.slot i).link.asm = .length) (hg : (s.slot i).link.gap ≠ some 0) (hb : 20 < b.toNat) :
    s.receive i b = frameEnded s i :=
  receive_unfinished (a := .hunt) hg (by rw [ha]; exact if_pos hb)

/-- A byte inside the body is stored. -/
theorem receive_body {len : Nat} {bytes : List Byte} (ha : (s.slot i).link.asm = .body len bytes) (hg : (s.slot i).link.gap ≠ some 0)
    (hn : bytes.length + 1 < len + 3) : s.receive i b = assembling s i (.body len (bytes ++ [b])) :=
  receive_stored hg (by rw [ha]; exact if_pos (by simpa using hn)) rfl

/-! The bytes of a whole frame (R48). -/

/-- The bytes of a body are stored one after another. -/
theorem receiveAll_body {len : Nat} (stored rest : List Byte) {bytes : List Byte} (ha : (s.slot i).link.asm = .body len bytes)
    (hg : (s.slot i).link.gap = some 2) (hn : bytes.length + stored.length < len + 3) :
    receiveAll i (stored ++ rest) s = receiveAll i rest (assembling s i (.body len (bytes ++ stored))) := by
  induction stored generalizing s bytes with
  | nil => rw [List.append_nil, assembling_self ha hg, List.nil_append]
  | cons b stored ih =>
    rw [List.length_cons] at hn
    have hlen : (bytes ++ [b]).length + stored.length < len + 3 := by rw [List.length_append, List.length_singleton]; omega
    rw [List.cons_append, receiveAll, receive_body ha (by simp [hg]) (by omega), ih (by simp) (by simp) hlen, assembling_assembling,
      List.append_assoc]
    rfl

/-- The last byte of a body is the CRC. -/
theorem receiveByte_last (kind ctl crc : Byte) (payload : List Byte) :
    receiveByte (.body payload.length (kind :: ctl :: payload)) crc = (.hunt, some { kind := kind, ctl := ctl, payload := payload, crc := crc }) := by
  have hfull : ¬ (kind :: ctl :: payload ++ [crc]).length < payload.length + 3 := by simp
  exact (if_neg hfull).trans (by simp)

/-- The bytes of a whole frame, received in HUNT, are that frame. -/
theorem receiveAll_frame (ha : (s.slot i).link.asm = .hunt) (hg : (s.slot i).link.gap = none) (hf : f.payload.length ≤ 20) :
    receiveAll i (0xC3 :: BitVec.ofNat 8 f.payload.length :: f.kind :: f.ctl :: (f.payload ++ [f.crc])) s = s.takeFrame i f := by
  have hlen : (BitVec.ofNat 8 f.payload.length).toNat = f.payload.length := by rw [BitVec.toNat_ofNat]; omega
  have hbody : ([] : List Byte).length + (f.kind :: f.ctl :: f.payload).length < f.payload.length + 3 := by simp
  calc receiveAll i (0xC3 :: BitVec.ofNat 8 f.payload.length :: f.kind :: f.ctl :: (f.payload ++ [f.crc])) s
    _ = receiveAll i (BitVec.ofNat 8 f.payload.length :: f.kind :: f.ctl :: (f.payload ++ [f.crc])) (assembling s i .length) := by
      rw [receiveAll, receive_sync ha (by simp [hg])]
    _ = receiveAll i ((f.kind :: f.ctl :: f.payload) ++ [f.crc]) (assembling s i (.body f.payload.length [])) := by
      rw [receiveAll, receive_length (by simp) (by simp) (by omega), assembling_assembling, hlen]
      rfl
    _ = receiveAll i [f.crc] (assembling s i (.body f.payload.length (f.kind :: f.ctl :: f.payload))) := by
      rw [receiveAll_body _ [f.crc] (by simp) (by simp) hbody, assembling_assembling]
      rfl
    _ = s.takeFrame i f := by
      rw [receiveAll, receive_finished (f := f) (by simp) (by rw [assembling_link]; exact receiveByte_last _ _ _ _), frameEnded_assembling,
        frameEnded_self ha hg]
      rfl

end

/-- Settles O23: a whole frame is taken as the row it is judged to be, and a bad LEN ends where SYNC began. -/
theorem bytesActAsTheirFrame : Obligations.BytesActAsTheirFrame := by
  intro s i f ha hg
  refine ⟨fun hf => ?_, fun len hlen => ?_⟩
  · rw [exec_frameCommand]
    exact congrArg Host.Outcome.next (receiveAll_frame ha hg hf)
  · refine congrArg Host.Outcome.next (?_ : receiveAll i [0xC3, len] s = s)
    rw [receiveAll, receive_sync ha (by simp [hg]), receiveAll, receive_badLength (by simp) (by simp) hlen, frameEnded_assembling,
      frameEnded_self ha hg]
    rfl

/-! Frames that leave no trace (R48, R49, R53). -/

section
variable {s : State} {i : SlotId}

theorem frameDone_off (h : (s.slot i).link.asm = .off) : s.frameDone i = s := by
  rw [State.frameDone, modLink_eq, Link.rehunt, if_pos h]
  exact withSlot_self s i

theorem exec_frameAbandoned {cause : AbandonCause} (hon : (s.slot i).link.asm ≠ .off) (h : abandons (s.slot i).link.asm cause = true) :
    exec (.frameAbandoned i cause) s = .next (frameEnded s i) := congrArg Host.Outcome.next ((if_pos h).trans (frameDone_eq hon))

theorem exec_frameAbandoned_ignored {cause : AbandonCause} (h : abandons (s.slot i).link.asm cause = false) :
    exec (.frameAbandoned i cause) s = .next s := congrArg Host.Outcome.next (if_neg (by simp [h]))

theorem exec_linkFrameDiscarded {f : RxFrame} (h : passesChecks f = false) : exec (.linkFrameDiscarded i f) s = .next (s.frameDone i) :=
  congrArg Host.Outcome.next (if_neg (by simp [h]))

end

/-- Settles O24: a frame that ends, however it ends, leaves the assembler in HUNT; a SYNC byte by the phase in which it is received. -/
theorem assemblerEvents : Obligations.AssemblerEvents := by
  refine ⟨fun s i u hu => ⟨fun ha hg => ?_, fun hg => ?_, fun len ha hlen => ?_, fun ha => ?_, fun cause ha => ?_, fun f hf ha => ?_,
      fun f ha => ?_⟩,
    fun s i => ⟨fun ha hg => ?_, fun ha => ?_, fun ha hg => ?_, fun ha hg => ?_, fun len bytes ha hn hg => ?_⟩⟩
  · rw [hu]
    exact congrArg Host.Outcome.next (gapEvent_expired ha hg)
  · exact congrArg Host.Outcome.next (gapEvent_running hg)
  · rw [hu]
    exact exec_frameAbandoned (by simp [ha]) (by rw [ha]; exact decide_eq_true hlen)
  · have hb : (s.slot i).link.asm ≠ .off ∧ (s.slot i).link.asm.busy = true := by
      rcases ha with ha | ⟨n, b, ha⟩ <;> rw [ha] <;> exact ⟨nofun, rfl⟩
    rw [hu]
    exact exec_frameAbandoned hb.1 hb.2
  · refine exec_frameAbandoned_ignored ?_
    rcases ha with ha | ha <;> cases cause <;> simp [abandons, ha, Assembler.busy]
  · rw [exec_linkFrameDiscarded hf, frameDone_eq ha, hu]
    rfl
  · cases hf : passesChecks f with
    | true => exact congrArg Host.Outcome.next (if_pos hf)
    | false => rw [exec_linkFrameDiscarded hf, frameDone_off ha]
  · refine congrArg Host.Outcome.next (?_ : s.receive i 0xC3 = s)
    rw [receive_unfinished (a := .off) (by simp [hg]) (by rw [ha]; rfl), ← ha, Link.afterByte, if_neg (by simp [ha, Assembler.busy]), ← hg]
    exact withLink_self s i
  · by_cases hg : (s.slot i).link.gap = some 0
    · exact congrArg Host.Outcome.next (receive_sync_expired (by simp [ha]) hg)
    · exact congrArg Host.Outcome.next (receive_sync ha hg)
  · exact congrArg Host.Outcome.next (receive_sync_expired ha hg)
  · exact congrArg Host.Outcome.next (receive_badLength ha hg (by decide))
  · exact congrArg Host.Outcome.next (receive_body ha hg hn)

end Sys2Proof.Proofs
end

/-! Requests that are lost, repeated, malformed or refused (O25, O26, O32, O34, O36). -/
section
namespace Sys2Proof.Proofs

open Machine Safety Laws

section
variable {s : State} {i : SlotId} {c : Instr} {kind : LinkKind} {tag : BitVec 3}

/-! A request that is not handed on (R48, R55, R56). -/

/-- A request passes the duplicate check of its kind and tag before anything else is made of it. -/
theorem exec_request (h : requestOf c = some (i, kind, tag)) : ∃ act, ∀ s, exec c s = .next (s.takeRequest i kind tag act) := by
  cases c with
  | hello | ask | yield | withdraw | renew | confirm =>
    cases h
    exact ⟨_, fun _ => rfl⟩
  | _ => cases h

/-- A request other than HELLO is judged by the Slot Controller's state (R83). -/
theorem exec_request_whenActive (h : requestOf c = some (i, kind, tag)) (hk : kind ≠ .hello) :
    ∃ act : State → Card → State, ∀ s, exec c s = .next (s.takeRequest i kind tag fun u => u.whenActive i kind tag (act u)) := by
  cases c with
  | hello =>
    cases h
    exact absurd rfl hk
  | ask | yield | withdraw | renew | confirm =>
    cases h
    exact ⟨_, fun _ => rfl⟩
  | _ => cases h

theorem takeRequest_off (h : (s.slot i).link.asm = .off) (act : State → State) : s.takeRequest i kind tag act = s := if_pos h

theorem takeRequest_occupied (h : (s.slot i).link.asm ≠ .off) (hr : (s.slot i).link.replySlot ≠ none) (act : State → State) :
    s.takeRequest i kind tag act = frameEnded s i := by
  unfold State.takeRequest
  rw [if_neg h, frameDone_eq h]
  exact if_pos (by rw [frameEnded_slot]; exact Option.isSome_iff_ne_none.mpr hr)

/-- A repeated request draws its reply from the cache (R56). -/
theorem takeRequest_repeated {reply : Reply} (h : (s.slot i).link.asm ≠ .off) (hr : (s.slot i).link.replySlot = none)
    (hc : (s.slot i).link.cache = some { kind := kind, tag := tag, reply := reply }) (act : State → State) :
    s.takeRequest i kind tag act = withLink s i (Link.placeReply tag reply (hunting (s.slot i).link)) := by
  unfold State.takeRequest
  rw [if_neg h, frameDone_eq h]
  simp only [frameEnded_slot, hunting, hr, hc, modLink_eq]
  exact withSlot_withSlot _ _ _ _

/-- The answer to a request whose frame has ended. -/
theorem answer_frameEnded (s : State) (i : SlotId) (kind : LinkKind) (tag : BitVec 3) (r : Reply) :
    (frameEnded s i).answer i kind tag r = withLink s i (replied kind tag r (s.slot i).link) := by
  rw [answer_eq, frameEnded_slot, frameEnded, withSlot_withSlot]
  rfl

/-- A new HELLO is judged by the Slot Controller (R69). -/
theorem exec_hello (hn : TakesNew s i .hello tag) (cardId : BitVec 32) (floor : Byte) (draws : List Half) :
    exec (.hello i tag cardId floor draws) s = .next ((frameEnded s i).newHello i tag cardId floor.toNat (draws.map BitVec.toNat)) := by
  change Host.Outcome.next (s.takeHello i tag cardId floor draws) = _
  rw [State.takeHello, takeRequest_new hn]

theorem newHello_active (h : (s.slot i).state = .active) (cardId : BitVec 32) (floor : Nat) (d : List Nat) :
    (frameEnded s i).newHello i tag cardId floor d = (frameEnded s i).helloInActive i tag cardId floor d := by
  unfold State.newHello
  exact if_pos (by rw [frameEnded_slot]; exact h)

end

/-- Settles O26: the three ends of a request that is not new, and the WELCOME first composed for the welcomed HELLO. -/
theorem lostAndRepeatedRequests : Obligations.LostAndRepeatedRequests := by
  refine ⟨fun s c i kind tag hreq => ?_, fun s i tag cardId floor draws c hn hc htag hid hfloor hdraws => ?_⟩
  · obtain ⟨act, hact⟩ := exec_request hreq
    rw [hact]
    exact ⟨fun h => congrArg _ (takeRequest_off h act), fun h hr => congrArg _ (takeRequest_occupied h hr act),
      fun reply h hr hcache => congrArg _ (takeRequest_repeated h hr hcache act)⟩
  · have hcard : ((frameEnded s i).slot i).card = some c := by rw [frameEnded_slot]; exact hc.2
    rw [exec_hello hn, newHello_active hc.1, ← htag, ← hid, ← hfloor, ← hdraws, helloInActive_repeated hcard, answer_frameEnded]
    rfl

/-! MALFORMED (R54, R55). -/

section
variable {s : State} {i : SlotId} {kind : LinkKind} {tag : BitVec 3} {payload : List Byte}

theorem exec_malformed (hl : lengthSuits kind payload = false) : exec (.malformed i kind tag payload) s = .next (s.takeMalformed i kind tag) :=
  congrArg Host.Outcome.next (if_neg (by simp [hl]))

theorem takeMalformed_lost (ha : (s.slot i).link.asm ≠ .off) (h : kind = .ack ∨ (s.slot i).link.replySlot ≠ none) :
    s.takeMalformed i kind tag = frameEnded s i := by
  unfold State.takeMalformed
  rw [if_neg ha, frameDone_eq ha]
  exact if_pos (by rw [frameEnded_slot]; exact h.imp_right Option.isSome_iff_ne_none.mpr)

theorem takeMalformed_answered (ha : (s.slot i).link.asm ≠ .off) (hk : kind ≠ .ack) (hr : (s.slot i).link.replySlot = none) :
    s.takeMalformed i kind tag = (withLink s i (Link.placeReply tag (.refuse .malformed) (hunting (s.slot i).link))).report .refused i 6
      (linkKindCode kind).toNat 0 := by
  have hno : ¬ (kind = .ack ∨ ((frameEnded s i).slot i).link.replySlot.isSome = true) := by
    rw [frameEnded_slot]
    simp [hunting, hk, hr]
  unfold State.takeMalformed
  rw [if_neg ha, frameDone_eq ha]
  refine (if_neg hno).trans ?_
  rw [modLink_eq, frameEnded_slot, frameEnded, withSlot_withSlot]
  rfl

theorem pump_cache (l : Link) : l.pump.cache = l.cache := by
  unfold Link.pump
  repeat' split
  all_goals rfl

end

/-- Settles O25: a malformed request is lost behind a waiting reply, and otherwise answered past the cache. -/
theorem malformedRequests : Obligations.MalformedRequests := by
  intro s i kind tag payload hl ha
  rw [exec_malformed hl]
  exact ⟨fun hk hr => ⟨congrArg _ (takeMalformed_answered ha hk hr), pump_cache _⟩, fun h => congrArg _ (takeMalformed_lost ha h)⟩

/-! What is kept of requests refused before the declaration (R83). -/

/-- NOT_DECLARED adds its request, any other reply takes out those of its kind. -/
theorem mem_noteUndeclared (kind : LinkKind) (tag : BitVec 3) (r : Reply) (l : List (LinkKind × BitVec 3)) (p : LinkKind × BitVec 3) :
    p ∈ noteUndeclared kind tag r l ↔ if r = .refuse .notDeclared then p ∈ l ∨ p = (kind, tag) else p ∈ l ∧ p.1 ≠ kind := by
  unfold noteUndeclared
  split
  · split
    · rename_i hin
      exact ⟨.inl, fun h => h.elim id fun hp => hp ▸ hin⟩
    · rw [List.mem_append, List.mem_singleton]
  · rw [List.mem_filter, decide_eq_true_iff]

/-- Settles O32: the Slot Controller refuses without acting, and the replies keep the list by which it does. -/
theorem requestsBeforeDeclaration : Obligations.RequestsBeforeDeclaration := by
  intro s c i kind tag hreq hk hn
  obtain ⟨act, hact⟩ := exec_request_whenActive hreq hk
  refine ⟨fun h => ?_, fun reply p => ?_⟩
  · rw [hact, takeRequest_new hn, whenActive_refused h]
  · rw [Link.answer_undeclared]
    exact mem_noteUndeclared _ _ _ _ _

/-! A new HELLO that is refused (R70 to R73). -/

section
variable {s : State} {i : SlotId} {tag : BitVec 3} {cardId : BitVec 32} {floor : Nat} {d : List Nat}

/-- The checks of a new HELLO in their order (R70 to R73). -/
theorem newHello_inactive (hst : (s.slot i).state ≠ .active) :
    (frameEnded s i).newHello i tag cardId floor d =
      if shapeOk floor d = false then refused s i .hello tag .badDeclaration
      else if (s.slot i).cfg.cap < d.getD 0 0 then refused s i .hello tag .overCap
      else if (s.slot i).charge < d.getD 0 0 ∧ (s.episode.kind ≠ .none ∨ ¬ Fits s i (d.getD 0 0)) then refused s i .hello tag .noBudget
      else (frameEnded s i).acceptHello i tag cardId floor d := by
  have hbudget : (decide (((frameEnded s i).slot i).charge < d.getD 0 0)
        && ((frameEnded s i).episodeOpen || !(frameEnded s i).within ((frameEnded s i).increase i (d.getD 0 0)))) = true
      ↔ (s.slot i).charge < d.getD 0 0 ∧ (s.episode.kind ≠ .none ∨ ¬ Fits s i (d.getD 0 0)) := by
    rw [within_iff_fits, Bool.and_eq_true, Bool.or_eq_true, Bool.not_eq_true', decide_eq_true_iff, decide_eq_false_iff_not, fits_frameEnded,
      State.episodeOpen, decide_eq_true_iff, frameEnded_slot]
    rfl
  have hshape : (!shapeOk floor d) = true ↔ shapeOk floor d = false := (Bool.not_eq_true' _).to_iff
  unfold State.newHello
  dsimp only
  rw [if_neg (by rw [frameEnded_slot]; exact hst)]
  simp only [hbudget, hshape, refuse_eq_refused]
  rw [frameEnded_slot]

/-- A declaration of a shape that R71 does not allow. -/
theorem shapeOk_eq_false
    (h : d.length < 1 ∨ 6 < d.length ∨ d.getD 0 0 = 0 ∨ (∃ k, k + 1 < d.length ∧ d.getD (k + 1) 0 ≤ d.getD k 0) ∨ d.length ≤ floor) :
    shapeOk floor d = false := by
  rw [Bool.eq_false_iff, ne_eq, shapeOk_iff]
  rintro ⟨h1, h2, h3, h4, h5⟩
  obtain h | h | h | ⟨k, hk, hle⟩ | h := h
  · omega
  · omega
  · omega
  · exact absurd (h4 k hk) (Nat.not_lt.mpr hle)
  · omega

end

/-- Settles O34: the refusal of ACTIVE, then one check of R71, R72 and R73 after the other. -/
theorem helloRefused : Obligations.HelloRefused := by
  intro s i tag cardId floor draws d hn hd
  rw [exec_hello hn, ← hd]
  refine ⟨fun hst hother => ?_, fun hst => ⟨fun hbad => ?_, fun hok hcap => ?_, fun hok hcap hlow hno => ?_⟩⟩
  · rw [newHello_active hst, helloInActive_other (by rw [frameEnded_slot]; exact hother), refuse_eq_refused]
  all_goals rw [newHello_inactive hst]
  · rw [if_pos (shapeOk_eq_false hbad)]
  · rw [if_neg (by simp [hok]), if_pos hcap]
  · rw [if_neg (by simp [hok]), if_neg (Nat.not_lt.mpr hcap), if_pos ⟨hlow, hno⟩]

/-! A new ASK that is refused (R84, R88, R89). -/

section
variable {s : State} {i : SlotId} {tag : BitVec 3} {c : Card}

/-- A new ASK of an ACTIVE slot is judged by its card (R83). -/
theorem exec_ask (hn : TakesFresh s i .ask tag) (hc : ActiveWith s i c) (asked floor flags : Byte) :
    exec (.ask i tag asked floor flags) s = .next ((frameEnded s i).newAsk i c tag asked.toNat floor.toNat (flags.getLsbD 0)) := by
  change Host.Outcome.next (s.takeAsk i tag asked floor flags) = _
  rw [State.takeAsk, takeRequest_new hn.1, whenActive_eq hc hn]
  rfl

/-- The checks of a new ASK in their order (R84). -/
theorem newAsk_eq (asked floor : Nat) (deferrable : Bool) :
    (frameEnded s i).newAsk i c tag asked floor deferrable =
      if (s.slot i).reclaim ≠ none then refused s i .ask tag .inReclaim
      else if c.count ≤ asked ∨ asked < floor ∨ floor ≤ c.held then refused s i .ask tag .badStep
      else if min asked c.usableTop < floor then refused s i .ask tag .overCap
      else (frameEnded s i).claimAsk i c tag asked floor (min asked c.usableTop) deferrable := by
  simp only [State.newAsk, frameEnded_reclaim, refuse_eq_refused, Option.isSome_iff_ne_none]

/-- A claim that no step meets is refused when it may not wait (R88, R89). -/
theorem claimAsk_refused {floor top : Nat} (h : ∀ g, floor ≤ g → g ≤ top → ¬ AskFits s i c g) (asked : Nat) :
    (frameEnded s i).claimAsk i c tag asked floor top false = refused s i .ask tag .noBudget := by
  unfold State.claimAsk
  rw [(askClaim_iff s i c floor top).2.mpr h]
  exact refuse_eq_refused _ _ _ _ _

end

/-- Settles O36: one check of R84 after the other, then the claim. -/
theorem askRefused : Obligations.AskRefused := by
  intro s i tag asked floor flags c hn hc
  rw [exec_ask hn hc, newAsk_eq]
  refine ⟨fun hr => ?_, fun hr hbad => ?_, fun hr h1 h2 h3 htop => ?_, fun ⟨hr, h1, h2, h3, htop⟩ hdef hno => ?_⟩
  · rw [if_pos hr]
  all_goals rw [if_neg (not_not.mpr hr)]
  · rw [if_pos hbad]
  · rw [if_neg (by omega), if_pos (by omega)]
  · rw [if_neg (by omega), if_neg (by omega), hdef, claimAsk_refused (fun g hg hgt => hno g hg (by omega) (by omega))]

end Sys2Proof.Proofs
end

/-! Every new request is answered once, and nothing that its event does afterwards takes the answer back (O27). -/
section
namespace Sys2Proof.Proofs

open Machine Safety Laws

/-- A link that has taken a request and not answered it yet: the request's frame has ended, and the transmitter is as it was. -/
structure Unanswered (x : Transmitter) (l : Link) : Prop where
  hunt : l.asm = .hunt
  tx : l.tx = x

/-- A link that has answered a request, with `x` the transmitter before: one reply, in the cache and on the line or in the reply slot
(R57, R67). -/
structure Answered (x : Transmitter) (k : LinkKind) (tag : BitVec 3) (r : Reply) (l : Link) : Prop where
  hunt : l.asm = .hunt
  cache : l.cache = some { kind := k, tag := tag, reply := r }
  sent : x = .idle → l.tx = .reply tag r ∧ l.replySlot = none
  waits : x ≠ .idle → l.tx = x ∧ l.replySlot = some (tag, r)

section
variable {x : Transmitter} {k : LinkKind} {tag : BitVec 3} {r : Reply} {l : Link}

/-- The answer itself (R57, R67). -/
theorem Unanswered.answer (h : Unanswered x l) (k : LinkKind) (tag : BitVec 3) (r : Reply) : Answered x k tag r (Link.answer k tag r l) := by
  obtain ⟨ha, hx⟩ := h
  rw [Link.answer, Link.placeReply]
  generalize hm : ({ l with
    replySlot := some (tag, r), cache := some { kind := k, tag := tag, reply := r }, undeclared := noteUndeclared k tag r l.undeclared } : Link) = m
  obtain ⟨hasm, htx, hr, hc⟩ :
      m.asm = .hunt ∧ m.tx = x ∧ m.replySlot = some (tag, r) ∧ m.cache = some { kind := k, tag := tag, reply := r } :=
    hm ▸ ⟨ha, hx, rfl, rfl⟩
  by_cases hi : m.tx = .idle
  · rw [pump_reply (by rw [hasm]; nofun) hi hr]
    exact ⟨hasm, hc, fun _ => ⟨rfl, rfl⟩, fun hn => absurd (htx ▸ hi) hn⟩
  · rw [pump_busy hi]
    exact ⟨hasm, hc, fun hn => absurd (htx.trans hn) hi, fun _ => ⟨htx, hr⟩⟩

namespace Answered

variable (h : Answered x k tag r l)
include h

theorem busy : l.tx ≠ .idle := by
  by_cases hx : x = .idle
  · rw [(h.sent hx).1]
    nofun
  · rw [(h.waits hx).1]
    exact hx

theorem setQueue (q : List Message) : Answered x k tag r { l with queue := q } := ⟨h.hunt, h.cache, h.sent, h.waits⟩

theorem placeNotice (n : NoticeKind) (v : Nat) : Answered x k tag r (Link.placeNotice n v l) := placeNotice_busy h.busy n v ▸ h.setQueue _
theorem placeReclaim (g w : Nat) : Answered x k tag r (Link.placeReclaim g w l) := placeReclaim_busy h.busy g w ▸ h.setQueue _
theorem placeAward (g w : Nat) : Answered x k tag r (Link.placeAward g w l) := placeAward_busy h.busy g w ▸ h.setQueue _

end Answered

end

/-- The link of slot i has answered. -/
def AnsweredAt (i : SlotId) (x : Transmitter) (k : LinkKind) (tag : BitVec 3) (r : Reply) (u : State) : Prop := Answered x k tag r (u.slot i).link

section
variable {i : SlotId} {x : Transmitter} {k : LinkKind} {tag : BitVec 3} {r : Reply} {u : State}

theorem answeredAt_answer (h : Unanswered x (u.slot i).link) (k : LinkKind) (tag : BitVec 3) (r : Reply) :
    AnsweredAt i x k tag r (u.answer i k tag r) := by
  unfold AnsweredAt
  rw [answer_eq, withSlot_slot]
  exact h.answer k tag r

/-! What an event does after the answer (R10, R114 to R116, R125, R146, R150) queues messages behind it. -/

namespace AnsweredAt

variable (h : AnsweredAt i x k tag r u)
include h

theorem append (p : Report) : AnsweredAt i x k tag r (u.append p) := by
  unfold AnsweredAt
  rw [State.append_slot]
  exact h

theorem report (n : ReportKind) (j : SlotId) (a b c : Nat) : AnsweredAt i x k tag r (u.report n j a b c) := h.append _
theorem setWait (l : List WaitEntry) : AnsweredAt i x k tag r (u.setWait l) := h
theorem setEpisode (e : Episode) : AnsweredAt i x k tag r (u.setEpisode e) := h
theorem setRecency (l : List SlotId) : AnsweredAt i x k tag r (u.setRecency l) := h

theorem modSlot (j : SlotId) (f : Slot → Slot) (hf : ∀ t : Slot, Answered x k tag r t.link → Answered x k tag r (f t).link) :
    AnsweredAt i x k tag r (u.modSlot j f) := by
  unfold AnsweredAt
  rw [State.modSlot_slot]
  split
  · rename_i hj
    exact hf _ (hj ▸ h)
  · exact h

theorem notice (j : SlotId) (n : NoticeKind) (v : Nat) : AnsweredAt i x k tag r (u.notice j n v) := h.modSlot j _ fun _ ht => ht.placeNotice n v
theorem sendReclaim (j : SlotId) (g : Nat) : AnsweredAt i x k tag r (u.sendReclaim j g) := h.modSlot j _ fun _ ht => ht.placeReclaim g _

theorem grantEntry (e : WaitEntry) (g : Nat) : AnsweredAt i x k tag r (u.grantEntry e g) := by
  unfold State.grantEntry
  split
  · refine (h.modSlot _ _ ?_).report _ _ _ _ _
    exact fun _ ht => ht
  · split
    · rename_i c _
      have hstep : AnsweredAt i x k tag r (u.grantStep e.slot c g) := by
        refine (h.modSlot _ _ ?_).setRecency _
        exact fun _ ht => ht
      refine (hstep.modSlot _ _ ?_).report _ _ _ _ _
      exact fun _ ht => ht.placeAward _ _
    · exact h

theorem walkOver (passed rest : List WaitEntry) : AnsweredAt i x k tag r (walkOver passed rest u) := by
  induction rest generalizing passed u with
  | nil => exact h.setWait _
  | cons e rest ih =>
    unfold Machine.walkOver
    split
    · have hg := h.grantEntry e ‹_›
      split
      · exact ih hg _
      · dsimp only
        split
        · exact hg.setWait _
        · exact ih hg _
    · split
      · exact h.setWait _
      · split
        · exact h.setWait _
        · exact ih h _

theorem walk : AnsweredAt i x k tag r u.walk := h.walkOver _ _

theorem endEpisode (o : EpisodeOutcome) : AnsweredAt i x k tag r (u.endEpisode o) := (h.append _).setEpisode _

theorem countOvertaken (j : SlotId) (c : Nat) : AnsweredAt i x k tag r (u.countOvertaken j c) := by
  unfold AnsweredAt
  rw [State.countOvertaken_slot]
  exact h

theorem episodeCheck : AnsweredAt i x k tag r u.episodeCheck := by
  unfold State.episodeCheck
  split
  · exact h
  · split
    · exact (h.endEpisode _).walk
    · exact h
  · split
    · exact h
    · split
      · exact ((((h.countOvertaken _ _).setWait _).grantEntry _ _).endEpisode _).walk
      · exact h

theorem followUp : AnsweredAt i x k tag r u.followUp := by
  unfold State.followUp
  split
  · exact h.episodeCheck
  · exact h.walk

theorem followUpIf (b : Bool) : AnsweredAt i x k tag r (u.followUpIf b) := by
  unfold State.followUpIf
  split
  · exact h.followUp
  · exact h

theorem dropEntry (e : WaitEntry) (d : DropReason) : AnsweredAt i x k tag r (u.dropEntry e d) := by
  unfold AnsweredAt
  rw [dropEntry_eq_entryDropped, entryDropped_slot]
  exact h

theorem dropForReclaim (j : SlotId) : AnsweredAt i x k tag r (u.dropForReclaim j) := by
  unfold State.dropForReclaim State.noticeDropped
  split
  · split
    · exact h.dropEntry _ _
    · exact (h.dropEntry _ _).notice _ _ _
  · exact h

theorem startReclaim (j : SlotId) (g : Nat) (c : ReclaimCause) : AnsweredAt i x k tag r (u.startReclaim j g c) := by
  refine ((((h.modSlot j _ ?_).report _ _ _ _ _).dropForReclaim j).sendReclaim j g).followUpIf _
  exact fun _ ht => ht

theorem takeVictims (amount : Nat) (l : List SlotId) (sum : Nat) : AnsweredAt i x k tag r (takeVictims amount l sum u).2 := by
  induction l generalizing u sum with
  | nil => exact h
  | cons j l ih =>
    have victim (g : Nat) : AnsweredAt i x k tag r (u.makeVictim j g) := startReclaim (u := u.enterVictim j g) h j g .shed
    unfold Machine.takeVictims
    split
    · exact ih h _
    · dsimp only
      split
      · exact ih (victim _) _
      · exact victim _

theorem considerPreempt (j : SlotId) (c : Card) (f : Nat) : AnsweredAt i x k tag r (u.considerPreempt j c f) := by
  unfold State.considerPreempt
  dsimp only
  split
  · exact (((h.setWait _).setEpisode _).append _).takeVictims _ _ _
  · exact h

end AnsweredAt

/-! Each request of the card, once it is handed on: one answer, and what its event does before and after it. -/

section
variable (h : Unanswered x (u.slot i).link) (tag : BitVec 3)
include h

theorem refuse_answers (k : LinkKind) (reason : RefuseReason) : ∃ r, AnsweredAt i x k tag r (u.refuse i k tag reason) :=
  ⟨_, (answeredAt_answer h k tag _).report _ _ _ _ _⟩

/-- An answer after a change of slot i that leaves its link's assembler and transmitter. -/
theorem answeredAt_modSlot_answer {f : Slot → Slot} (hf : ∀ t, (f t).link.asm = t.link.asm ∧ (f t).link.tx = t.link.tx) (k : LinkKind)
    (r : Reply) :
    AnsweredAt i x k tag r ((u.modSlot i f).answer i k tag r) := by
  refine answeredAt_answer ?_ k tag r
  rw [State.modSlot_slot_same]
  exact ⟨(hf _).1.trans h.hunt, (hf _).2.trans h.tx⟩

theorem whenActive_answers (k : LinkKind) {act : Card → State} (hact : ∀ c, ∃ r, AnsweredAt i x k tag r (act c)) :
    ∃ r, AnsweredAt i x k tag r (u.whenActive i k tag act) := by
  unfold State.whenActive
  split
  · split
    · exact hact _
    · exact refuse_answers h tag k _
  · exact refuse_answers h tag k _

theorem newHello_answers (cardId : BitVec 32) (floor : Nat) (d : List Nat) :
    ∃ r, AnsweredAt i x .hello tag r (u.newHello i tag cardId floor d) := by
  have hrefuse (reason : RefuseReason) := refuse_answers h tag .hello reason
  unfold State.newHello State.helloInActive
  dsimp only
  split
  · split
    · split
      · exact ⟨_, answeredAt_answer h _ _ _⟩
      · exact hrefuse _
    · exact hrefuse _
  · split
    · exact hrefuse _
    · split
      · exact hrefuse _
      · split
        · exact hrefuse _
        · refine ⟨_, ((answeredAt_modSlot_answer h tag ?_ _ _).report _ _ _ _ _).followUpIf _⟩
          exact fun _ => ⟨rfl, rfl⟩

theorem grantAsk_answers (c : Card) (g : Nat) : ∃ r, AnsweredAt i x .ask tag r (u.grantAsk i c tag g) := by
  have hstep : Unanswered x ((((u.countOvertaken i (u.slot i).cfg.cls).removeEntry i).grantStep i c g).slot i).link := by
    rw [State.grantStep, State.toHead, State.setRecency_slot, State.modSlot_slot_same, State.removeEntry_slot, State.countOvertaken_slot]
    exact ⟨h.hunt, h.tx⟩
  exact ⟨_, ((answeredAt_answer hstep _ _ _).report _ _ _ _ _).followUpIf _⟩

theorem deferAsk_answers (c : Card) (asked floor : Nat) : ∃ r, AnsweredAt i x .ask tag r (u.deferAsk i c tag asked floor) := by
  have hwait (l : List WaitEntry) : Unanswered x ((u.setWait l).slot i).link := h
  unfold State.deferAsk
  dsimp only
  split
  · exact ⟨_, (answeredAt_answer (hwait _) _ _ _).report _ _ _ _ _⟩
  · exact ⟨_, ((answeredAt_answer (hwait _) _ _ _).report _ _ _ _ _).considerPreempt _ _ _⟩

theorem newAsk_answers (c : Card) (asked floor : Nat) (deferrable : Bool) :
    ∃ r, AnsweredAt i x .ask tag r (u.newAsk i c tag asked floor deferrable) := by
  have hrefuse (reason : RefuseReason) := refuse_answers h tag .ask reason
  unfold State.newAsk State.claimAsk
  dsimp only
  split
  · exact hrefuse _
  · split
    · exact hrefuse _
    · split
      · exact hrefuse _
      · split
        · exact grantAsk_answers h tag c _
        · split
          · exact deferAsk_answers h tag c _ _
          · exact hrefuse _

theorem concludeReclaim_answers (c : Card) (rc : Reclaim) (k : LinkKind) (t : Nat) :
    ∃ r, AnsweredAt i x k tag r (u.concludeReclaim i c rc k tag t) := by
  unfold State.concludeReclaim
  dsimp only
  split
  · refine ⟨_, ((answeredAt_modSlot_answer h tag ?_ _ _).report _ _ _ _ _).setEpisode _⟩
    exact fun _ => ⟨rfl, rfl⟩
  · refine ⟨_, (((answeredAt_modSlot_answer h tag ?_ _ _).report _ _ _ _ _).setEpisode _).followUpIf _⟩
    exact fun _ => ⟨rfl, rfl⟩

theorem newYield_answers (c : Card) (t : Nat) : ∃ r, AnsweredAt i x .yield tag r (u.newYield i c tag t) := by
  unfold State.newYield
  dsimp only
  split
  · exact refuse_answers h tag _ _
  · split
    · refine ⟨_, ((answeredAt_modSlot_answer h tag ?_ _ _).report _ _ _ _ _).followUpIf _⟩
      exact fun _ => ⟨rfl, rfl⟩
    · split
      · exact concludeReclaim_answers h tag c _ _ t
      · exact refuse_answers h tag _ _

theorem newWithdraw_answers : ∃ r, AnsweredAt i x .withdraw tag r (u.newWithdraw i tag) := by
  unfold State.newWithdraw
  split
  · exact refuse_answers h tag _ _
  · rename_i e _
    have hdrop : Unanswered x ((u.dropEntry e .withdraw).slot i).link := by
      rw [dropEntry_eq_entryDropped, entryDropped_slot]
      exact h
    exact ⟨_, (answeredAt_answer hdrop _ _ _).followUp⟩

theorem newRenew_answers (c : Card) : ∃ r, AnsweredAt i x .renew tag r (u.newRenew i c tag) := by
  have hrenew : ∃ r, AnsweredAt i x .renew tag r (u.renewLease i c tag) := by
    unfold State.renewLease
    dsimp only
    split
    · refine ⟨_, answeredAt_modSlot_answer h tag ?_ _ _⟩
      exact fun _ => ⟨rfl, rfl⟩
    · exact ⟨_, answeredAt_answer h _ _ _⟩
  unfold State.newRenew
  split
  · split
    · exact refuse_answers h tag _ _
    · exact hrenew
  · exact hrenew

theorem newConfirm_answers (c : Card) (t : Nat) : ∃ r, AnsweredAt i x .confirm tag r (u.newConfirm i c tag t) := by
  unfold State.newConfirm
  split
  · exact refuse_answers h tag _ _
  · rename_i rc _
    split
    · exact refuse_answers h tag _ _
    · split
      · exact concludeReclaim_answers h tag c rc _ t
      · have hlink (sl : Slot) : (Slot.progress c t rc sl).link = sl.link := by
          unfold Slot.progress
          cases rc.phase <;> rfl
        refine ⟨_, (((answeredAt_modSlot_answer h tag ?_ _ _).report _ _ _ _ _).setEpisode _).followUpIf _⟩
        exact fun sl => ⟨by rw [hlink], by rw [hlink]⟩

end

end

/-- A new request of each kind is handed on when its frame has ended, and answered there. -/
theorem exec_request_answers {s : State} {c : Instr} {i : SlotId} {k : LinkKind} {tag : BitVec 3} (hreq : requestOf c = some (i, k, tag))
    (hn : TakesNew s i k tag) : ∃ t r, exec c s = .next t ∧ AnsweredAt i (s.slot i).link.tx k tag r t := by
  have h : Unanswered (s.slot i).link.tx ((frameEnded s i).slot i).link := by
    rw [frameEnded_slot]
    exact ⟨rfl, rfl⟩
  have handed {act : State → State} (hc : exec c s = .next (s.takeRequest i k tag act))
      (hact : ∃ r, AnsweredAt i (s.slot i).link.tx k tag r (act (frameEnded s i))) :
      ∃ t r, exec c s = .next t ∧ AnsweredAt i (s.slot i).link.tx k tag r t :=
    ⟨_, hact.choose, hc.trans (congrArg _ (takeRequest_new hn act)), hact.choose_spec⟩
  cases c with
  | hello j tag' cardId floor draws =>
    cases hreq
    exact handed rfl (newHello_answers h _ _ _ _)
  | ask j tag' asked floor flags =>
    cases hreq
    exact handed rfl (whenActive_answers h _ _ fun c => newAsk_answers h _ c _ _ _)
  | yield j tag' target =>
    cases hreq
    exact handed rfl (whenActive_answers h _ _ fun c => newYield_answers h _ c _)
  | withdraw j tag' =>
    cases hreq
    exact handed rfl (whenActive_answers h _ _ fun _ => newWithdraw_answers h _)
  | renew j tag' =>
    cases hreq
    exact handed rfl (whenActive_answers h _ _ fun c => newRenew_answers h _ c)
  | confirm j tag' target =>
    cases hreq
    exact handed rfl (whenActive_answers h _ _ fun c => newConfirm_answers h _ c _)
  | _ => cases hreq

/-- Settles O27: the request is answered, and the answer stands at the end of its event. -/
theorem everyNewRequestIsAnswered : Obligations.EveryNewRequestIsAnswered := by
  intro s c i kind tag _ hreq hn
  obtain ⟨t, r, hc, hans⟩ := exec_request_answers hreq hn
  exact ⟨t, r, hc, hans.hunt, hans.cache, hans.sent, hans.waits⟩

end Sys2Proof.Proofs
end

/-! A new HELLO that is accepted (O33). -/
section
namespace Sys2Proof.Proofs

open Machine Safety Laws

/-- What is kept of an accepted declaration: the step table of R77 and R78 at step 0, and tag and WELCOME for the repeats of R81. -/
def declaredCard (cfg : SlotConfig) (tag : BitVec 3) (cardId : BitVec 32) (floor : Nat) (d : List Nat) : Card :=
  { cardId := cardId, draws := d, declaredFloor := floor, held := 0
    effFloor := effectiveFloorOf cfg.floorOverride floor d.length, usableTop := usableTopOf d cfg.cap, helloTag := tag
    welcome := .welcome (usableTopOf d cfg.cap) cfg.lease cfg.cls }

/-- The acceptance of a HELLO with step table c, before any follow-up (R74 to R76). -/
def helloWelcomed (s : State) (i : SlotId) (tag : BitVec 3) (c : Card) : State :=
  (withSlot s i
    { s.slot i with
      state := .active, charge := c.draw 0, hello := none, run := true, card := some c
      link := replied .hello tag c.welcome (s.slot i).link }).report .declared i c.count (c.draw 0) c.usableTop

/-- An override is held below the step count (R78). -/
theorem effectiveFloorOf_eq_min {n : Nat} (hn : 1 ≤ n) (override : Option Nat) (floor : Nat) :
    effectiveFloorOf override floor n = match override with
      | none => floor
      | some k => min k (n - 1) := by
  cases override with
  | none => rfl
  | some k =>
    change (if k < n then k else n - 1) = min k (n - 1)
    split <;> omega

section
variable {s : State} {i : SlotId} {tag : BitVec 3} {cardId : BitVec 32} {floor : Nat} {d : List Nat}

/-- Of a declaration of good shape with draw(0) within the cap, the usable top step is the highest step within the cap (R71, R77). -/
theorem usableTopOf_spec_of_shapeOk (h : shapeOk floor d = true) {cap : Nat} (h0 : d.getD 0 0 ≤ cap) : usableTopOf d cap < d.length
    ∧ d.getD (usableTopOf d cap) 0 ≤ cap ∧ ∀ k, usableTopOf d cap < k → k < d.length → cap < d.getD k 0 := by
  obtain ⟨hlo, hhi, hfirst, hrises, hfloor⟩ := (shapeOk_iff _ _).mp h
  have hshape : CardShape ⟨0, d, floor, 0, 0, 0, 0, .refuse .malformed⟩ := ⟨hlo, hhi, hfirst, hrises, hfloor, hlo, hlo, hlo⟩
  exact hshape.usableTopOf_spec h0

/-- The acceptance of a HELLO whose frame has ended, and the follow-up of a lowered charge (R74 to R76). -/
theorem acceptHello_frameEnded : (frameEnded s i).acceptHello i tag cardId floor d =
    (helloWelcomed s i tag (declaredCard (s.slot i).cfg tag cardId floor d)).followUpIf (decide (d.getD 0 0 < (s.slot i).charge)) := by
  unfold State.acceptHello
  dsimp only
  rw [answer_modSlot_frameEnded]
  · rw [frameEnded_slot]
    rfl
  · exact fun _ => rfl

/-- A HELLO that passes the checks of R71 to R73 is accepted. -/
theorem newHello_accepted (hst : (s.slot i).state = .listening) (hs : shapeOk floor d = true) (hcap : d.getD 0 0 ≤ (s.slot i).cfg.cap)
    (hfit : d.getD 0 0 ≤ (s.slot i).charge ∨ (s.episode.kind = .none ∧ Fits s i (d.getD 0 0))) :
    (frameEnded s i).newHello i tag cardId floor d = (frameEnded s i).acceptHello i tag cardId floor d := by
  have hbudget : ¬ ((s.slot i).charge < d.getD 0 0 ∧ (s.episode.kind ≠ .none ∨ ¬ Fits s i (d.getD 0 0))) := by
    rintro ⟨hlt, hno⟩
    obtain hle | ⟨hk, hf⟩ := hfit
    · exact Nat.not_lt.mpr hle hlt
    · exact hno.elim (· hk) (· hf)
  rw [newHello_inactive (by rw [hst]; nofun), if_neg (by simp [hs]), if_neg (Nat.not_lt.mpr hcap), if_neg hbudget]

end

/-- Settles O33: the declaration passes every check, its card is the step table of R77 and R78, and a lowered charge is followed up. -/
theorem helloAccepted : Obligations.HelloAccepted := by
  intro s i tag cardId floor draws d hn hst hd hlo hhi hfirst hrises hfloor hcap hfit
  have hs : shapeOk floor.toNat d = true := (shapeOk_iff _ _).mpr ⟨hlo, hhi, hfirst, hrises, hfloor⟩
  obtain ⟨htop, hwithin, habove⟩ := usableTopOf_spec_of_shapeOk hs hcap
  refine ⟨usableTopOf d (s.slot i).cfg.cap, htop, hwithin, habove, fun u hu => ?_⟩
  have hwelcomed : u = helloWelcomed s i tag (declaredCard (s.slot i).cfg tag cardId floor.toNat d) :=
    hu.trans (congrArg (fun e => helloWelcomed s i tag { declaredCard (s.slot i).cfg tag cardId floor.toNat d with effFloor := e })
      (effectiveFloorOf_eq_min hlo _ _).symm)
  rw [exec_hello hn, ← hd, newHello_accepted hst hs hcap hfit, acceptHello_frameEnded, followUpIf_eq, ← hwelcomed]
  exact ⟨fun hlt => by rw [if_pos hlt], fun hle => by rw [if_neg (Nat.not_lt.mpr hle)]⟩

end Sys2Proof.Proofs
end

/-! The expiry of a lease (O17). -/
section
namespace Sys2Proof.Proofs

open Machine Safety Laws

section
variable {s : State} {i : SlotId} {c : Card}

/-- The lease of slot i has lapsed, before anything is reclaimed: the timer is gone, LAPSED and NOTICE(LAPSED) carry the held step (R100). -/
def leaseLapsed (s : State) (i : SlotId) (held : Nat) : State :=
  ((withSlot s i { s.slot i with lease := none }).report .lapsed i held 0 0).modLink i (Link.placeNotice .lapsed held)

theorem leaseLapsed_slot (held : Nat) :
    (leaseLapsed s i held).slot i = { s.slot i with lease := none, link := Link.placeNotice .lapsed held (s.slot i).link } := by
  rw [leaseLapsed, modLink_eq, withSlot_slot, State.report_slot, withSlot_slot]

/-- The expired lease of an ACTIVE slot asks for step 0 (R101). -/
theorem exec_leaseExpiry (h : (s.slot i).lease = some 0) (hc : ActiveWith s i c) :
    exec (.leaseExpiry i) s = .next ((leaseLapsed s i c.held).reclaimTo i c 0 .lapse) := by
  obtain ⟨hst, hcard⟩ := hc
  change Host.Outcome.next (s.leaseEvent i) = _
  have hmod : ((s.modSlot i fun t => { t with lease := none }).slot i).card = some c := by rwa [State.modSlot_slot_same]
  rw [State.leaseEvent, if_pos (by simp [h, hst]), State.expireLease]
  simp only [hmod]
  rfl

end

/-- Settles O17: behind LAPSED and its NOTICE stands the table of R136 for step 0. -/
theorem leaseExpiry : Obligations.LeaseExpiry := by
  intro s i c
  refine ⟨fun h => congrArg _ (leaseEvent_quiet (by simpa [Timer.due] using h)), fun h hc u hu => ?_⟩
  change u = leaseLapsed s i c.held at hu
  have hcard : (u.slot i).card = some c := by rw [hu, leaseLapsed_slot]; exact hc.2
  have hrec : (u.slot i).reclaim = (s.slot i).reclaim := by rw [hu, leaseLapsed_slot]
  rw [exec_leaseExpiry h hc, ← hu, reclaimTo_eq u i c 0 .lapse (.inl hcard), hrec]
  refine ⟨fun hr => by rw [hr], fun r hr => ⟨fun hlt => ?_, fun hz => ?_⟩⟩
  · rw [hr]
    exact congrArg _ (if_pos hlt)
  · rw [hr]
    exact congrArg _ (if_neg (by omega))

end Sys2Proof.Proofs
end

/-! A new ASK that is granted (O35). -/
section
namespace Sys2Proof.Proofs

open Machine Safety Laws

section
variable {s : State} {i : SlotId} {tag : BitVec 3} {c : Card}

/-- An ASK of slot i has been granted step g, before the follow-up of its entry's removal (R86, R91, R97, R110). -/
def askStepGranted (s : State) (i : SlotId) (c : Card) (tag : BitVec 3) (g : Nat) : State :=
  (withSlot { s with waitList := listAfterGrant s i, recency := i :: s.recency.filter (fun j => decide (j ≠ i)) } i
    { s.slot i with
      charge := c.draw g, card := some { c with held := g }, lease := leaseAtGrant (s.slot i).cfg.lease
      link := replied .ask tag (.grant g (s.slot i).cfg.lease) (s.slot i).link }).report .granted i g (c.draw g) 0

theorem grantAsk_frameEnded (g : Nat) :
    (frameEnded s i).grantAsk i c tag g = (askStepGranted s i c tag g).followUpIf (s.entryOf i).isSome := by
  unfold State.grantAsk
  dsimp only
  rw [listAfterGrant_eq, frameEnded_listAfterGrant, frameEnded_entryOf, frameEnded_slot]
  have hanswer := answer_modSlot_frameEnded (tag := tag)
    { s with waitList := listAfterGrant s i, recency := i :: s.recency.filter (fun j => decide (j ≠ i)) } i
    (fun t => { t with charge := c.draw g, card := some { c with held := g }, lease := leaseAtGrant t.cfg.lease }) .ask
    (.grant g (s.slot i).cfg.lease) fun _ => rfl
  exact congrArg (fun u => (State.report u .granted i g (c.draw g) 0).followUpIf (s.entryOf i).isSome) hanswer

/-- A claim is granted its highest step (R85). -/
theorem claimAsk_granted {floor top g : Nat} (hlo : floor ≤ g) (hhi : g ≤ top) (hfit : AskFits s i c g)
    (hbest : ∀ k, g < k → k ≤ top → ¬ Fits s i (c.draw k)) (asked : Nat) (d : Bool) :
    (frameEnded s i).claimAsk i c tag asked floor top d = (frameEnded s i).grantAsk i c tag g := by
  unfold State.claimAsk
  rw [((askClaim_iff s i c floor top).1 g).mpr ⟨hlo, hhi, hfit, hbest⟩]

/-- An ASK that passes the checks of R84 makes its claim. -/
theorem newAsk_claims {asked floor : Nat} (h : AskPasses s i c asked floor) (d : Bool) : (frameEnded s i).newAsk i c tag asked floor d =
    (frameEnded s i).claimAsk i c tag asked floor (min asked c.usableTop) d := by
  obtain ⟨hr, hcount, hle, hheld, htop⟩ := h
  rw [newAsk_eq, if_neg (not_not.mpr hr), if_neg (by omega), if_neg (by omega)]

end

/-- Settles O35: the claim of R85 finds g, and the grant is that of R86. -/
theorem askGranted : Obligations.AskGranted := by
  intro s i tag asked floor flags c g hn hc hp hlo hhi htop hfit hbest u hu
  change u = askStepGranted s i c tag g at hu
  have hclaim := claimAsk_granted (tag := tag) hlo (le_min hhi htop) hfit (fun k hk hkt => hbest k hk (by omega) (by omega)) asked.toNat
    (flags.getLsbD 0)
  rw [exec_ask hn hc, newAsk_claims hp, hclaim, grantAsk_frameEnded, ← hu]
  exact ⟨fun h => by rw [h]; rfl, fun h => by rw [h]; rfl⟩

end Sys2Proof.Proofs
end

/-! WITHDRAW and RENEW (O39). -/
section
namespace Sys2Proof.Proofs

open Machine Safety Laws

section
variable {s : State} {i : SlotId} {tag : BitVec 3} {c : Card}

/-- A new WITHDRAW of an ACTIVE slot (R83, R95). -/
theorem exec_withdraw (hn : TakesFresh s i .withdraw tag) (hc : ActiveWith s i c) :
    exec (.withdraw i tag) s = .next ((frameEnded s i).newWithdraw i tag) := by
  change Host.Outcome.next (s.takeWithdraw i tag) = _
  rw [State.takeWithdraw, takeRequest_new hn.1, whenActive_eq hc hn]

/-- A new RENEW of an ACTIVE slot is judged by its card (R83, R98). -/
theorem exec_renew (hn : TakesFresh s i .renew tag) (hc : ActiveWith s i c) :
    exec (.renew i tag) s = .next ((frameEnded s i).newRenew i c tag) := by
  change Host.Outcome.next (s.takeRenew i tag) = _
  rw [State.takeRenew, takeRequest_new hn.1, whenActive_eq hc hn]

/-- The removal of the entry and the answer do not touch each other (R95). -/
theorem dropEntry_answer_frameEnded (e : WaitEntry) (r : DropReason) (k : LinkKind) (reply : Reply) :
    ((frameEnded s i).dropEntry e r).answer i k tag reply =
      entryDropped (withSlot s i { s.slot i with link := replied k tag reply (s.slot i).link }) e (dropCode r) := by
  rw [dropEntry_eq_entryDropped, frameEnded, entryDropped_withSlot, answer_eq, withSlot_slot, withSlot_withSlot, entryDropped_withSlot]
  rfl

theorem newWithdraw_entry {e : WaitEntry} (he : s.entryOf i = some e) : (frameEnded s i).newWithdraw i tag =
    (entryDropped (withSlot s i { s.slot i with link := replied .withdraw tag (.done 0) (s.slot i).link }) e 1).followUp := by
  rw [State.newWithdraw, frameEnded_entryOf, he]
  exact congrArg State.followUp (dropEntry_answer_frameEnded e .withdraw .withdraw (.done 0))

theorem newWithdraw_noEntry (he : s.entryOf i = none) : (frameEnded s i).newWithdraw i tag = refused s i .withdraw tag .nothingWaiting := by
  rw [State.newWithdraw, frameEnded_entryOf, he]
  exact refuse_eq_refused _ _ _ _ _

/-- Only a LAPSE reclaim keeps a RENEW from the lease (R99). -/
theorem newRenew_frameEnded (h : ∀ r, (s.slot i).reclaim = some r → r.cause ≠ .lapse) :
    (frameEnded s i).newRenew i c tag = (frameEnded s i).renewLease i c tag := by
  unfold State.newRenew
  rw [frameEnded_reclaim]
  cases hr : (s.slot i).reclaim with
  | none => rfl
  | some r => exact if_neg (h r hr)

theorem newRenew_lapsed {r : Reclaim} (hr : (s.slot i).reclaim = some r) (hl : r.cause = .lapse) :
    (frameEnded s i).newRenew i c tag = refused s i .renew tag .lapsed := by
  unfold State.newRenew
  rw [frameEnded_reclaim, hr, ← refuse_eq_refused]
  exact if_pos hl

/-- The lease of a slot held above step 0 with a lease field L above 0 starts afresh (R98). -/
theorem renewLease_starts (hh : 0 < c.held) (hl : 0 < (s.slot i).cfg.lease) : (frameEnded s i).renewLease i c tag = withSlot s i
    { s.slot i with
      lease := some (1000 * (s.slot i).cfg.lease), link := replied .renew tag (.done (s.slot i).cfg.lease) (s.slot i).link } := by
  unfold State.renewLease
  rw [frameEnded_slot]
  refine (if_pos ⟨hh, hl⟩).trans (answer_modSlot_frameEnded s i _ _ _ ?_)
  exact fun _ => rfl

theorem renewLease_stays (h : c.held = 0 ∨ (s.slot i).cfg.lease = 0) : (frameEnded s i).renewLease i c tag =
    withSlot s i { s.slot i with link := replied .renew tag (.done 0) (s.slot i).link } := by
  unfold State.renewLease
  rw [frameEnded_slot]
  exact (if_neg fun hb : 0 < c.held ∧ 0 < (s.slot i).cfg.lease => by omega).trans (answer_frameEnded s i .renew tag (.done 0))

end

/-- Settles O39: the two ends of R95, and those of R98 and R99. -/
theorem withdrawAndRenew : Obligations.WithdrawAndRenew := by
  refine ⟨fun s i tag c hn hc => ?_, fun s i tag c hn hc => ?_⟩
  · rw [exec_withdraw hn hc]
    exact ⟨fun he => congrArg _ (newWithdraw_noEntry he), fun e he => congrArg _ (newWithdraw_entry he)⟩
  · rw [exec_renew hn hc]
    refine ⟨fun r hr hl => congrArg _ (newRenew_lapsed hr hl), fun h => ?_⟩
    rw [newRenew_frameEnded h]
    exact ⟨fun hh hl => congrArg _ (renewLease_starts hh hl), fun h0 => congrArg _ (renewLease_stays h0)⟩

end Sys2Proof.Proofs
end

/-! The conclusion of a reclaim (O40). -/
section
namespace Sys2Proof.Proofs

open Machine Safety Laws

section
variable {s : State} {i : SlotId} {tag : BitVec 3} {c : Card} {r : Reclaim} {kind : LinkKind}

/-- A new CONFIRM of an ACTIVE slot is judged by its card (R83, R127). -/
theorem exec_confirm (hn : TakesFresh s i .confirm tag) (hc : ActiveWith s i c) (target : Byte) :
    exec (.confirm i tag target) s = .next ((frameEnded s i).newConfirm i c tag target.toNat) := by
  change Host.Outcome.next (s.takeConfirm i tag target) = _
  rw [State.takeConfirm, takeRequest_new hn.1, whenActive_eq hc hn]

/-- CONFIRM and YIELD at or below the target conclude alike (R93, R128). -/
theorem exec_concludes {command : Instr} {target : Byte}
    (hcommand : (command = .confirm i tag target ∧ kind = .confirm) ∨ (command = .yield i tag target ∧ kind = .yield))
    (hn : TakesFresh s i kind tag) (hc : ActiveWith s i c) (hr : (s.slot i).reclaim = some r) (hlt : target.toNat < c.held)
    (hle : target.toNat ≤ r.target) : exec command s = .next ((frameEnded s i).concludeReclaim i c r kind tag target.toNat) := by
  obtain ⟨rfl, rfl⟩ | ⟨rfl, rfl⟩ := hcommand
  · rw [exec_confirm hn hc, State.newConfirm, frameEnded_reclaim, hr]
    exact congrArg _ ((if_neg (Nat.not_le.mpr hlt)).trans (if_pos hle))
  · rw [exec_yield hn hc, State.newYield, if_neg (Nat.not_le.mpr hlt), frameEnded_reclaim, hr]
    exact congrArg _ (if_pos hle)

/-- The conclusion is held open where a paced charge cannot be raised to draw(t), and made otherwise (R128 to R131). -/
theorem concludeReclaim_frameEnded (t : Nat) : (frameEnded s i).concludeReclaim i c r kind tag t =
    if r.phase = .paced ∧ (s.slot i).charge < c.draw t ∧ ¬ Fits s i (c.draw t) then reclaimHeldOpen s i c r kind tag t
    else (reclaimConcluded s i c kind tag t).followUpIf (decide (c.draw t < (s.slot i).charge)) := by
  have hcond : (decide (r.phase = .paced) && decide (((frameEnded s i).slot i).charge < c.draw t)
        && !(frameEnded s i).within ((frameEnded s i).increase i (c.draw t))) = true
      ↔ r.phase = .paced ∧ (s.slot i).charge < c.draw t ∧ ¬ Fits s i (c.draw t) := by
    rw [within_iff_fits, Bool.and_eq_true, Bool.and_eq_true, Bool.not_eq_true', decide_eq_true_iff, decide_eq_true_iff,
      decide_eq_false_iff_not, fits_frameEnded, frameEnded_slot, and_assoc]
  have hheld := answer_modSlot_frameEnded (tag := tag) s i (Slot.holdOpen c t r) kind (.done 0) fun _ => rfl
  have hended : ((frameEnded s i).modSlot i (Slot.endReclaim c t)).answer i kind tag (.done 0) = withSlot s i
      { Slot.endReclaim c t (s.slot i) with link := replied kind tag (.done 0) (Link.dropReclaim (s.slot i).link) } := by
    rw [modSlot_eq, frameEnded_slot, answer_eq, withSlot_slot, frameEnded, withSlot_withSlot, withSlot_withSlot]
    rfl
  unfold State.concludeReclaim
  dsimp only
  by_cases hopen : r.phase = .paced ∧ (s.slot i).charge < c.draw t ∧ ¬ Fits s i (c.draw t)
  · rw [if_pos (hcond.mpr hopen), if_pos hopen, hheld, frameEnded_slot]
    rfl
  · rw [if_neg (mt hcond.mp hopen), if_neg hopen, hended, frameEnded_slot]
    rfl

end

/-- Settles O40: both requests conclude alike, and the charge decides between the cases of R128 to R131. -/
theorem reclaimConclusion : Obligations.ReclaimConclusion := by
  intro s i tag target c r command kind hcommand hn hc hr hlt hle
  rw [exec_concludes hcommand hn hc hr hlt hle, concludeReclaim_frameEnded, followUpIf_eq]
  refine ⟨fun h => ?_, fun h => ?_, fun _ h hfit => ?_, fun hp h hfit => ?_⟩
  · rw [if_neg (by omega), if_pos h]
  · rw [if_neg (by omega), if_neg (by omega)]
  · rw [if_neg fun hopen => hopen.2.2 hfit, if_neg (by omega)]
  · rw [if_pos ⟨hp, h, hfit⟩]

end Sys2Proof.Proofs
end

/-! A deferred ASK: its place in the wait list, DEFER and DEFERRED, and the conditions of a PREEMPT (O37). -/
section
namespace Sys2Proof.Proofs

open Machine Safety Laws

section
variable {s : State} {i : SlotId} {tag : BitVec 3} {c : Card} {asked floor : Nat}

/-! The place of the entry (R87, R106, R108). -/

/-- The wait list once an ASK of slot i waits. -/
def listAfterDefer (s : State) (i : SlotId) (asked floor : Nat) : List WaitEntry :=
  if (s.entryOf i).isSome then s.waitList.map (fun e => if e.slot = i then { e with kind := .step asked floor } else e)
  else insertEntry (newEntry i (.step asked floor) (s.slot i).cfg.cls) s.waitList

/-- The position that DEFER and DEFERRED carry. -/
def deferredPosition (s : State) (i : SlotId) (asked floor : Nat) : Nat := (s.setWait (listAfterDefer s i asked floor)).position i

theorem position_of_front {l front back : List WaitEntry} {e : WaitEntry} (hl : l = front ++ e :: back) (he : e.slot = i)
    (hf : ∀ x ∈ front, x.slot ≠ i) : (s.setWait l).position i = front.length + 1 := by
  have hfront : List.findIdx (fun e => decide (e.slot = i)) front = front.length := by
    rw [List.findIdx_eq_length]
    exact fun x hx => decide_eq_false (hf x hx)
  rw [State.position, State.setWait_waitList, hl, List.findIdx_append, hfront, if_neg (lt_irrefl _), List.findIdx_cons, he]
  simp

/-- With no entry the slot joins behind the entries of its class and above. -/
theorem listAfterDefer_joins (hs : s.waitList.Pairwise (fun a b => b.cls ≤ a.cls)) (hn : s.entryOf i = none) : listAfterDefer s i asked floor =
    aheadOf s i ++ newEntry i (.step asked floor) (s.slot i).cfg.cls :: s.waitList.filter (fun e => decide (e.cls < (s.slot i).cfg.cls)) := by
  rw [listAfterDefer, aheadOf, any_slot_iff_entryOf, hn, insertEntry_of_sorted _ _ hs]
  rfl

/-- An entry of the slot keeps its place. -/
theorem listAfterDefer_stays {front back : List WaitEntry} {e : WaitEntry} (hn : (s.waitList.map WaitEntry.slot).Nodup)
    (hl : s.waitList = front ++ e :: back) (he : e.slot = i) : (∀ x ∈ front, x.slot ≠ i) ∧
      listAfterDefer s i asked floor = front ++ { e with kind := .step asked floor } :: back := by
  have hothers : ∀ x ∈ front ++ back, x.slot ≠ i := fun x hx hxi => by
    rw [hl, (List.perm_middle.map WaitEntry.slot).nodup_iff, List.map_cons, List.nodup_cons] at hn
    exact hn.1 (he ▸ hxi ▸ List.mem_map_of_mem hx)
  have hmap : ∀ l : List WaitEntry, (∀ x ∈ l, x.slot ≠ i) → l.map (fun x => if x.slot = i then { x with kind := .step asked floor } else x) = l :=
    fun l hl => (List.map_congr_left fun x hx => if_neg (hl x hx)).trans (List.map_id' l)
  have hsome : (s.entryOf i).isSome = true := (entryOf_isSome s i).mpr ⟨e, by rw [hl]; simp, he⟩
  refine ⟨fun x hx => hothers x (List.mem_append_left _ hx), ?_⟩
  rw [listAfterDefer, if_pos hsome, hl, List.map_append, List.map_cons, if_pos he, hmap front fun x hx => hothers x (List.mem_append_left _ hx),
    hmap back fun x hx => hothers x (List.mem_append_right _ hx)]

theorem deferredPlace (h : WaitForm s) (asked floor : Nat) :
    DeferredPlace s i asked floor (listAfterDefer s i asked floor) (deferredPosition s i asked floor) := by
  refine ⟨fun hn => ?_, fun e front back hl he => ?_⟩
  · have hjoins := listAfterDefer_joins (asked := asked) (floor := floor) h.2 hn
    refine ⟨position_of_front hjoins rfl fun x hx => ?_, hjoins⟩
    unfold aheadOf at hx
    rw [any_slot_iff_entryOf, hn] at hx
    exact entryOf_none.mp hn x (List.mem_of_mem_filter hx)
  · obtain ⟨hfront, hstays⟩ := listAfterDefer_stays (asked := asked) (floor := floor) h.1 hl he
    exact ⟨position_of_front hstays he hfront, hstays⟩

/-! The deferral, and what opens a PREEMPT behind it (R87, R149). -/

/-- An ASK of slot i has been deferred, and no PREEMPT considered yet (R87). -/
def askWaits (s : State) (i : SlotId) (tag : BitVec 3) (asked floor : Nat) : State :=
  (withSlot { s with waitList := listAfterDefer s i asked floor } i
    { s.slot i with link := replied .ask tag (.defer (deferredPosition s i asked floor)) (s.slot i).link }).report .deferred i
      (deferredPosition s i asked floor) asked floor

/-- What the floor step of slot i needs beyond headroom (R149). -/
def missing (s : State) (i : SlotId) (c : Card) (floor : Nat) : Nat := c.draw floor + s.committed - (s.available + (s.slot i).charge)

/-- The conditions of R149 on a deferred ASK. -/
abbrev PreemptOpens (s : State) (i : SlotId) (c : Card) (floor : Nat) : Prop :=
  0 < (s.slot i).cfg.cls ∧ s.policy.preempt = true ∧ ¬ Fits s i (c.draw floor)
    ∧ missing s i c floor ≤ ((s.candidates (some (s.slot i).cfg.cls)).map s.reduction).sum

/-- A PREEMPT for slot i has been opened, and no victim chosen yet (R144, R149). -/
def preemptOpened (s : State) (i : SlotId) (target : Nat) : State :=
  ((s.setWait (s.waitList.map (fun e => if e.slot = i then { e with beneficiary := true } else e))).setEpisode
    { Episode.closed with kind := .preempt, beneficiary := some i, target := target }).reportOpen

theorem considerPreempt_eq (s : State) (i : SlotId) (c : Card) (floor : Nat) : s.considerPreempt i c floor =
    if PreemptOpens s i c floor then
      ((preemptOpened s i (missing s i c floor)).chooseVictims (some (s.slot i).cfg.cls) (missing s i c floor)).2
    else s := by
  have hmissing : (s.increase i (c.draw floor) - s.headroom).toNat = missing s i c floor := by
    unfold State.increase State.headroom missing
    omega
  have hcond : (decide (0 < (s.slot i).cfg.cls) && s.policy.preempt && decide (s.headroom < s.increase i (c.draw floor))
        && decide (s.increase i (c.draw floor) - s.headroom ≤ ((((s.candidates (some (s.slot i).cfg.cls)).map s.reduction).sum : Nat) : Int))) = true
      ↔ PreemptOpens s i c floor := by
    simp only [Bool.and_eq_true, decide_eq_true_iff, PreemptOpens, and_assoc]
    refine and_congr_right fun _ => and_congr_right fun _ => and_congr ?_ ?_
    · unfold State.increase State.headroom Fits
      omega
    · unfold State.increase State.headroom missing
      omega
  unfold State.considerPreempt
  dsimp only
  by_cases h : PreemptOpens s i c floor
  · rw [if_pos (hcond.mpr h), if_pos h, hmissing]
    rfl
  · rw [if_neg (mt hcond.mp h), if_neg h]

theorem deferAsk_frameEnded : (frameEnded s i).deferAsk i c tag asked floor =
    if s.episode.kind ≠ .none then askWaits s i tag asked floor else (askWaits s i tag asked floor).considerPreempt i c floor := by
  have hlist : listAfterDefer (frameEnded s i) i asked floor = listAfterDefer s i asked floor := by
    unfold listAfterDefer
    rw [frameEnded_slot]
    rfl
  have hplace : deferredPosition (frameEnded s i) i asked floor = deferredPosition s i asked floor := by
    rw [deferredPosition, hlist]
    rfl
  have hwaits : (((frameEnded s i).setWait (listAfterDefer (frameEnded s i) i asked floor)).answer i .ask tag
      (.defer (deferredPosition (frameEnded s i) i asked floor))).report .deferred i (deferredPosition (frameEnded s i) i asked floor) asked floor
        = askWaits s i tag asked floor := by
    rw [hlist, hplace]
    exact congrArg (fun u => State.report u .deferred i (deferredPosition s i asked floor) asked floor)
      (answer_frameEnded { s with waitList := listAfterDefer s i asked floor } i .ask tag _)
  rw [← hwaits]
  exact if_congr decide_eq_true_iff rfl rfl

/-- A claim that no step meets waits when it may (R87, R88). -/
theorem claimAsk_waits {top : Nat} (h : ∀ g, floor ≤ g → g ≤ top → ¬ AskFits s i c g) (asked : Nat) :
    (frameEnded s i).claimAsk i c tag asked floor top true = (frameEnded s i).deferAsk i c tag asked floor := by
  unfold State.claimAsk
  rw [(askClaim_iff s i c floor top).2.mpr h]
  rfl

/-- A deferrable ASK that passes the checks of R84 and can be granted nothing is deferred. -/
theorem exec_ask_waits {a f flags : Byte} (hn : TakesFresh s i .ask tag) (hc : ActiveWith s i c) (hp : AskPasses s i c a.toNat f.toNat)
    (hd : flags.getLsbD 0 = true) (hno : ∀ g, f.toNat ≤ g → g ≤ a.toNat → g ≤ c.usableTop → ¬ AskFits s i c g) :
    exec (.ask i tag a f flags) s = .next (if s.episode.kind ≠ .none then askWaits s i tag a.toNat f.toNat
      else (askWaits s i tag a.toNat f.toNat).considerPreempt i c f.toNat) := by
  rw [exec_ask hn hc, newAsk_claims hp, hd, claimAsk_waits fun g hg hgt => hno g hg (by omega) (by omega), deferAsk_frameEnded]

/-! What a deferral leaves as it was. -/

theorem askWaits_slot : (askWaits s i tag asked floor).slot i =
    { s.slot i with link := replied .ask tag (.defer (deferredPosition s i asked floor)) (s.slot i).link } := by
  rw [askWaits, State.report_slot, withSlot_slot]

theorem askWaits_slot_other {j : SlotId} (h : j ≠ i) : (askWaits s i tag asked floor).slot j = s.slot j := by
  rw [askWaits, State.report_slot, withSlot_slot_other h]
  rfl

theorem askWaits_policy : (askWaits s i tag asked floor).policy = s.policy := State.report_policy _ _ _ _ _ _
theorem askWaits_waitList : (askWaits s i tag asked floor).waitList = listAfterDefer s i asked floor := State.report_waitList _ _ _ _ _ _
theorem askWaits_recency : (askWaits s i tag asked floor).recency = s.recency := State.report_recency _ _ _ _ _ _
theorem askWaits_episode : (askWaits s i tag asked floor).episode = s.episode := State.report_episode _ _ _ _ _ _

end

/-- Settles O37: the deferral of R87, behind which nothing lets a PREEMPT open. -/
theorem askDeferred : Obligations.AskDeferred := by
  intro s i tag asked floor flags c hs hn hc hp hd hno hplain
  obtain ⟨hjoins, hstays⟩ := deferredPlace (i := i) hs.wait asked.toNat floor.toNat
  refine ⟨_, _, hjoins, hstays, ?_⟩
  rw [exec_ask_waits hn hc hp hd hno]
  refine congrArg _ ?_
  change _ = askWaits s i tag asked.toNat floor.toNat
  by_cases hk : s.episode.kind = .none
  · have hclosed : ¬ PreemptOpens (askWaits s i tag asked.toNat floor.toNat) i c floor.toNat := by
      rintro ⟨hcls, hon, -⟩
      rw [askWaits_slot] at hcls
      rw [askWaits_policy] at hon
      obtain hoff | h0 | hopen := hplain
      · rw [hoff] at hon
        cases hon
      · exact absurd hcls (Nat.not_lt.mpr h0.le)
      · exact hopen hk
    rw [if_neg (not_not.mpr hk), considerPreempt_eq, if_neg hclosed]
  · rw [if_pos hk]

end Sys2Proof.Proofs
end

/-! The victims of a PREEMPT: the candidates of lower classes in the order of R145, and what their choice does (R145, R146). -/
section
namespace Sys2Proof.Proofs

open Machine Safety Laws

section
variable {s : State} {i : SlotId} {c : Card} {amount cls : Nat}

/-! The candidates below a class come first among all candidates (R145). -/

theorem isCandidate_below (s : State) (cls : Nat) (j : SlotId) :
    s.isCandidate (some cls) j = (s.isCandidate none j && decide ((s.slot j).cfg.cls < cls)) := by
  simp [State.isCandidate]

theorem shedClass_below (s : State) (cls k : Nat) :
    shedClass s (s.isCandidate (some cls)) k = if k < cls then shedClass s (s.isCandidate none) k else [] := by
  split
  · rename_i hk
    unfold shedClass
    congr 1 <;> refine List.filter_congr fun j _ => ?_
    all_goals
      rw [isCandidate_below]
      by_cases hj : (s.slot j).cfg.cls = k
      · simp [hj, hk]
      · simp [hj]
  · rename_i hk
    refine List.eq_nil_iff_forall_not_mem.mpr fun j hj => hk ?_
    obtain ⟨rfl, hc⟩ := mem_shedClass.mp hj
    rw [isCandidate_below, Bool.and_eq_true, decide_eq_true_iff] at hc
    exact hc.2

/-- Classes are taken lowest first. -/
theorem candidates_below_prefix (s : State) (cls : Nat) : s.candidates (some cls) <+: s.candidates none := by
  have hsplit : ∀ (f : Nat → List SlotId), [0, 1, 2, 3].flatMap (fun k => if k < cls then f k else []) <+: [0, 1, 2, 3].flatMap f := by
    intro f
    obtain h0 | rfl | rfl | rfl | h4 : cls = 0 ∨ cls = 1 ∨ cls = 2 ∨ cls = 3 ∨ 4 ≤ cls := by omega
    · simp [h0]
    · simp
    · simp
    · simp
    · have hall : ∀ k ∈ [0, 1, 2, 3], k < cls := fun k hk => by simp at hk; omega
      rw [List.flatMap_congr fun k hk => if_pos (hall k hk)]
  unfold State.candidates
  rw [inShedOrder_eq, inShedOrder_eq, funext (shedClass_below s cls)]
  exact hsplit _

/-- A choice that the front of a list completes takes nothing from the rest (R146). -/
theorem victimsOf_append {l rest : List SlotId} {sum : Nat} (hl : ∀ j ∈ l, ∃ c, Giving s j c) (hlt : sum < amount)
    (hle : amount ≤ sum + (l.map s.reduction).sum) : victimsOf s amount (l ++ rest) sum = victimsOf s amount l sum := by
  induction l generalizing sum with
  | nil => exact absurd hle (by simpa using hlt)
  | cons j l ih =>
    obtain ⟨c, hc⟩ := hl j List.mem_cons_self
    simp only [List.cons_append, victimsOf, hc.card]
    by_cases hr : sum + s.reduction j < amount
    · rw [if_pos hr, if_pos hr, ih (fun k hk => hl k (List.mem_cons_of_mem _ hk)) hr (by simpa [add_assoc] using hle)]
    · rw [if_neg hr, if_neg hr]

/-! What slots of lower classes can give (R145). -/

theorem canGive_below (s : State) (cls : Nat) (j : SlotId) : canGive s cls j = if s.isCandidate (some cls) j = true then s.reduction j else 0 := by
  unfold canGive State.isCandidate State.reduction
  cases hcard : (s.slot j).card with
  | none => simp
  | some c => simp [hcard, and_assoc]

theorem canGive_below_pos (h : Formed s) (j : SlotId) : 0 < canGive s cls j ↔ s.isCandidate (some cls) j = true := by
  rw [canGive_below]
  split
  · rename_i hj
    have hany : s.isCandidate none j = true := by
      rw [isCandidate_below, Bool.and_eq_true] at hj
      exact hj.1
    have hpos := (canGive_pos h j).mpr hany
    rw [canGive_eq h, if_pos hany] at hpos
    exact iff_of_true hpos hj
  · rename_i hj
    exact iff_of_false (lt_irrefl 0) hj

theorem canGive_le (h : Formed s) (cls : Nat) (j : SlotId) : canGive s cls j ≤ canGive s 4 j := by
  rw [canGive_below, canGive_eq h, isCandidate_below]
  by_cases hj : s.isCandidate none j = true
  · rw [if_pos hj]
    split
    · exact le_rfl
    · exact Nat.zero_le _
  · simp [hj]

theorem sum_canGive_below (h : Formed s) (cls : Nat) :
    (slotIds.map (canGive s cls)).sum = ((s.candidates (some cls)).map s.reduction).sum := by
  have hperm : (s.candidates (some cls)).Perm (slotIds.filter (s.isCandidate (some cls))) :=
    (List.perm_ext_iff_of_nodup (nodup_inShedOrder h.lists.recency _) (nodup_slotIds.filter _)).mpr fun j => by
      rw [mem_inShedOrder_iff (h.cls_le j), List.mem_filter, and_iff_right (mem_slotIds j)]
  rw [(hperm.map _).sum_eq, sum_map_filter]
  exact congrArg List.sum (List.map_congr_left fun j _ => canGive_below s cls j)

/-- Where the slots of lower classes can give the amount, the choice among them is that of R145 and R146: it is the choice among all
candidates, which does not get past them. -/
theorem shedChoice_below (h : Formed s) (hpos : 1 ≤ amount) (hle : amount ≤ (slotIds.map (canGive s cls)).sum) :
    ShedChoice s cls amount (victimsOf s amount (s.candidates (some cls)) 0) := by
  obtain ⟨rest, hrest⟩ := candidates_below_prefix s cls
  have hsame : victimsOf s amount (s.candidates none) 0 = victimsOf s amount (s.candidates (some cls)) 0 := by
    rw [← hrest]
    refine victimsOf_append (fun j hj => giving_of_candidate h (mem_inShedOrder hj)) hpos ?_
    rw [zero_add, ← sum_canGive_below h]
    exact hle
  obtain ⟨⟨hsorted, -, hpasses⟩, hentries, hfull, hlast, -⟩ := hsame ▸ shedChoice_victimsOf h hpos
  refine ⟨⟨hsorted, fun j hj => ?_, fun j hj k hk hkj => ?_⟩, hentries, hfull, fun h1 _ => ?_, fun hlt => absurd hle (Nat.not_le.mpr hlt)⟩
  · obtain ⟨v, hv, rfl⟩ := List.mem_map.mp hj
    exact (canGive_below_pos h _).mpr (mem_inShedOrder (victimsOf_slots v hv))
  · exact hpasses j hj k (hk.trans_le (canGive_le h cls k)) hkj
  · exact hlast h1 (hle.trans (List.sum_le_sum fun j _ => canGive_le h cls j))

/-! The choice carried out while the episode check finds nothing to do (R125, R146). -/

theorem makeVictim_taken_of_blocked (h : Sound nobody s) (hb : Blocked s) (hi : Shedable s i c) {g : Nat} (hg : g < c.held) :
    VictimsTaken s [victimFor s i g] (s.makeVictim i g) := by
  obtain ⟨heq, ha, hs, -, hep⟩ := makeVictim_spec h hb hi hg
  obtain ⟨⟨l, -, hl⟩, hw, -⟩ := reclaimBegun_spec (s.enterVictim i g) i g .shed ((h.holds i id).active hi.active hi.card).link
  refine ⟨hs, Evolves.refl.makeVictim i g, hep, fun v hv => ?_, fun j hj => ha.slot j (by simpa [victimFor] using hj), ?_, ?_⟩
  · rw [List.mem_singleton.mp hv, heq]
    exact ⟨l, hl⟩
  · rw [heq, hw]
    refine List.filter_congr fun e _ => ?_
    simp [victimFor]
  · rw [heq, reclaimBegun_recency]
    rfl

theorem takeVictims_taken_of_blocked {l : List SlotId} {sum : Nat} (hl : l.Nodup) (h : Sound nobody s) (hb : Blocked s) (hc : AllShedable s l) :
    VictimsTaken s (victimsOf s amount l sum) (takeVictims amount l sum s).2 := by
  induction l generalizing sum s with
  | nil => exact .refl h
  | cons i l ih =>
    obtain ⟨hi, hl⟩ := List.nodup_cons.mp hl
    obtain ⟨c, hs, hf⟩ := hc i List.mem_cons_self
    have hrest : AllShedable s l := fun j hj => hc j (List.mem_cons_of_mem _ hj)
    unfold takeVictims victimsOf
    simp only [hs.card]
    split
    · obtain ⟨-, ha, hsound, hblocked, hep⟩ := makeVictim_spec h hb hs hf
      have htail := ih hl hsound hblocked (hrest.rest hi ha (by rw [hep]; rfl)) (sum := sum + s.reduction i)
      rw [victimsOf_congr fun j hj => ha.slot j fun hji => hi (hji ▸ hj)] at htail
      refine (makeVictim_taken_of_blocked h hb hs hf).cons htail fun hv => ?_
      obtain ⟨v, hv, hvi⟩ := List.mem_map.mp hv
      have hvi : v.slot = i := hvi
      exact hi (hvi ▸ victimsOf_slots v hv)
    · exact makeVictim_taken_of_blocked h hb hs (lastTarget_lt hf)

end

end Sys2Proof.Proofs
end

/-! What a deferral leaves of account and invariant, and what the opening of a PREEMPT behind it does (R87, R144, R146, R149). -/
section
namespace Sys2Proof.Proofs

open Machine Safety Laws

section
variable {s : State} {i : SlotId} {tag : BitVec 3} {c : Card} {asked floor target : Nat}

/-! What a deferral leaves of the account and of the invariant. -/

theorem askWaits_available : (askWaits s i tag asked floor).available = s.available := State.available_report _ _ _ _ _ _

theorem askWaits_charge (j : SlotId) : ((askWaits s i tag asked floor).slot j).charge = (s.slot j).charge := by
  by_cases hj : j = i
  · rw [hj, askWaits_slot]
  · rw [askWaits_slot_other hj]

theorem askWaits_committed : (askWaits s i tag asked floor).committed = s.committed := by
  simp only [State.committed_eq_sum, askWaits_charge]

theorem askWaits_rest : (askWaits s i tag asked floor).rest = s.rest := State.rest_report _ _ _ _ _ _

/-- What a deferral needs beyond headroom is what the ASK needed. -/
theorem askWaits_missing : missing (askWaits s i tag asked floor) i c floor = missing s i c floor := by
  rw [missing, askWaits_committed, askWaits_available, askWaits_charge, missing]

theorem askWaits_fits (n : Nat) : Fits (askWaits s i tag asked floor) i n ↔ Fits s i n := by
  rw [Fits, askWaits_committed, askWaits_available, askWaits_charge]

/-- What slots can give a PREEMPT does not depend on their links. -/
theorem askWaits_canGive (cls : Nat) : canGive (askWaits s i tag asked floor) cls = canGive s cls := by
  funext j
  unfold canGive
  by_cases hj : j = i
  · rw [hj, askWaits_slot]
  · rw [askWaits_slot_other hj]

/-- The state with preemption off (R112). -/
def preemptionOff (s : State) : State := { s with policy := { s.policy with preempt := false } }

theorem preemptionOff_alike (s : State) : Alike s (preemptionOff s) := ⟨rfl, rfl, rfl, rfl, rfl⟩

theorem askWaits_preemptionOff_alike : Alike (askWaits (preemptionOff s) i tag asked floor) (askWaits s i tag asked floor) := by
  constructor <;> simp only [askWaits, State.report_frameCounter, State.report_slots, State.report_waitList, State.report_recency, State.report_episode] <;> rfl

/-- With preemption off a deferral is all that the ASK comes to, and the invariant does not read the policy. -/
theorem sound_askWaits (h : Sound nobody s) (ha : (s.slot i).link.asm ≠ .off) (hc : ActiveWith s i c) (hp : AskPasses s i c asked floor) (tag : BitVec 3) :
    Sound nobody (askWaits s i tag asked floor) := by
  obtain ⟨hr, hcount, hle, hheld, htop⟩ := hp
  have hoff : Sound nobody (frameEnded (preemptionOff s) i) :=
    frameDone_eq (s := preemptionOff s) ha ▸ (h.alike (preemptionOff_alike s) rfl).frameDone i
  have hslot : (frameEnded (preemptionOff s) i).slot i = { s.slot i with link := hunting (s.slot i).link } := frameEnded_slot _ _
  have hdefer := hoff.deferAsk (i := i) (c := c) (by rw [hslot]; exact hc.1) (by rw [hslot]; exact hc.2) (by rw [hslot]; exact hr)
    hheld hle hcount htop tag
  have hclosed : ¬ PreemptOpens (askWaits (preemptionOff s) i tag asked floor) i c floor := fun ⟨_, hon, _⟩ => by
    rw [askWaits_policy] at hon
    cases hon
  rw [deferAsk_frameEnded, considerPreempt_eq, if_neg hclosed, ite_self] at hdefer
  have hA : (askWaits (preemptionOff s) i tag asked floor).available = s.available := askWaits_available
  exact hdefer.alike askWaits_preemptionOff_alike (askWaits_available.trans hA.symm)

/-- The entry of a deferred ASK. -/
theorem exists_mem_listAfterDefer (s : State) (i : SlotId) (asked floor : Nat) :
    ∃ e ∈ listAfterDefer s i asked floor, e.slot = i ∧ e.kind = .step asked floor := by
  unfold listAfterDefer
  split
  · rename_i hsome
    obtain ⟨e, he, hei⟩ := (entryOf_isSome s i).mp hsome
    exact ⟨_, List.mem_map_of_mem he, by rw [if_pos hei]; exact hei, by rw [if_pos hei]⟩
  · exact ⟨_, mem_insertEntry.mpr (.inl rfl), rfl, rfl⟩

/-! The PREEMPT as it opens (R144, R149). -/

theorem preemptOpened_slot (j : SlotId) : (preemptOpened s i target).slot j = s.slot j := State.append_slot _ _ _
theorem preemptOpened_recency : (preemptOpened s i target).recency = s.recency := State.append_recency _ _
theorem preemptOpened_available : (preemptOpened s i target).available = s.available := State.available_append _ _
theorem preemptOpened_committed : (preemptOpened s i target).committed = s.committed := State.committed_append _ _

theorem preemptOpened_episode :
    (preemptOpened s i target).episode = { Episode.closed with kind := .preempt, beneficiary := some i, target := target } :=
  State.append_episode _ _

theorem preemptOpened_waitList : (preemptOpened s i target).waitList =
    s.waitList.map (fun e => if e.slot = i then { e with beneficiary := true } else e) := State.append_waitList _ _

theorem preemptOpened_reports (h : s.reports.length < 31) :
    (preemptOpened s i target).reports = s.reports ++ [chipReport .episodeOpen 1 target i.val] := by
  rw [preemptOpened, State.reportOpen, append_of_room (by exact h)]
  rfl

/-- The waiting entry of a slot whose floor step does not fit holds the episode check up (R150). -/
theorem blocked_preemptOpened {e : WaitEntry} (ho : Sound nobody (preemptOpened s i target)) (he : e ∈ s.waitList) (hei : e.slot = i)
    (hek : e.kind = .step asked floor) (hcard : (s.slot i).card = some c) (hsh : CardShape c) (hno : ¬ Fits s i (c.draw floor)) :
    Blocked (preemptOpened s i target) := by
  have hmem : { e with beneficiary := true } ∈ (preemptOpened s i target).waitList := by
    rw [preemptOpened_waitList]
    exact List.mem_map.mpr ⟨e, he, if_pos hei⟩
  refine .inr ⟨by rw [preemptOpened_episode], i, _, by rw [preemptOpened_episode], (entryOf_iff ho.lists).mpr ⟨hmem, hei⟩, ?_⟩
  refine (grantFor_none_iff _ _).mpr fun hcould => hno ?_
  rw [couldGrant, hek] at hcould
  obtain ⟨d, g, hd, hfg, -, hgt, hfit⟩ := hcould
  simp only [hei, preemptOpened_slot] at hd hfit
  obtain rfl : c = d := Option.some.inj (hcard.symm.trans hd)
  rw [Fits, preemptOpened_committed, preemptOpened_available, preemptOpened_slot] at hfit
  have hdraw := hsh.draw_le hfg (hgt.trans_lt hsh.usableTop)
  rw [Fits]
  omega

/-- The victims are taken from the slots of lower classes, and the episode check has nothing to do meanwhile (R146). -/
theorem preempt_victimsTaken (h : Sound nobody s) (hk : s.episode.kind = .none) {e : WaitEntry} (he : e ∈ s.waitList) (hei : e.slot = i)
    (hek : e.kind = .step asked floor) (hc : ActiveWith s i c) (hno : ¬ Fits s i (c.draw floor)) (ht : target ≤ 8184) :
    VictimsTaken (preemptOpened s i target) (victimsOf s target (s.candidates (some (s.slot i).cfg.cls)) 0)
      ((preemptOpened s i target).chooseVictims (some (s.slot i).cfg.cls) target).2 := by
  have ho : Sound nobody (preemptOpened s i target) := (h.opensPreempt hk he hei (by rw [hek]; nofun) ht).append _
  have hsh := ((h.holds i id).active hc.1 hc.2).cardShape
  have hcand : (preemptOpened s i target).candidates (some (s.slot i).cfg.cls) = s.candidates (some (s.slot i).cfg.cls) :=
    inShedOrder_congr preemptOpened_recency (fun j => by rw [preemptOpened_slot]) fun j => by
      rw [State.isCandidate, State.isCandidate, preemptOpened_slot]
  have hshed : AllShedable (preemptOpened s i target) ((preemptOpened s i target).candidates (some (s.slot i).cfg.cls)) :=
    candidates_shedable fun j hj hbj => by
      rw [preemptOpened_episode] at hbj
      obtain rfl : i = j := Option.some.inj hbj
      rw [isCandidate_below, Bool.and_eq_true, decide_eq_true_iff, preemptOpened_slot] at hj
      exact lt_irrefl _ hj.2
  have htaken : VictimsTaken (preemptOpened s i target)
      (victimsOf (preemptOpened s i target) target ((preemptOpened s i target).candidates (some (s.slot i).cfg.cls)) 0)
      ((preemptOpened s i target).chooseVictims (some (s.slot i).cfg.cls) target).2 :=
    takeVictims_taken_of_blocked (nodup_inShedOrder ho.lists.recency _) ho (blocked_preemptOpened ho he hei hek hc.2 hsh hno) hshed
  rwa [hcand, victimsOf_congr fun j _ => preemptOpened_slot j] at htaken

end

end Sys2Proof.Proofs
end

/-! A deferred ASK with preemption on: the PREEMPT that it opens with its victims, or none (O44). -/
section
namespace Sys2Proof.Proofs

open Machine Safety Laws

section
variable {s t : State} {i : SlotId} {tag : BitVec 3} {c : Card} {asked floor target : Nat} {new : List Victim}

/-! The PREEMPT behind a deferral, or none (R149). -/

theorem missing_pos (h : ¬ Fits s i (c.draw floor)) : 1 ≤ missing s i c floor := by
  rw [Fits] at h
  unfold missing
  omega

theorem missing_le (h : Formed s) (hc : ActiveWith s i c) (hf : floor ≤ c.usableTop) : missing s i c floor ≤ 8184 := by
  have hdraw := ((h.holds i).active hc.1 hc.2).draw_le hf
  have hK := h.committed_le i
  unfold missing
  omega

/-- The choice over the lower classes does not see the deferral: slot i is of none of them. -/
theorem askWaits_victimsOf : victimsOf (askWaits s i tag asked floor) target ((askWaits s i tag asked floor).candidates (some (s.slot i).cfg.cls)) 0 =
    victimsOf s target (s.candidates (some (s.slot i).cfg.cls)) 0 := by
  have hcls (j : SlotId) : ((askWaits s i tag asked floor).slot j).cfg.cls = (s.slot j).cfg.cls := by
    by_cases hj : j = i
    · rw [hj, askWaits_slot]
    · rw [askWaits_slot_other hj]
  have hcand : (askWaits s i tag asked floor).candidates (some (s.slot i).cfg.cls) = s.candidates (some (s.slot i).cfg.cls) :=
    inShedOrder_congr askWaits_recency hcls fun j => by
      by_cases hj : j = i
      · rw [hj, isCandidate_below, isCandidate_below, hcls]
        simp
      · rw [State.isCandidate, State.isCandidate, askWaits_slot_other hj]
  rw [hcand]
  refine victimsOf_congr fun j hj => askWaits_slot_other fun hji => ?_
  have hlow := mem_inShedOrder hj
  rw [hji, isCandidate_below, Bool.and_eq_true, decide_eq_true_iff] at hlow
  exact lt_irrefl _ hlow.2

/-- The conditions of R149 in the terms of the state before the ASK. -/
theorem askWaits_preemptOpens (h : Formed (askWaits s i tag asked floor)) (hon : s.policy.preempt = true) (hcls : 0 < (s.slot i).cfg.cls) :
    PreemptOpens (askWaits s i tag asked floor) i c floor ↔
      ¬ Fits s i (c.draw floor) ∧ missing s i c floor ≤ (slotIds.map (canGive s (s.slot i).cfg.cls)).sum := by
  rw [PreemptOpens, askWaits_policy, askWaits_fits, askWaits_missing, ← sum_canGive_below h, askWaits_canGive, askWaits_slot]
  exact ⟨fun ⟨_, _, hno, hle⟩ => ⟨hno, hle⟩, fun ⟨hno, hle⟩ => ⟨hcls, hon, hno, hle⟩⟩

/-- A deferred ASK whose floor does not fit, and for which lower classes can give enough, has its PREEMPT with its victims. -/
theorem considerPreempt_opens (h : Sound nobody s) (ha : (s.slot i).link.asm ≠ .off) (hc : ActiveWith s i c) (hp : AskPasses s i c asked floor)
    (hk : s.episode.kind = .none) (hon : s.policy.preempt = true) (hcls : 0 < (s.slot i).cfg.cls) (hno : ¬ Fits s i (c.draw floor))
    (hle : missing s i c floor ≤ (slotIds.map (canGive s (s.slot i).cfg.cls)).sum) :
    ∃ new, ShedChoice s (s.slot i).cfg.cls (missing s i c floor) new
      ∧ VictimsTaken (preemptOpened (askWaits s i tag asked floor) i (missing s i c floor)) new
        ((askWaits s i tag asked floor).considerPreempt i c floor) := by
  have hw := sound_askWaits h ha hc hp tag
  obtain ⟨-, -, -, -, htop⟩ := hp
  obtain ⟨e, he, hei, hek⟩ := exists_mem_listAfterDefer s i asked floor
  have hact : ActiveWith (askWaits s i tag asked floor) i c := by
    rw [ActiveWith, askWaits_slot]
    exact hc
  have htaken := preempt_victimsTaken hw (by rw [askWaits_episode]; exact hk) (by rw [askWaits_waitList]; exact he) hei hek hact
    (mt (askWaits_fits _).mp hno) (missing_le h.formed hc htop)
  rw [askWaits_slot, askWaits_victimsOf] at htaken
  refine ⟨_, shedChoice_below h.formed (missing_pos hno) hle, ?_⟩
  rw [considerPreempt_eq, if_pos ((askWaits_preemptOpens hw.formed hon hcls).mpr ⟨hno, hle⟩), askWaits_missing, askWaits_slot]
  exact htaken

/-- Otherwise the deferral is all. -/
theorem considerPreempt_stays (h : Sound nobody s) (ha : (s.slot i).link.asm ≠ .off) (hc : ActiveWith s i c) (hp : AskPasses s i c asked floor)
    (hon : s.policy.preempt = true) (hcls : 0 < (s.slot i).cfg.cls)
    (hno : Fits s i (c.draw floor) ∨ (slotIds.map (canGive s (s.slot i).cfg.cls)).sum < missing s i c floor) :
    (askWaits s i tag asked floor).considerPreempt i c floor = askWaits s i tag asked floor := by
  have hw := sound_askWaits h ha hc hp tag
  rw [considerPreempt_eq, if_neg fun hopen => ?_]
  obtain ⟨hfit, hle⟩ := (askWaits_preemptOpens hw.formed hon hcls).mp hopen
  exact hno.elim hfit (Nat.not_lt.mpr hle)

/-! What stands when the victims have been taken (R145, R146, R149). -/

/-- No victim is of the beneficiary's class. -/
theorem not_victim_of_choice (h : ShedChoice s (s.slot i).cfg.cls target new) : i ∉ new.map Victim.slot := fun hi => by
  obtain ⟨-, hgives, -⟩ := h.order
  have hpos : 0 < canGive s (s.slot i).cfg.cls i := hgives i hi
  simp [canGive_below, isCandidate_below] at hpos

section
variable (h : VictimsTaken (preemptOpened (askWaits s i tag asked floor) i target) new t)
include h

theorem preempt_episode : t.episode = { kind := .preempt, beneficiary := some i, target := target, victims := new, cuts := [] } := by
  rw [h.episode, preemptOpened_episode]
  rfl

theorem preempt_charge (j : SlotId) : (t.slot j).charge = (s.slot j).charge := by
  rw [(h.same j).1, preemptOpened_slot, askWaits_charge]

theorem preempt_slot_of_not_victim {j : SlotId} (hj : j ∉ new.map Victim.slot) : t.slot j = (askWaits s i tag asked floor).slot j := by
  rw [h.others j hj, preemptOpened_slot]

theorem preempt_reclaim {v : Victim} (hv : v ∈ new) : ∃ r, (t.slot v.slot).reclaim = some r ∧ r.target = v.target ∧ r.cause = .shed := by
  obtain ⟨l, hl⟩ := h.slots v hv
  exact ⟨_, by rw [hl]; rfl, rfl, rfl⟩

theorem preempt_waitList : t.waitList = ((listAfterDefer s i asked floor).map (fun e => if e.slot = i then { e with beneficiary := true } else e)).filter
    (fun e => decide (e.slot ∉ new.map Victim.slot)) := by
  rw [h.waiting, preemptOpened_waitList, askWaits_waitList]

theorem preempt_marked (hi : i ∉ new.map Victim.slot) : ∃ e, t.entryOf i = some e ∧ e.beneficiary = true := by
  obtain ⟨e, he, hei, -⟩ := exists_mem_listAfterDefer s i asked floor
  refine ⟨{ e with beneficiary := true }, (entryOf_iff h.sound.lists).mpr ⟨?_, hei⟩, rfl⟩
  rw [preempt_waitList h]
  exact List.mem_filter.mpr ⟨List.mem_map.mpr ⟨e, he, if_pos hei⟩, decide_eq_true (hei ▸ hi)⟩

/-- DEFERRED and EPISODE_OPEN, in this order, where there is room for both (R144, R149, R176). -/
theorem preempt_reports (hroom : s.reports.length < 30) : s.reports ++ [slotReport .deferred i (deferredPosition s i asked floor) asked floor,
    chipReport .episodeOpen 1 target i.val] <+: t.reports := by
  have hwaits : (askWaits s i tag asked floor).reports = s.reports ++ [slotReport .deferred i (deferredPosition s i asked floor) asked floor] :=
    congrArg State.reports (append_of_room (s := withSlot _ i _) (by exact hroom.trans (by decide)) _)
  have hopened := preemptOpened_reports (i := i) (target := target) (s := askWaits s i tag asked floor) (by rw [hwaits]; simp; omega)
  rw [hwaits, List.append_assoc] at hopened
  refine h.evolves.keepsReports (.inr ?_) ⟨[], by rw [hopened]; simp⟩
  simp [tailIsGap, chipReport]

/-- Nothing else changes (R149). -/
theorem preempt_rest : { t with slots := s.slots, waitList := s.waitList, episode := s.episode, reports := s.reports, gapSeen := s.gapSeen } = s := by
  have hrest : t.rest = s.rest := h.evolves.rest.trans ((State.rest_append _ _).trans askWaits_rest)
  have hrec : t.recency = s.recency := h.recency.trans (preemptOpened_recency.trans askWaits_recency)
  have hall := of_rest hrest
  rwa [← hrec] at hall

end

end

/-- Settles O44: the deferral of R87; behind it the PREEMPT of R149 with the choice of R145 and R146, or nothing. -/
theorem deferredAskPreempts : Obligations.DeferredAskPreempts := by
  intro s i tag asked floor flags c hs hn hc hp hd hno hon hcls hk
  obtain ⟨-, -, -, -, hsound⟩ := (blockInv_iff s).mp hs
  have hlink : (s.slot i).link.asm ≠ .off := hn.1.1
  have hopens := considerPreempt_opens (tag := tag) hsound hlink hc hp hk hon hcls
  have hstays := considerPreempt_stays (tag := tag) hsound hlink hc hp hon hcls
  have hexec := exec_ask_waits hn hc hp hd hno
  rw [if_neg (not_not.mpr hk)] at hexec
  refine ⟨_, _, _, hexec, deferredPlace hs.wait _ _, fun j => ?_, fun hfit hgive => ?_, fun hnone => ?_⟩
  · by_cases h : ¬ Fits s i (c.draw floor.toNat) ∧ missing s i c floor.toNat ≤ (slotIds.map (canGive s (s.slot i).cfg.cls)).sum
    · obtain ⟨new, -, htaken⟩ := hopens h.1 h.2
      exact preempt_charge htaken j
    · rw [hstays (by omega)]
      exact askWaits_charge j
  · obtain ⟨new, hchoice, htaken⟩ := hopens hfit hgive
    have hi := not_victim_of_choice hchoice
    obtain ⟨-, hgives, -⟩ := hchoice.order
    obtain ⟨-, -, -, -, -, hreaches, -⟩ := hchoice.last (missing_pos hfit) hgive
    rw [preempt_episode htaken]
    refine ⟨rfl, rfl, rfl, rfl, hreaches, hchoice, fun v hv => ⟨?_, preempt_reclaim htaken hv⟩, preempt_marked htaken hi, preempt_waitList htaken, ?_,
      fun j hj hjv => ?_, preempt_reports htaken, preempt_rest htaken⟩
    · exact hgives _ (List.mem_map_of_mem hv)
    · rw [preempt_slot_of_not_victim htaken hi, askWaits_slot]
    · rw [preempt_slot_of_not_victim htaken hjv, askWaits_slot_other hj]
  · rw [hstays hnone]
    exact ⟨askWaits_episode, rfl⟩

end Sys2Proof.Proofs
end

/-! The paced width and charge of R133 (O20). -/
section
namespace Sys2Proof.Proofs

open Machine Safety Laws

section
variable {d0 db dg : Nat}

/-- The paced width is the quotient rounded down (R133). -/
theorem pacedWidth_spec (h : d0 < db) (dg : Nat) :
    pacedWidth d0 db dg * (db - d0) ≤ (dg - d0) * 31 ∧ (dg - d0) * 31 < (pacedWidth d0 db dg + 1) * (db - d0) :=
  ⟨Nat.div_mul_le_self _ _, Nat.lt_mul_of_div_lt (Nat.lt_succ_self _) (Nat.sub_pos_of_lt h)⟩

/-- What the paced charge adds to draw(0) is the quotient rounded up (R133). -/
theorem pacedCharge_spec (d0 db w : Nat) : d0 ≤ pacedCharge d0 db w
    ∧ (db - d0) * w ≤ 31 * (pacedCharge d0 db w - d0) ∧ 31 * (pacedCharge d0 db w - d0) < (db - d0) * w + 31 := by
  have hceil : pacedCharge d0 db w = d0 + ((db - d0) * w + 30) / 31 := rfl
  omega

/-- The paced charge does not exceed the draw of the target (R133). -/
theorem pacedCharge_le_target (h0 : d0 ≤ dg) (h : d0 < db) : pacedCharge d0 db (pacedWidth d0 db dg) ≤ dg := by
  obtain ⟨hfloor, -⟩ := pacedWidth_spec h dg
  obtain ⟨-, -, hceil⟩ := pacedCharge_spec d0 db (pacedWidth d0 db dg)
  rw [Nat.mul_comm] at hfloor
  omega

/-- A numerator below the denominator gives no width, and with it draw(0) alone (R133). -/
theorem pacedWidth_eq_zero (h : (dg - d0) * 31 < db - d0) : pacedWidth d0 db dg = 0 := Nat.div_eq_of_lt h

theorem pacedCharge_zero (d0 db : Nat) : pacedCharge d0 db 0 = d0 := by simp [pacedCharge, Config.frameLength]

end

/-- Settles O20: both roundings, the bounds that follow from them, and that both grow with the target. -/
theorem pacedWidthAndCharge : Obligations.PacedWidthAndCharge := by
  refine ⟨fun d0 db dg w p h0 hlt hw hp => ?_, by decide, by decide, by decide, by decide⟩
  subst hw hp
  have hbasis : d0 < db := h0.trans_lt hlt
  have hle := pacedCharge_le_target h0 hbasis
  refine ⟨pacedWidth_spec hbasis dg, pacedCharge_spec _ _ _, pacedWidth_le hlt h0, fun hsmall => ?_, hle, hle.trans_lt hlt, fun dh _ hdh => ?_⟩
  · rw [pacedWidth_eq_zero hsmall]
    exact ⟨rfl, pacedCharge_zero _ _⟩
  · exact ⟨pacedWidth_mono hdh, pacedCharge_mono (pacedWidth_mono hdh)⟩

end Sys2Proof.Proofs
end

/-! The expiry of a reclaim window (O18). -/
section
namespace Sys2Proof.Proofs

open Machine Safety Laws

section
variable {s : State} {i : SlotId} {c : Card} {r : Reclaim}

/-- A reclaim window is due in phase RECLAIMING when its timer has counted to its length (R1, R134). -/
theorem windowDue_iff {t : Slot} (hr : t.reclaim = some r) : t.windowDue = true ↔ r.phase = .reclaiming ∧ r.window = some 0 := by
  simp [Slot.windowDue, hr, Timer.due]

theorem windowEvent_due (hc : (s.slot i).card = some c) (hr : (s.slot i).reclaim = some r) (hd : (s.slot i).windowDue = true) :
    s.windowEvent i = withSlot s i (Slot.windowExpires c r (s.slot i)) := by
  unfold State.windowEvent State.expireWindow
  dsimp only
  rw [if_pos hd, hc, hr]
  rfl

end

/-- Settles O18: the window is due, or nothing happens. -/
theorem reclaimWindowExpiry : Obligations.ReclaimWindowExpiry := by
  intro s i c r hc hr
  refine ⟨fun hp hw => congrArg Host.Outcome.next (windowEvent_due hc hr ((windowDue_iff hr).mpr ⟨hp, hw⟩)), fun hw => ?_⟩
  have hrunning : (s.slot i).windowDue = false := Bool.eq_false_iff.mpr fun hd => hw ((windowDue_iff hr).mp hd).2
  exact congrArg Host.Outcome.next (windowEvent_quiet hrunning)

end Sys2Proof.Proofs
end

/-! The victim entry of a slot after its charge (R148). -/
section
namespace Sys2Proof.Proofs

open Machine Safety Laws

/-- The victim list once slot i with step table c holds a charge: the remaining reduction of its entry follows (R148). -/
def victimsAt (i : SlotId) (c : Card) (charge : Nat) (l : List Victim) : List Victim :=
  l.map fun v => if v.slot = i then { v with remaining := charge - c.draw v.target } else v

theorem refreshVictim_eq {u : State} {i : SlotId} {t : Slot} {c : Card} (ht : u.slot i = t) (hc : t.card = some c) :
    u.refreshVictim i = { u with episode := { u.episode with victims := victimsAt i c t.charge u.episode.victims } } := by
  subst ht
  unfold State.refreshVictim State.remainingFor
  rw [hc]
  rfl

end Sys2Proof.Proofs
end

/-! A slot's frame start (O19). -/
section
namespace Sys2Proof.Proofs

open Machine Safety Laws

section
variable {s : State} {i : SlotId} {c : Card} {r : Reclaim} {b w : Nat}

/-- The frame start of slot i has been taken, and nothing made of it yet. -/
def frameTaken (s : State) (i : SlotId) : State := withSlot s i { s.slot i with frameDue := false }

theorem frameTaken_slot : (frameTaken s i).slot i = { s.slot i with frameDue := false } := withSlot_slot _ _ _

theorem fits_frameTaken (n : Nat) : Fits (frameTaken s i) i n ↔ Fits s i n := by
  have hcommitted : (frameTaken s i).committed = s.committed := committed_withSlot _ _ _ rfl
  rw [Fits, hcommitted, frameTaken_slot]
  rfl

/-! The cases of a frame start (R141). -/

theorem modSlot_frameTaken_slot : (s.modSlot i fun t => { t with frameDue := false }).slot i = { s.slot i with frameDue := false } :=
  frameTaken_slot

theorem startFrame_width (hc : (s.slot i).card = some c) (hr : (s.slot i).reclaim = some r) (hw : (s.slot i).pendWidth = some w) :
    s.startFrame i = (frameTaken s i).takeWidth i c r w := by
  unfold State.startFrame
  dsimp only
  rw [modSlot_frameTaken_slot, hc, hr, hw]
  rfl

theorem startFrame_noWidth (hc : (s.slot i).card = some c) (hr : (s.slot i).reclaim = some r) (hw : (s.slot i).pendWidth = none) :
    s.startFrame i = if r.liftPending then (frameTaken s i).claimLift i c else frameTaken s i := by
  unfold State.startFrame
  dsimp only
  rw [modSlot_frameTaken_slot, hc, hr, hw]
  rfl

/-- In a slot with no reclaim in progress the frame start is taken, and no more (R141). -/
theorem startFrame_noReclaim (h : (s.slot i).card = none ∨ (s.slot i).reclaim = none) : s.startFrame i = frameTaken s i := by
  unfold State.startFrame
  dsimp only
  rw [modSlot_frameTaken_slot]
  obtain hc | hr := h
  · rw [hc]
    cases (s.slot i).reclaim <;> rfl
  · rw [hr]
    cases (s.slot i).card <;> rfl

/-- With no width to apply and no conclusion held open the frame start is taken, and no more (R131, R141). -/
theorem startFrame_plain (hw : (s.slot i).pendWidth = none) (hl : ∀ r, (s.slot i).reclaim = some r → r.liftPending = false) :
    s.startFrame i = frameTaken s i := by
  cases hc : (s.slot i).card with
  | none => exact startFrame_noReclaim (.inl hc)
  | some c =>
    cases hr : (s.slot i).reclaim with
    | none => exact startFrame_noReclaim (.inr hr)
    | some r =>
      rw [startFrame_noWidth hc hr hw, hl r hr]
      rfl

/-- FRAME_START of a slot whose frame start is due. -/
theorem exec_frameStart (hd : (s.slot i).frameDue = true) : exec (.frameStart i) s = .next (s.startFrame i) := congrArg _ (if_pos hd)

/-! A pending width takes effect (R140, R141). -/

/-- Width w of basis step b stands, and the victim entry has not followed the paced charge yet. -/
def widthApplied (s : State) (i : SlotId) (c : Card) (r : Reclaim) (b w : Nat) : State :=
  (withSlot s i
    { s.slot i with
      frameDue := false, curWidth := some w, pendWidth := none, reclaim := some { r with phase := .paced }
      charge := c.paced b w
      run := decide ((s.frameCounter + 31 - 4 * i.val) % 31 < w)
      link := Link.placeNotice .paced w (s.slot i).link }).report .paced i w (c.paced b w) 0

theorem takeWidth_frameTaken (hc : ActiveWith s i c) (hb : r.basis = some b) : (frameTaken s i).takeWidth i c r w =
    State.followUpIf
      { widthApplied s i c r b w with
        episode := { (widthApplied s i c r b w).episode with
          victims := victimsAt i c (c.paced b w) (widthApplied s i c r b w).episode.victims } }
      (decide (c.paced b w ≠ (s.slot i).charge)) := by
  obtain ⟨hst, hcard⟩ := hc
  have hrun : driven s.frameCounter i (Slot.applyWidth c r w { s.slot i with frameDue := false }) =
      { s.slot i with
        frameDue := false, curWidth := some w, pendWidth := none, reclaim := some { r with phase := .paced }
        charge := c.paced b w
        run := decide ((s.frameCounter + 31 - 4 * i.val) % 31 < w)
        link := Link.placeNotice .paced w (s.slot i).link } := by
    simp only [driven, runAt, Slot.applyWidth, hst, hb, decide_true, Bool.true_and]
    rfl
  have happlied : (((frameTaken s i).modSlot i (Slot.applyWidth c r w)).driveRun i).report .paced i w (c.paced b w) 0 =
      widthApplied s i c r b w := by
    rw [modSlot_driveRun, modSlot_eq, frameTaken_slot, frameTaken, withSlot_withSlot]
    exact congrArg (fun t => (withSlot s i t).report .paced i w (c.paced b w) 0) hrun
  unfold State.takeWidth
  dsimp only
  rw [hb, Option.getD_some, happlied, frameTaken_slot]
  exact congrArg (fun u => State.followUpIf u _) (refreshVictim_eq ((State.report_slot _ _ _ _ _ _ _).trans (withSlot_slot _ _ _)) hcard)

/-! A conclusion held open claims its lift (R131). -/

/-- The end of the reclaim at the step held. -/
theorem endReclaim_held {t : Slot} (hc : t.card = some c) (hw : t.pendWidth = none) : Slot.endReclaim c c.held t =
    { t with
      charge := c.draw c.held, reclaim := none, curWidth := none, lease := if c.held = 0 then none else t.lease, run := true
      link := Link.dropReclaim t.link } := by
  cases t
  cases hc
  cases hw
  rfl

theorem claimLift_frameTaken : (frameTaken s i).claimLift i c =
    if Fits s i (c.draw c.held) then
      (withSlot s i { Slot.endReclaim c c.held (s.slot i) with frameDue := false }).report .paced i 31 (c.draw c.held) 0
    else frameTaken s i := by
  have hfits : (frameTaken s i).within ((frameTaken s i).increase i (c.draw c.held)) = true ↔ Fits s i (c.draw c.held) := by
    rw [within_iff_fits, decide_eq_true_iff, fits_frameTaken]
  have hended : (frameTaken s i).modSlot i (Slot.endReclaim c c.held) =
      withSlot s i { Slot.endReclaim c c.held (s.slot i) with frameDue := false } := by
    rw [modSlot_eq, frameTaken_slot, frameTaken, withSlot_withSlot]
    rfl
  unfold State.claimLift
  rw [hended]
  exact if_congr hfits rfl rfl

/-- FRAME_START of an ACTIVE slot with a conclusion held open. -/
theorem exec_frameStart_heldOpen (hd : (s.slot i).frameDue = true) (hw : (s.slot i).pendWidth = none) (hc : ActiveWith s i c)
    (hr : (s.slot i).reclaim = some r) (hl : r.liftPending = true) :
    exec (.frameStart i) s = .next ((frameTaken s i).claimLift i c) := by
  rw [exec_frameStart hd, startFrame_noWidth hc.2 hr hw, hl]
  rfl

end

/-- Settles O19: a pending width is applied; without one a conclusion held open claims its lift, or only the start is taken. -/
theorem frameStart : Obligations.FrameStart := by
  refine ⟨fun s i c r b w hc hr hb hw hd u hu v hv => ?_, fun s i hd hw =>
    ⟨fun c r hc hr hl hfit => ?_, fun c r hc hr hl hfit => ?_, fun hl => ?_⟩⟩
  · subst hu hv
    rw [exec_frameStart hd, startFrame_width hc.2 hr hw, takeWidth_frameTaken hc hb, followUpIf_eq]
    exact ⟨fun h => congrArg _ (if_pos h), fun h => congrArg _ (if_neg (not_not.mpr h))⟩
  · rw [exec_frameStart_heldOpen hd hw hc hr hl, claimLift_frameTaken, if_pos hfit, endReclaim_held hc.2 hw]
  · rw [exec_frameStart_heldOpen hd hw hc hr hl, claimLift_frameTaken, if_neg hfit]
    rfl
  · rw [exec_frameStart hd, startFrame_plain hw hl]
    rfl

end Sys2Proof.Proofs
end

/-! A CONFIRM that is refused, or partial progress (O41). -/
section
namespace Sys2Proof.Proofs

open Machine Safety Laws

section
variable {s : State} {i : SlotId} {tag : BitVec 3} {c : Card} {r : Reclaim} {t : Nat}

/-- A CONFIRM outside a reclaim (R127). -/
theorem newConfirm_noReclaim (hr : (s.slot i).reclaim = none) : (frameEnded s i).newConfirm i c tag t = refused s i .confirm tag .noReclaim := by
  rw [State.newConfirm, frameEnded_reclaim, hr]
  exact refuse_eq_refused _ _ _ _ _

/-- A CONFIRM within a reclaim by its step (R127, R128, R132). -/
theorem newConfirm_reclaim (hr : (s.slot i).reclaim = some r) : (frameEnded s i).newConfirm i c tag t =
    if c.held ≤ t then refused s i .confirm tag .badStep
    else if t ≤ r.target then (frameEnded s i).concludeReclaim i c r .confirm tag t
    else (frameEnded s i).partialReclaim i c r tag t := by
  rw [State.newConfirm, frameEnded_reclaim, hr]
  exact if_congr Iff.rfl (refuse_eq_refused _ _ _ _ _) rfl

/-- Partial progress neither reads nor writes the Link Engine (R132). -/
theorem progress_withLink (sl : Slot) (l : Link) : Slot.progress c t r { sl with link := l } = { Slot.progress c t r sl with link := l } := by
  unfold Slot.progress
  cases r.phase <;> rfl

theorem progress_link (sl : Slot) : (Slot.progress c t r sl).link = sl.link := by
  have hlink := congrArg Slot.link (progress_withLink (c := c) (t := t) (r := r) sl sl.link)
  exact hlink

/-- Slot i has come to step t and stands as `sl`, before any follow-up: DONE(0), CONFIRMED with its charge, and the victim entry (R132, R148). -/
def progressed (s : State) (i : SlotId) (tag : BitVec 3) (c : Card) (t : Nat) (sl : Slot) : State :=
  { (withSlot s i { sl with link := replied .confirm tag (.done 0) (s.slot i).link }).report .confirmed i t sl.charge 0 with
    episode := { s.episode with victims := victimsAt i c sl.charge s.episode.victims } }

/-- Partial progress is followed up unless the slot is PACED (R132). -/
theorem partialReclaim_frameEnded (hr : (s.slot i).reclaim = some r) : (frameEnded s i).partialReclaim i c r tag t =
    (progressed s i tag c t (Slot.progress c t r (s.slot i))).followUpIf (decide (r.phase ≠ .paced)) := by
  have hanswer : ((frameEnded s i).modSlot i (Slot.progress c t r)).answer i .confirm tag (.done 0) =
      withSlot s i { Slot.progress c t r (s.slot i) with link := replied .confirm tag (.done 0) (s.slot i).link } := by
    rw [answer_modSlot_frameEnded (hf := progress_link), progress_withLink]
  obtain ⟨-, -, hcard, -⟩ := progress_same c t r (s.slot i) hr
  unfold State.partialReclaim
  dsimp only
  rw [hanswer, withSlot_slot, refreshVictim_eq ((State.report_slot _ _ _ _ _ _ _).trans (withSlot_slot _ _ _)) (by exact hcard),
    State.report_episode]
  rfl

/-- A CONFIRM above the target and below the held step is partial progress (R132). -/
theorem exec_confirm_progresses {target : Byte} (hn : TakesFresh s i .confirm tag) (hc : ActiveWith s i c)
    (hr : (s.slot i).reclaim = some r) (hlt : target.toNat < c.held) (hgt : r.target < target.toNat) : exec (.confirm i tag target) s =
      .next ((progressed s i tag c target.toNat (Slot.progress c target.toNat r (s.slot i))).followUpIf (decide (r.phase ≠ .paced))) := by
  rw [exec_confirm hn hc, newConfirm_reclaim hr, ← partialReclaim_frameEnded hr]
  exact congrArg _ ((if_neg (Nat.not_le.mpr hlt)).trans (if_neg (Nat.not_le.mpr hgt)))

end

/-- Settles O41: the two refusals of R127, then the slot of R132 in each phase. -/
theorem confirmRefusalsAndProgress : Obligations.ConfirmRefusalsAndProgress := by
  intro s i tag target c hn hc
  refine ⟨fun hr => ?_, fun hr hle => ?_, fun r hr hlt hgt after hafter => ?_⟩
  · rw [exec_confirm hn hc, newConfirm_noReclaim hr]
  · obtain ⟨r, hr⟩ := Option.ne_none_iff_exists'.mp hr
    rw [exec_confirm hn hc, newConfirm_reclaim hr, if_pos hle]
  · rw [exec_confirm_progresses hn hc hr hlt hgt, followUpIf_eq]
    refine ⟨fun hp => ?_, fun hp => ?_, fun hp => ?_⟩
    · rw [if_pos (by rw [hp]; nofun), hafter, Slot.progress, hp]
      rfl
    · rw [if_pos (by rw [hp]; nofun), hafter, Slot.progress, hp]
      rfl
    · rw [if_neg (not_not.mpr hp), hafter, Slot.progress, hp]
      rfl

end Sys2Proof.Proofs
end

/-! What E counts for one slot, and the relation between two states that keeps an OVERDRAFT covered (R144, R148). -/
section
namespace Sys2Proof.Proofs

open Machine Safety Laws

section
variable {e f : Episode} {i j : SlotId}

/-- What the expected reduction counts for slot j: its remaining reduction as a victim, or its counted charge as a cut slot (R144). -/
def credit (e : Episode) (j : SlotId) : Nat :=
  ((e.victims.filter (fun v => decide (v.slot = j))).map Victim.remaining).sum
    + ((e.cuts.filter (fun x => decide (x.slot = j))).map CutEntry.counted).sum

/-- A sum over a list, slot by slot. -/
theorem sum_by_slot {α : Type} (slot : α → SlotId) (g : α → Nat) (l : List α) :
    (l.map g).sum = ∑ j, ((l.filter (fun x => decide (slot x = j))).map g).sum := by
  induction l with
  | nil => simp
  | cons x l ih =>
    have hx : ∀ j, (((x :: l).filter (fun y => decide (slot y = j))).map g).sum
        = (if slot x = j then g x else 0) + ((l.filter (fun y => decide (slot y = j))).map g).sum := fun j => by
      by_cases h : slot x = j <;> simp [h]
    simp only [hx, Finset.sum_add_distrib, Finset.sum_ite_eq, Finset.mem_univ, if_true, List.map_cons, List.sum_cons, ih]

/-- E is the sum of the credits (R144). -/
theorem expected_eq_sum (e : Episode) : e.expected = ∑ j, credit e j := by
  simp only [Episode.expected, credit, Finset.sum_add_distrib, ← sum_by_slot]

/-- In a list that names each slot once, what names slot i is one entry or none. -/
theorem filter_slot_cases {α : Type} {slot : α → SlotId} {l : List α} (h : (l.map slot).Nodup) (i : SlotId) :
    ((∀ x ∈ l, slot x ≠ i) ∧ l.filter (fun x => decide (slot x = i)) = [])
      ∨ ∃ x ∈ l, slot x = i ∧ l.filter (fun x => decide (slot x = i)) = [x] := by
  by_cases hx : ∃ x ∈ l, slot x = i
  · obtain ⟨x, hm, hi⟩ := hx
    obtain ⟨front, back, rfl⟩ := List.append_of_mem hm
    rw [(List.perm_middle.map slot).nodup_iff, List.map_cons, List.nodup_cons] at h
    have hne : ∀ y ∈ front ++ back, slot y ≠ i := fun y hy hc => h.1 (List.mem_map.mpr ⟨y, hy, hc.trans hi.symm⟩)
    have hf : front.filter (fun y => decide (slot y = i)) = [] := List.filter_eq_nil_iff.mpr fun y hy => by
      simpa using hne y (List.mem_append_left _ hy)
    have hb : back.filter (fun y => decide (slot y = i)) = [] := List.filter_eq_nil_iff.mpr fun y hy => by
      simpa using hne y (List.mem_append_right _ hy)
    exact .inr ⟨x, hm, hi, by rw [List.filter_append, List.filter_cons_of_pos (by simpa using hi), hf, hb]; rfl⟩
  · have hne : ∀ x ∈ l, slot x ≠ i := fun x hm hi => hx ⟨x, hm, hi⟩
    exact .inl ⟨hne, List.filter_eq_nil_iff.mpr fun x hm => by simpa using hne x hm⟩

/-- A slot is counted once: as a victim, as a cut slot, or not at all (R144). -/
theorem credit_cases (hn : (e.victims.map Victim.slot ++ e.cuts.map CutEntry.slot).Nodup) (i : SlotId) :
    credit e i = 0 ∨ (∃ v ∈ e.victims, v.slot = i ∧ credit e i = v.remaining) ∨ ∃ x ∈ e.cuts, x.slot = i ∧ credit e i = x.counted := by
  obtain ⟨hv, hx, hd⟩ := List.nodup_append.mp hn
  unfold credit
  rcases filter_slot_cases hv i with ⟨-, hvf⟩ | ⟨v, hvm, hvi, hvf⟩ <;> rcases filter_slot_cases hx i with ⟨-, hxf⟩ | ⟨x, hxm, hxi, hxf⟩ <;>
    rw [hvf, hxf]
  · exact .inl rfl
  · exact .inr (.inr ⟨x, hxm, hxi, by simp⟩)
  · exact .inr (.inl ⟨v, hvm, hvi, by simp⟩)
  · exact absurd (hvi.trans hxi.symm) (hd _ (List.mem_map_of_mem hvm) _ (List.mem_map_of_mem hxm))

/-- The lists change at slot i only. -/
theorem credit_victims_other (hj : j ≠ i) : credit { e with victims := e.victims.filter (fun v => decide (v.slot ≠ i)) } j = credit e j := by
  unfold credit
  rw [List.filter_filter]
  congr 4
  funext v
  by_cases hv : v.slot = j <;> simp [hv, hj]

theorem credit_cuts_other (hj : j ≠ i) : credit { e with cuts := e.cuts.filter (fun x => decide (x.slot ≠ i)) } j = credit e j := by
  unfold credit
  rw [List.filter_filter]
  congr 4
  funext x
  by_cases hx : x.slot = j <;> simp [hx, hj]

theorem credit_addVictim (v : Victim) (j : SlotId) : credit e j ≤ credit { e with victims := e.victims ++ [v] } j := by
  simp only [credit, List.filter_append, List.map_append, List.sum_append]
  omega

theorem credit_addCut (x : CutEntry) (j : SlotId) :
    credit { e with cuts := e.cuts ++ [x] } j = credit e j + if x.slot = j then x.counted else 0 := by
  by_cases hx : x.slot = j <;> simp [credit, hx, Nat.add_assoc]

/-- A victim's record is written again, where the charge `a` becomes `b` (R148). -/
theorem credit_map (hn : (e.victims.map Victim.slot ++ e.cuts.map CutEntry.slot).Nodup) {g : Victim → Victim} (hg : ∀ v, (g v).slot = v.slot)
    {a b : Nat} (hle : b ≤ a) (hv : ∀ v ∈ e.victims, v.slot = i → b + v.remaining ≤ a + (g v).remaining) :
    b + credit e i ≤ a + credit { e with victims := e.victims.map g } i := by
  have hf : (e.victims.map g).filter (fun v => decide (v.slot = i)) = (e.victims.filter (fun v => decide (v.slot = i))).map g := by
    rw [List.filter_map]
    simp only [Function.comp_def, hg]
  simp only [credit, hf]
  rcases filter_slot_cases (List.nodup_append.mp hn).1 i with ⟨-, h0⟩ | ⟨v, hm, hi, h1⟩
  · rw [h0]
    simp only [List.map_nil, List.sum_nil]
    omega
  · have := hv v hm hi
    rw [h1]
    simp only [List.map_cons, List.map_nil, List.sum_cons, List.sum_nil]
    omega

theorem credit_map_other {g : Victim → Victim} (hg : ∀ v, (g v).slot = v.slot) (ho : ∀ v, v.slot ≠ i → g v = v) (hj : j ≠ i) :
    credit { e with victims := e.victims.map g } j = credit e j := by
  have hf : (e.victims.map g).filter (fun v => decide (v.slot = j)) = (e.victims.filter (fun v => decide (v.slot = j))).map g := by
    rw [List.filter_map]
    simp only [Function.comp_def, hg]
  simp only [credit, hf, List.map_map]
  congr 2
  refine List.map_congr_left fun v hv => ?_
  have hvj : v.slot = j := by simpa using (List.mem_filter.mp hv).2
  rw [Function.comp, ho v (hvj ▸ hj)]

end

section
variable {P : SlotId → Prop} {s u : State} {i : SlotId} {c : Card}

/-- No more is counted for a slot than its charge (R148). -/
theorem Core.credit_le (h : Core P s) (j : SlotId) : credit s.episode j ≤ (s.slot j).charge := by
  by_cases hP : P j
  · have hv := h.vacant j hP
    rcases credit_cases h.lists.shed j with h0 | ⟨v, hm, hj, -⟩ | ⟨x, hm, hj, -⟩
    · omega
    · exact absurd hj (hv.victim v hm)
    · exact absurd hj (hv.cut x hm)
  · have hh := h.holds j hP
    rcases credit_cases h.lists.shed j with h0 | ⟨v, hm, hj, he⟩ | ⟨x, hm, hj, he⟩
    · omega
    · obtain ⟨c, r, -, -, -, -, hr⟩ := hh.victims v hm hj
      omega
    · exact he.trans_le (hh.cuts x hm hj).2.ge

/-- Slot i is ACTIVE with card c, under reclaim r, in a state of the invariant. -/
structure UnderReclaim (P : SlotId → Prop) (s : State) (i : SlotId) (c : Card) (r : Reclaim) : Prop where
  core : Core P s
  free : ¬ P i
  state : (s.slot i).state = .active
  card : (s.slot i).card = some c
  reclaim : (s.slot i).reclaim = some r

namespace UnderReclaim

variable {r : Reclaim} (h : UnderReclaim P s i c r)
include h

theorem active : Active s.frameCounter i (s.slot i) c := (h.core.holds i h.free).active h.state h.card

theorem powered : (s.slot i).powered = true := by rw [Slot.powered, h.state]

/-- A victim's record reads the reclaim's target and the card's draws (R148). -/
theorem victim {v : Victim} (hv : v ∈ s.episode.victims) (hi : v.slot = i) :
    v.target = r.target ∧ v.remaining = (s.slot i).charge - c.draw r.target := by
  obtain ⟨c', r', hc, hr, ht, -, hrem⟩ := (h.core.holds i h.free).victims v hv hi
  obtain rfl : c = c' := Option.some.inj (h.card.symm.trans hc)
  obtain rfl : r = r' := Option.some.inj (h.reclaim.symm.trans hr)
  exact ⟨ht.symm, by rw [hrem, ht]⟩

/-- For a slot under reclaim no more is counted than its charge above the target's draw (R148). -/
theorem credit_le : credit s.episode i ≤ (s.slot i).charge - c.draw r.target := by
  rcases credit_cases h.core.lists.shed i with h0 | ⟨v, hm, hi, he⟩ | ⟨x, hm, hi, -⟩
  · omega
  · exact he.trans_le (h.victim hm hi).2.le
  · exact absurd hi ((h.core.holds i h.free).noCut_of_active h.state x hm)

end UnderReclaim

/-- What keeps an OVERDRAFT covered from s to u: A has not fallen, in no slot has the charge less what E counts for it risen, and no slot has
been powered (R144, R148). -/
structure Backs (s u : State) : Prop where
  kind : s.episode.kind = .overdraft
  available : s.available ≤ u.available
  charge : ∀ j, (u.slot j).charge + credit s.episode j ≤ (s.slot j).charge + credit u.episode j
  powered : ∀ j, (u.slot j).powered = true → (s.slot j).powered = true

/-- An OVERDRAFT that is open in u was open in s, and is covered if it was. -/
def Eases (s u : State) : Prop := u.episode.kind = .overdraft → Backs s u

theorem Eases.refl (s : State) : Eases s s := fun hk => ⟨hk, le_rfl, fun _ => le_rfl, fun _ => id⟩

theorem Eases.trans {t : State} (h : Eases s u) (h' : Eases u t) : Eases s t := fun hk => by
  have h' := h' hk
  have h := h h'.kind
  refine ⟨h.kind, h.available.trans h'.available, fun j => ?_, fun j hp => h.powered j (h'.powered j hp)⟩
  have h1 := h.charge j
  have h2 := h'.charge j
  omega

/-- K less E has not risen, so what was covered is. -/
theorem Eases.covered (h : Eases s u) (hs : OverdraftCovered s) : OverdraftCovered u := fun hk => by
  have h := h hk
  rcases hs h.kind with hc | hp
  · left
    have hsum : ∑ j, ((u.slot j).charge + credit s.episode j) ≤ ∑ j, ((s.slot j).charge + credit u.episode j) :=
      Finset.sum_le_sum fun j _ => h.charge j
    simp only [Finset.sum_add_distrib, ← State.committed_eq_sum, ← expected_eq_sum] at hsum
    have := h.available
    omega
  · right
    intro j
    by_contra hn
    rw [Bool.not_eq_false] at hn
    have := h.powered j hn
    rw [hp j] at this
    cases this

/-- No OVERDRAFT is open. -/
theorem eases_of_kind (h : u.episode.kind ≠ .overdraft) : Eases s u := fun hk => absurd hk h

/-- Where no OVERDRAFT is open, none is opened by what leaves the episode record. -/
theorem eases_of_closed (hk : s.episode.kind ≠ .overdraft) (he : u.episode = s.episode) : Eases s u := eases_of_kind (he ▸ hk)

/-- Slots change without a raise and without power, the episode record not at all. -/
theorem eases_of_slots (he : u.episode = s.episode) (hA : s.available ≤ u.available) (hc : ∀ j, (u.slot j).charge ≤ (s.slot j).charge)
    (hp : ∀ j, (u.slot j).powered = true → (s.slot j).powered = true) : Eases s u := fun hk =>
  ⟨he ▸ hk, hA, fun j => by rw [he]; exact Nat.add_le_add_right (hc j) _, hp⟩

/-- Slot i and what is counted for it change together. -/
theorem eases_at (i : SlotId) (hk : u.episode.kind = s.episode.kind) (hA : u.available = s.available) (ho : ∀ j, j ≠ i → u.slot j = s.slot j)
    (hc : ∀ j, j ≠ i → credit u.episode j = credit s.episode j)
    (hi : (u.slot i).charge + credit s.episode i ≤ (s.slot i).charge + credit u.episode i)
    (hp : (u.slot i).powered = true → (s.slot i).powered = true) : Eases s u := fun hku => by
  refine ⟨hk ▸ hku, hA.ge, fun j => ?_, fun j => ?_⟩ <;> rcases eq_or_ne j i with rfl | hj
  · exact hi
  · rw [ho j hj, hc j hj]
  · exact hp
  · rw [ho j hj]; exact id

end

end Sys2Proof.Proofs
end

/-! The operations that all events share leave an OVERDRAFT covered. Each lemma has the form "what is backed so far stays backed through the
operation". -/
section
namespace Sys2Proof.Proofs

open Machine Safety Laws

theorem powered_congr {t t' : Slot} (h : t'.state = t.state) : t'.powered = t.powered := by rw [Slot.powered, Slot.powered, h]

theorem walkOver_episode (passed rest : List WaitEntry) (s : State) : (walkOver passed rest s).episode = s.episode := by
  induction rest generalizing passed s with
  | nil => rfl
  | cons e rest ih =>
    unfold walkOver
    split
    · split
      · rw [ih, grantEntry_episode]
      · dsimp only
        split
        · exact grantEntry_episode _ _ _
        · rw [ih, grantEntry_episode]
    · split
      · rfl
      · split
        · rfl
        · exact ih _ _

/-- The follow-up changes nothing while an OVERDRAFT stays open (R10, R155). -/
theorem followUp_self_or_closed (s : State) : s.followUp = s ∨ s.followUp.episode.kind = .none := by
  unfold State.followUp State.episodeOpen State.episodeCheck State.walk
  cases hk : s.episode.kind with
  | none => exact .inr (by simpa [walkOver_episode] using hk)
  | overdraft =>
    simp only [ne_eq, reduceCtorEq, not_false_eq_true, decide_true, if_true]
    split
    · exact .inr (by rw [walkOver_episode]; rfl)
    · exact .inl rfl
  | preempt =>
    simp only [ne_eq, reduceCtorEq, not_false_eq_true, decide_true, if_true]
    split
    · exact .inl rfl
    · split
      · exact .inr (by rw [State.grantBeneficiary, State.walk, walkOver_episode]; rfl)
      · exact .inl rfl

theorem countOvertaken_episode (s : State) (i : SlotId) (k : Nat) : (s.countOvertaken i k).episode = s.episode := by
  unfold State.countOvertaken
  split
  · rfl
  · split <;> rfl

theorem credit_enterCut (s : State) (i j : SlotId) :
    credit (s.enterCut i).episode j = credit s.episode j + if i = j then (s.slot i).charge else 0 := credit_addCut _ _

theorem credit_leaveVictims_other (s : State) {i j : SlotId} (hj : j ≠ i) : credit (s.leaveVictims i).episode j = credit s.episode j :=
  credit_victims_other hj

namespace Eases

variable {s u : State} {i : SlotId}

theorem slots (h : Eases s u) {t : State} (he : t.episode = u.episode) (hA : u.available ≤ t.available)
    (hs : ∀ j, t.slot j = u.slot j) : Eases s t :=
  h.trans (eases_of_slots he hA (fun j => by rw [hs]) fun j => by rw [hs]; exact id)

theorem append (h : Eases s u) (r : Report) : Eases s (u.append r) := h.slots (by simp) (by simp) (by simp)

theorem report (h : Eases s u) (k : ReportKind) (j : SlotId) (a b c : Nat) : Eases s (u.report k j a b c) := h.append _

theorem setWait (h : Eases s u) (l : List WaitEntry) : Eases s (u.setWait l) := h.slots rfl le_rfl fun _ => rfl

theorem setRecency (h : Eases s u) (l : List SlotId) : Eases s (u.setRecency l) := h.slots rfl le_rfl fun _ => rfl

theorem followUp (h : Eases s u) : Eases s u.followUp := by
  rcases followUp_self_or_closed u with he | hk
  · rw [he]; exact h
  · exact eases_of_kind (by rw [hk]; nofun)

theorem followUpIf (h : Eases s u) (b : Bool) : Eases s (u.followUpIf b) := by
  cases b
  · exact h
  · exact h.followUp

/-- One slot changes without a raise and without power. -/
theorem modSlot (h : Eases s u) (i : SlotId) (f : Slot → Slot) (hc : (f (u.slot i)).charge ≤ (u.slot i).charge)
    (hp : (f (u.slot i)).powered = true → (u.slot i).powered = true) : Eases s (u.modSlot i f) := by
  refine h.trans (eases_of_slots rfl le_rfl (fun j => ?_) fun j => ?_) <;> rcases eq_or_ne j i with rfl | hj
  · rw [State.modSlot_slot_same]; exact hc
  · rw [State.modSlot_slot_other _ _ hj]
  · rw [State.modSlot_slot_same]; exact hp
  · rw [State.modSlot_slot_other _ _ hj]; exact id

/-- A slot keeps its state, and its charge is not raised. -/
theorem keep (h : Eases s u) (i : SlotId) (f : Slot → Slot) (hc : (f (u.slot i)).charge ≤ (u.slot i).charge)
    (hst : (f (u.slot i)).state = (u.slot i).state) : Eases s (u.modSlot i f) := h.modSlot i f hc (by rw [powered_congr hst]; exact id)

/-- A slot leaves for a state in which it is not powered. -/
theorem unpower (h : Eases s u) (i : SlotId) (f : Slot → Slot) (hc : (f (u.slot i)).charge ≤ (u.slot i).charge)
    (hp : (f (u.slot i)).powered = false) : Eases s (u.modSlot i f) := h.modSlot i f hc (by rw [hp]; nofun)

theorem modLink (h : Eases s u) (i : SlotId) (f : Link → Link) : Eases s (u.modLink i f) := h.keep i _ le_rfl rfl

theorem answer (h : Eases s u) (i : SlotId) (k : LinkKind) (tag : BitVec 3) (r : Reply) : Eases s (u.answer i k tag r) := h.modLink i _

theorem refuse (h : Eases s u) (i : SlotId) (k : LinkKind) (tag : BitVec 3) (r : RefuseReason) : Eases s (u.refuse i k tag r) :=
  (h.answer i k tag _).report _ _ _ _ _

theorem notice (h : Eases s u) (i : SlotId) (k : NoticeKind) (v : Nat) : Eases s (u.notice i k v) := h.modLink i _

theorem sendReclaim (h : Eases s u) (i : SlotId) (g : Nat) : Eases s (u.sendReclaim i g) := h.modLink i _

theorem leaveRecency (h : Eases s u) (i : SlotId) : Eases s (u.leaveRecency i) := h.setRecency _

theorem removeEntry (h : Eases s u) (i : SlotId) : Eases s (u.removeEntry i) := h.setWait _

theorem endEpisode (u : State) (o : EpisodeOutcome) : Eases s (u.endEpisode o) := eases_of_kind nofun

theorem dropEntry (h : Eases s u) (e : WaitEntry) (r : DropReason) : Eases s (u.dropEntry e r) := by
  unfold State.dropEntry State.abandonFor
  split
  · exact endEpisode _ _
  · exact (h.removeEntry _).report _ _ _ _ _

theorem noticeDropped (h : Eases s u) (e : WaitEntry) : Eases s (u.noticeDropped e) := by
  unfold State.noticeDropped
  split
  · exact h
  · exact h.notice _ _ _

/-! The power path (R22 to R37). -/

/-- No claim is granted while an episode is open (R4, R24). -/
theorem startAdmission (h : Eases s u) (i : SlotId) : Eases s (u.startAdmission i) := by
  unfold State.startAdmission
  dsimp only
  split
  · rename_i hc
    simp only [Bool.and_eq_true, Bool.not_eq_true', State.episodeOpen, decide_eq_false_iff_not, not_not] at hc
    refine h.trans (eases_of_closed (by rw [hc.1.1]; nofun) ?_)
    rw [State.powerUp, State.report_episode, State.modSlot_episode, countOvertaken_episode]
  · exact ((h.setWait _).unpower i _ le_rfl rfl).report _ _ _ _ _

/-- A victim that is cut is counted with its whole charge (R148). -/
theorem cutVictim (h : Eases s u) (hle : credit u.episode i ≤ (u.slot i).charge) : Eases s (u.cutVictim i) := by
  unfold State.cutVictim
  split
  · refine h.trans (eases_at i rfl rfl (fun _ _ => rfl) (fun j hj => ?_) ?_ id)
    · rw [credit_enterCut, if_neg hj.symm, Nat.add_zero, credit_leaveVictims_other u hj]
    · rw [credit_enterCut, if_pos rfl]
      exact Nat.add_le_add_left (hle.trans (Nat.le_add_left _ _)) _
  · exact h

theorem startCut (h : Eases s u) (hle : credit u.episode i ≤ (u.slot i).charge) (r : CutReason) : Eases s (u.startCut i r) := by
  unfold State.startCut
  dsimp only
  have hcut := (((h.unpower i (Slot.cut r) le_rfl rfl).leaveRecency i).cutVictim (i := i)
    (by simpa [State.leaveRecency, Slot.cut] using hle)).report .cutStart i (cutReasonCode r) (u.slot i).charge 0
  split
  · exact (hcut.dropEntry _ _).followUp
  · exact hcut

theorem cutIfPowered (h : Eases s u) (hle : credit u.episode i ≤ (u.slot i).charge) (r : CutReason) : Eases s (u.cutIfPowered i r) := by
  unfold State.cutIfPowered
  split
  · exact h.startCut hle r
  · exact h

theorem arriveInEmpty (h : Eases s u) (i : SlotId) : Eases s (u.arriveInEmpty i) := by
  unfold State.arriveInEmpty
  split
  · exact h.startAdmission i
  · exact h.unpower i _ le_rfl rfl

/-- At the end of a cut K and E fall by the same amount (R148). -/
theorem completeCut (h : Eases s u) (hle : credit u.episode i ≤ (u.slot i).charge) : Eases s (u.completeCut i) := by
  unfold State.completeCut
  dsimp only
  have hend : Eases s ((u.leaveCuts i).modSlot i (Slot.discharged (u.slot i).destination)) := by
    refine h.trans (eases_at i rfl rfl (fun j hj => ?_) (fun j hj => credit_cuts_other hj) ?_ ?_)
    · rw [State.modSlot_slot_other _ _ hj]; rfl
    · rw [State.modSlot_slot_same]
      exact Nat.le_add_right_of_le ((Nat.zero_add _).trans_le hle)
    · rw [State.modSlot_slot_same]
      cases hd : (u.slot i).destination <;> exact nofun
  have hdone := (hend.report .cutDone i (destinationCode (u.slot i).destination) 0 0).followUp
  cases hd : (u.slot i).destination with
  | admission => rw [hd] at hdone; exact hdone.startAdmission i
  | empty =>
    rw [hd] at hdone
    dsimp only
    split
    · exact hdone.arriveInEmpty i
    · exact hdone
  | disabled => rw [hd] at hdone; exact hdone
  | locked => rw [hd] at hdone; exact hdone

theorem endAdmitting (h : Eases s u) (i : SlotId) (r : DropReason) {st : SlotState} (hst : Slot.powered { u.slot i with state := st } = false) :
    Eases s (u.endAdmitting i r st) := by
  unfold State.endAdmitting
  dsimp only
  split
  · exact ((h.unpower i _ le_rfl hst).dropEntry _ _).followUp
  · exact h.unpower i _ le_rfl hst

/-! Presence and the enabled flag (R22, R23, R31, R32, R33). -/

theorem presenceArrives (h : Eases s u) (i : SlotId) : Eases s (u.presenceArrives i) := by
  unfold State.presenceArrives
  dsimp only
  have hset := h.keep i (fun t => { t with pres := Debounce.rest true }) le_rfl rfl
  split
  case h_1 => exact hset.arriveInEmpty i
  all_goals exact hset

theorem presenceLost (h : Eases s u) (hle : credit u.episode i ≤ (u.slot i).charge) : Eases s (u.presenceLost i) := by
  unfold State.presenceLost
  dsimp only
  have hset := h.keep i (fun t => { t with pres := Debounce.rest false }) le_rfl rfl
  have hcut := hset.startCut (i := i) (by rw [State.modSlot_slot_same]; exact hle) .removed
  split
  · exact hset
  · exact hset.unpower i _ le_rfl rfl
  · exact hset.unpower i _ le_rfl rfl
  · exact hset.endAdmitting i _ rfl
  · exact hcut
  · exact hcut
  · exact hcut
  · exact hset.keep i _ le_rfl rfl

theorem enableSlot (h : Eases s u) (i : SlotId) : Eases s (u.enableSlot i) := by
  unfold State.enableSlot
  dsimp only
  have hset := h.keep i (fun t => { t with enabled := true }) le_rfl rfl
  split
  · exact hset.startAdmission i
  · exact hset

theorem disableSlot (h : Eases s u) (hle : credit u.episode i ≤ (u.slot i).charge) : Eases s (u.disableSlot i) := by
  unfold State.disableSlot
  dsimp only
  have hset := h.keep i (fun t => { t with enabled := false }) le_rfl rfl
  have hcut := hset.startCut (i := i) (by rw [State.modSlot_slot_same]; exact hle) .host
  split
  case h_1 => exact hset.endAdmitting i _ rfl
  case h_2 => exact hcut
  case h_3 => exact hcut
  case h_4 => exact hcut
  all_goals exact hset

theorem restoreSlot (h : Eases s u) (i : SlotId) : Eases s (u.restoreSlot i) := by
  unfold State.restoreSlot
  split
  · exact h.startAdmission i
  · exact h.unpower i _ le_rfl rfl

/-! Reclaims (R125, R146). -/

theorem dropForReclaim (h : Eases s u) (i : SlotId) : Eases s (u.dropForReclaim i) := by
  unfold State.dropForReclaim
  split
  · exact (h.dropEntry _ _).noticeDropped _
  · exact h

theorem startReclaim (h : Eases s u) (i : SlotId) (g : Nat) (cause : ReclaimCause) : Eases s (u.startReclaim i g cause) :=
  ((((h.keep i _ le_rfl rfl).report _ _ _ _ _).dropForReclaim i).sendReclaim i g).followUpIf _

theorem enterVictim (h : Eases s u) (i : SlotId) (g : Nat) : Eases s (u.enterVictim i g) :=
  h.trans fun hk => ⟨hk, le_rfl, fun j => Nat.add_le_add_left (credit_addVictim _ j) _, fun _ => id⟩

theorem makeVictim (h : Eases s u) (i : SlotId) (g : Nat) : Eases s (u.makeVictim i g) := (h.enterVictim i g).startReclaim i g _

theorem takeVictims {amount : Nat} (l : List SlotId) (sum : Nat) (h : Eases s u) : Eases s (takeVictims amount l sum u).2 := by
  induction l generalizing sum u with
  | nil => exact h
  | cons i l ih =>
    unfold Machine.takeVictims
    split
    · exact ih sum h
    · dsimp only
      split
      · exact ih _ (h.makeVictim i _)
      · exact h.makeVictim i _

end Eases

end Sys2Proof.Proofs
end

/-! Retargets, windows, frame starts and the card's CONFIRM and YIELD leave an OVERDRAFT covered (R93, R100, R128 to R135, R141, R148). -/
section
namespace Sys2Proof.Proofs

open Machine Safety Laws

section
variable {P : SlotId → Prop} {s u : State} {i : SlotId} {c : Card}

/-- Above A no raise fits headroom (R4, R7). -/
theorem Sound.not_fits (h : Sound P s) (hk : s.episode.kind = .overdraft) {n : Nat} (hn : (s.slot i).charge ≤ n) : ¬ Fits s i n := by
  have := h.settled hk
  unfold Fits
  omega

theorem Active.target_lt {n : Nat} {t : Slot} (h : Active n i t c) {r : Reclaim} (hr : t.reclaim = some r) : r.target < c.count := by
  have hf := h.filled hr
  have hheld := h.cardShape.held
  cases hp : r.phase with
  | reclaiming =>
    obtain ⟨htarget, -⟩ := (reclaimFits_reclaiming hp).mp hf
    exact htarget.trans hheld
  | pacePending =>
    obtain ⟨htarget, -⟩ := (reclaimFits_pacePending hp).mp hf
    exact htarget.trans hheld
  | paced =>
    obtain ⟨b, w, hb⟩ := (reclaimFits_paced hp).mp hf
    exact hb.target.trans hb.step

/-- Only a paced slot is charged less than the draw of its held step (R123). -/
theorem Active.phase_of_charge_lt {n : Nat} {t : Slot} (h : Active n i t c) {r : Reclaim} (hr : t.reclaim = some r) (hlt : t.charge < c.heldDraw) :
    r.phase = .paced := by
  have hf := h.filled hr
  cases hp : r.phase with
  | paced => rfl
  | reclaiming =>
    obtain ⟨-, -, -, -, -, -, hcharge⟩ := (reclaimFits_reclaiming hp).mp hf
    omega
  | pacePending =>
    obtain ⟨-, -, -, -, -, -, hcharge⟩ := (reclaimFits_pacePending hp).mp hf
    omega

/-- Where a lift is pending, the charge lies below the draw of the held step (R131). -/
theorem Active.charge_lt_of_lift {n : Nat} {t : Slot} (h : Active n i t c) {r : Reclaim} (hr : t.reclaim = some r) (hl : r.liftPending = true) :
    t.charge < c.heldDraw := by
  have hf := h.filled hr
  cases hp : r.phase with
  | reclaiming =>
    obtain ⟨-, -, -, hnone, -⟩ := (reclaimFits_reclaiming hp).mp hf
    rw [hl] at hnone; cases hnone
  | pacePending =>
    obtain ⟨-, -, -, hnone, -⟩ := (reclaimFits_pacePending hp).mp hf
    rw [hl] at hnone; cases hnone
  | paced =>
    obtain ⟨b, w, hb⟩ := (reclaimFits_paced hp).mp hf
    obtain ⟨-, -, hlt⟩ := hb.lift hl
    exact hlt

/-! A victim's record written again. -/

namespace UnderReclaim

variable {r : Reclaim}

/-- Where the charge of slot i has not risen, its victim's record may be written again with no less than the charge above the target's draw
(R148). -/
theorem eases_victims (h : UnderReclaim P s i c r) (ha : Apart i s u) (hu : u.episode = s.episode) (hle : (u.slot i).charge ≤ (s.slot i).charge)
    {g : Victim → Victim} (hg : ∀ v, (g v).slot = v.slot) (ho : ∀ v, v.slot ≠ i → g v = v)
    (hv : ∀ v, v.slot = i → v.target = r.target → (u.slot i).charge - c.draw r.target ≤ (g v).remaining) :
    Eases s (u.setVictims (u.episode.victims.map g)) := by
  have he : (u.setVictims (u.episode.victims.map g)).episode = { s.episode with victims := s.episode.victims.map g } := by rw [← hu]; rfl
  refine eases_at i (by rw [he]) ha.available ha.slot (fun j hj => by rw [he]; exact credit_map_other hg ho hj) ?_ fun _ => h.powered
  rw [he]
  refine credit_map h.core.lists.shed hg hle fun v hm hi => ?_
  obtain ⟨ht, hrem⟩ := h.victim hm hi
  have := hv v hi ht
  change (u.slot i).charge + v.remaining ≤ _
  omega

/-- A victim's remaining reduction follows its charge (R148). -/
theorem eases_refreshVictim (h : UnderReclaim P s i c r) (ha : Apart i s u) (hu : u.episode = s.episode)
    (hle : (u.slot i).charge ≤ (s.slot i).charge) {k : Nat} (hc : (u.slot i).card = some { c with held := k }) : Eases s (u.refreshVictim i) := by
  refine h.eases_victims ha hu hle (fun v => by split <;> rfl) (fun v hv => if_neg hv) fun v hi ht => ?_
  rw [if_pos hi]
  change _ ≤ u.remainingFor i v.target
  rw [State.remainingFor, hc, ht]
  exact le_rfl

/-- Slot i leaves the victim list with a charge that lies within its target's draw (R148). -/
theorem eases_leaveVictims (h : UnderReclaim P s i c r) (ha : Apart i s u) (hu : u.episode = s.episode)
    (hle : (u.slot i).charge ≤ (s.slot i).charge) (ht : (u.slot i).charge ≤ c.draw r.target) : Eases s (u.leaveVictims i) := by
  refine eases_at i (by rw [← hu]; rfl) ha.available ha.slot (fun j hj => by rw [credit_leaveVictims_other u hj, hu]) ?_ fun _ => h.powered
  have := h.credit_le
  change (u.slot i).charge + _ ≤ _
  omega

end UnderReclaim

/-- A retarget lowers the target, and with it raises the reduction that is expected (R135, R148). -/
theorem Sound.retargetReclaim_eases (h : Sound P s) (hP : ¬ P i) (hst : (s.slot i).state = .active) (hc : (s.slot i).card = some c) {r : Reclaim}
    (hr : (s.slot i).reclaim = some r) {g : Nat} (hg : g < r.target) (cause : ReclaimCause) : Eases s (s.retargetReclaim i c r g cause) := by
  have hact := (h.holds i hP).active hst hc
  obtain ⟨-, h2, h3, -⟩ := retarget_same c g cause r (s.slot i)
  have ha := (((h.toCore.apart i).modSlot (Slot.retarget c g cause r)).report .reclaimStart i g (causeCode cause) 0).sendReclaim g
  unfold State.retargetReclaim State.retargetVictim
  generalize hu : (State.report _ .reclaimStart i g (causeCode cause) 0).sendReclaim i g = u at ha ⊢
  have hcharge : (u.slot i).charge = (s.slot i).charge := by rw [← hu]; simp [State.sendReclaim, State.modLink, h2]
  have hcard : (u.slot i).card = some c := by rw [← hu]; simp [State.sendReclaim, State.modLink, h3, hc]
  refine UnderReclaim.eases_victims ⟨h.toCore, hP, hst, hc, hr⟩ ha (by rw [← hu]; simp [State.sendReclaim]) hcharge.le
    (fun v => by split <;> rfl) (fun v hv => if_neg hv) fun v hi _ => ?_
  rw [if_pos hi]
  change _ ≤ u.remainingFor i g
  rw [State.remainingFor, hcard]
  exact Nat.sub_le_sub_left (hact.cardShape.draw_le hg.le (hact.target_lt hr)) _

theorem Sound.reclaimTo_eases (h : Sound P s) (hP : ¬ P i) (hst : (s.slot i).state = .active) (hc : (s.slot i).card = some c) (g : Nat)
    (cause : ReclaimCause) : Eases s (s.reclaimTo i c g cause) := by
  unfold State.reclaimTo
  split
  · exact (Eases.refl s).startReclaim i g cause
  · split
    · exact h.retargetReclaim_eases hP hst hc ‹_› ‹_› cause
    · exact Eases.refl s

/-! Frame starts (R131, R141). -/

theorem Sound.takeWidth_eases (h : Sound P s) (hP : ¬ P i) (hst : (s.slot i).state = .active) (hc : (s.slot i).card = some c) {r : Reclaim}
    (hr : (s.slot i).reclaim = some r) {w : Nat} (hw : (s.slot i).pendWidth = some w) : Eases s (s.takeWidth i c r w) := by
  obtain ⟨-, b, hp⟩ := ((h.holds i hP).active hst hc).pending hr hw
  unfold State.takeWidth
  dsimp only
  rw [modSlot_driveRun]
  have ha := ((h.toCore.apart i).modSlot (fun t => driven s.frameCounter i (Slot.applyWidth c r w t))).report .paced i w
    (c.paced (r.basis.getD c.held) w) 0
  generalize hu : State.report _ .paced i w (c.paced (r.basis.getD c.held) w) 0 = u at ha ⊢
  have hus : u.slot i = driven s.frameCounter i (Slot.applyWidth c r w (s.slot i)) := by rw [← hu]; simp
  refine (UnderReclaim.eases_refreshVictim ⟨h.toCore, hP, hst, hc, hr⟩ ha (by rw [← hu]; simp) ?_ (k := c.held) (by rw [hus]; exact hc)).followUpIf _
  rw [hus]
  change c.paced (r.basis.getD c.held) w ≤ _
  rw [hp.basis]
  exact hp.lower

/-- A lift would raise the charge, which headroom does not allow while an OVERDRAFT is open (R7, R131). -/
theorem Sound.claimLift_eases (h : Sound P s) (hP : ¬ P i) (hst : (s.slot i).state = .active) (hc : (s.slot i).card = some c) {r : Reclaim}
    (hr : (s.slot i).reclaim = some r) (hl : r.liftPending = true) : Eases s (s.claimLift i c) := by
  have hlow := ((h.holds i hP).active hst hc).charge_lt_of_lift hr hl
  unfold State.claimLift
  split
  · rename_i hfit
    rw [within_iff_fits, decide_eq_true_iff] at hfit
    exact eases_of_closed (fun hk => h.not_fits hk hlow.le hfit) (by simp)
  · exact Eases.refl s

/-! CONFIRM and YIELD (R93, R128 to R132). -/

/-- A conclusion leaves the charge within the draw of the target, or holds it open at a charge that lies there already (R128 to R131, R148). -/
theorem Sound.concludeReclaim_eases (h : Sound P s) (hP : ¬ P i) (hst : (s.slot i).state = .active) (hc : (s.slot i).card = some c) {r : Reclaim}
    (hr : (s.slot i).reclaim = some r) {g : Nat} (hg : g < c.held) (ht : g ≤ r.target) (k : LinkKind) (tag : BitVec 3) :
    Eases s (s.concludeReclaim i c r k tag g) := by
  have hunder : UnderReclaim P s i c r := ⟨h.toCore, hP, hst, hc, hr⟩
  have hact := hunder.active
  have hdraw : c.draw g ≤ c.draw r.target := hact.cardShape.draw_le ht (hact.target_lt hr)
  have hheld : c.draw g ≤ c.heldDraw := hact.cardShape.draw_le hg.le hact.cardShape.held
  unfold State.concludeReclaim
  dsimp only
  split
  · rename_i hcond
    simp only [Bool.and_eq_true, decide_eq_true_eq] at hcond
    have ha := (((h.toCore.apart i).modSlot (Slot.holdOpen c g r)).answer k tag (.done 0)).report .confirmed i g (s.slot i).charge 0
    generalize hu : State.report _ .confirmed i g (s.slot i).charge 0 = u at ha ⊢
    have hcharge : (u.slot i).charge = (s.slot i).charge := by rw [← hu]; simp [State.answer, State.modLink, Slot.holdOpen]
    exact hunder.eases_leaveVictims ha (by rw [← hu]; simp [State.answer]) hcharge.le (by omega)
  · rename_i hcond
    have ha := (((h.toCore.apart i).modSlot (Slot.endReclaim c g)).answer k tag (.done 0)).report .confirmed i g (c.draw g) 0
    generalize hu : State.report _ .confirmed i g (c.draw g) 0 = u at ha ⊢
    have hcharge : (u.slot i).charge = c.draw g := by rw [← hu]; simp [State.answer, State.modLink, Slot.endReclaim]
    have hep : u.episode = s.episode := by rw [← hu]; simp [State.answer]
    refine Eases.followUpIf ?_ _
    by_cases hle : c.draw g ≤ (s.slot i).charge
    · exact hunder.eases_leaveVictims ha hep (by omega) (by omega)
    · refine eases_of_kind fun hk => hcond ?_
      have hkind : s.episode.kind = .overdraft := hep ▸ hk
      have hfit := h.not_fits hkind (i := i) (Nat.le_of_not_le hle)
      rw [within_iff_fits, hact.phase_of_charge_lt hr (by omega)]
      simpa [hfit] using hle

/-- Partial progress (R132, R148). -/
theorem Sound.partialReclaim_eases (h : Sound P s) (hP : ¬ P i) (hst : (s.slot i).state = .active) (hc : (s.slot i).card = some c) {r : Reclaim}
    (hr : (s.slot i).reclaim = some r) {g : Nat} (hg : g < c.held) (tag : BitVec 3) : Eases s (s.partialReclaim i c r tag g) := by
  have hact := (h.holds i hP).active hst hc
  have hheld : c.draw g ≤ c.heldDraw := hact.cardShape.draw_le hg.le hact.cardShape.held
  have hpc := progress_charge c g r (s.slot i)
  obtain ⟨-, -, hpcard, -⟩ := progress_same c g r (s.slot i) hr
  unfold State.partialReclaim
  dsimp only
  generalize hw : (s.modSlot i (Slot.progress c g r)).answer i .confirm tag (.done 0) = w
  have ha := (hw ▸ ((h.toCore.apart i).modSlot (Slot.progress c g r)).answer .confirm tag (.done 0) : Apart i s w).report .confirmed i g
    (w.slot i).charge 0
  generalize hu : w.report .confirmed i g (w.slot i).charge 0 = u at ha ⊢
  have hcharge : (u.slot i).charge = if r.phase = .paced then (s.slot i).charge else c.draw g := by
    rw [← hu, ← hw, ← hpc]; simp [State.answer, State.modLink]
  have hcard : (u.slot i).card = some { c with held := g } := by rw [← hu, ← hw, ← hpcard]; simp [State.answer, State.modLink]
  refine (UnderReclaim.eases_refreshVictim ⟨h.toCore, hP, hst, hc, hr⟩ ha (by rw [← hu, ← hw]; simp [State.answer]) ?_ hcard).followUpIf _
  rw [hcharge]
  split
  · exact le_rfl
  · rename_i hp
    have := mt (hact.phase_of_charge_lt hr) hp
    omega

/-! Timers and frames (R28, R29, R36, R100, R134, R141). -/

theorem Eases.windowEvent (h : Eases s u) (i : SlotId) : Eases s (u.windowEvent i) := by
  unfold State.windowEvent State.expireWindow
  split
  · dsimp only
    split
    · exact h.keep i _ le_rfl rfl
    · exact h
    · exact h
    · exact h
  · exact h

theorem Sound.leaseEvent_eases (h : Sound P s) (hP : ¬ P i) : Eases s (s.leaseEvent i) := by
  unfold State.leaseEvent State.expireLease
  split
  · rename_i hd
    simp only [Bool.and_eq_true, decide_eq_true_eq] at hd
    have hst := hd.2
    obtain ⟨c, hact⟩ := (slotOk_active hst).mp (h.holds i hP).ok
    simp only [State.modSlot_slot_same, hact.card]
    have hstop : Sound P (s.modSlot i (fun t => { t with lease := none })) := h.modSlot hP _ (h.holds i hP).ok.stopLease rfl rfl rfl rfl rfl
    have htold := Sound.setLink (hstop.append (slotReport .lapsed i c.held 0 0)) hP (Link.placeNotice .lapsed c.held) (by
      simp only [State.append_slot, State.modSlot_slot_same, hst]
      exact hact.link.placeNotice _ _)
    have hease := (((Eases.refl s).keep i (fun t => { t with lease := none }) le_rfl rfl).report .lapsed i c.held 0 0).notice i .lapsed c.held
    exact hease.trans (htold.reclaimTo_eases hP (by simpa [State.modLink] using hst) (by simpa [State.modLink] using hact.card) 0 .lapse)
  · exact Eases.refl s

theorem Sound.frameEvent_eases (h : Sound P s) (hP : ¬ P i) : Eases s (s.frameEvent i) := by
  unfold State.frameEvent State.startFrame
  split
  · have hclear : Sound P (s.modSlot i (fun t => { t with frameDue := false })) := h.modSlot hP _ (h.holds i hP).ok.clearFrame rfl rfl rfl rfl rfl
    have hease := (Eases.refl s).keep i (fun t => { t with frameDue := false }) le_rfl rfl
    dsimp only
    generalize s.modSlot i (fun t => { t with frameDue := false }) = u at hclear hease ⊢
    split
    · rename_i c r hc hr
      have hst : (u.slot i).state = .active := by
        by_contra hn
        have := (hclear.holds i hP).ok.fits
        simp [slotFits, hn, hr] at this
      split
      · exact hease.trans (hclear.takeWidth_eases hP hst hc hr ‹_›)
      · split
        · exact hease.trans (hclear.claimLift_eases hP hst hc hr ‹_›)
        · exact hease
    · exact hease
    · exact hease
    · exact hease
  · exact Eases.refl s

theorem Eases.settleEvent (h : Eases s u) (i : SlotId) : Eases s (u.settleEvent i) := by
  unfold State.settleEvent
  split
  · rename_i hd
    simp only [Bool.and_eq_true, decide_eq_true_eq] at hd
    exact h.modSlot i _ le_rfl fun _ => by simp [Slot.powered, hd.2]
  · exact h

theorem Eases.helloEvent (h : Eases s u) (hle : credit u.episode i ≤ (u.slot i).charge) : Eases s (u.helloEvent i) := by
  unfold State.helloEvent
  split
  · exact h.startCut hle _
  · exact h

theorem Eases.dischargeEvent (h : Eases s u) (hle : credit u.episode i ≤ (u.slot i).charge) : Eases s (u.dischargeEvent i) := by
  unfold State.dischargeEvent
  split
  · exact h.completeCut hle
  · exact h

theorem Eases.arrivalEvent (h : Eases s u) (i : SlotId) : Eases s (u.arrivalEvent i) := by
  unfold State.arrivalEvent
  split
  · exact h.presenceArrives i
  · exact h
  · exact h

theorem Eases.lossEvent (h : Eases s u) (hle : credit u.episode i ≤ (u.slot i).charge) : Eases s (u.lossEvent i) := by
  unfold State.lossEvent
  split
  · exact h.presenceLost hle
  · exact h
  · exact h

theorem Eases.replyEvent (h : Eases s u) (hle : credit u.episode i ≤ (u.slot i).charge) : Eases s (u.replyEvent i) := by
  unfold State.replyEvent
  split
  · split
    · split
      · exact h.modLink i _
      · exact h.cutIfPowered hle _
    · exact h
  · exact h

theorem Eases.frameDone (h : Eases s u) (i : SlotId) : Eases s (u.frameDone i) := h.modLink i _

theorem Eases.gapEvent (h : Eases s u) (i : SlotId) : Eases s (u.gapEvent i) := by
  unfold State.gapEvent
  split
  · exact h.frameDone i
  · exact h

/-- All events of a slot, in their order (log entry 2). -/
theorem Sound.settleSlot_eases (h : Sound nobody s) (i : SlotId) : Eases s (s.settleSlot i) := by
  have arrived := h.arrivalEvent (i := i) id
  have lost := arrived.lossEvent (i := i) id
  have settled := lost.settleEvent (i := i) id
  have heard := settled.helloEvent (i := i) id
  have discharged := heard.dischargeEvent (i := i) id
  have lapsed := discharged.leaseEvent (i := i) id
  have expired := lapsed.windowEvent (i := i) id
  have framed := expired.frameEvent (i := i) id
  have untilLease := ((((Eases.refl s).arrivalEvent i).lossEvent (arrived.credit_le i)).settleEvent i).helloEvent (settled.credit_le i)
    |>.dischargeEvent (heard.credit_le i)
  have untilFrame := (untilLease.trans (discharged.leaseEvent_eases (i := i) id)).windowEvent i
  exact ((untilFrame.trans (expired.frameEvent_eases (i := i) id)).replyEvent (framed.credit_le i)).gapEvent i

end

end Sys2Proof.Proofs
end

/-! The card's requests, and the bytes that carry them, leave an OVERDRAFT covered (R48 to R56, R69 to R99, R127). -/
section
namespace Sys2Proof.Proofs

open Machine Safety Laws

section
variable {s u : State} {i : SlotId} {c : Card}

theorem Sound.takeRequest_eases (h : Sound nobody s) (k : LinkKind) (tag : BitVec 3) {act : State → State}
    (ha : ∀ u, Sound nobody u → linkOn (u.slot i).state = true → Eases u (act u)) : Eases s (s.takeRequest i k tag act) := by
  unfold State.takeRequest
  split
  · exact Eases.refl s
  · rename_i hon
    have hl : linkOn ((s.frameDone i).slot i).state = true := by
      rw [State.frameDone, modLink_slot_same]; exact h.link_on.mp hon
    have hease := (Eases.refl s).frameDone i
    have hact := hease.trans (ha _ (h.frameDone i) hl)
    dsimp only
    split
    · exact hease
    · split
      · split
        · exact hease.modLink i _
        · exact hact
      · exact hact

theorem whenActive_eases (k : LinkKind) (tag : BitVec 3) {act : Card → State}
    (ha : ∀ c, (s.slot i).state = .active → (s.slot i).card = some c → Eases s (act c)) : Eases s (s.whenActive i k tag act) := by
  unfold State.whenActive
  split
  · rename_i hc
    split
    · exact ha _ hc.1 ‹_›
    · exact (Eases.refl s).refuse _ _ _ _
  · exact (Eases.refl s).refuse _ _ _ _

/-! HELLO (R69 to R76). -/

/-- A declaration does not raise the charge while an episode is open (R73). -/
theorem acceptHello_eases (hst : (s.slot i).state = .listening) {floor : Nat} {draws : List Nat}
    (hd : s.episode.kind = .overdraft → draws.getD 0 0 ≤ (s.slot i).charge) (tag : BitVec 3) (cardId : BitVec 32) :
    Eases s (s.acceptHello i tag cardId floor draws) := by
  by_cases hk : s.episode.kind = .overdraft
  · exact ((((Eases.refl s).modSlot i _ (hd hk) fun _ => by simp [Slot.powered, hst]).answer _ _ _ _).report _ _ _ _ _).followUpIf _
  · unfold State.acceptHello
    exact (eases_of_closed hk (by simp [State.answer])).followUpIf _

theorem newHello_eases (hl : linkOn (s.slot i).state = true) (tag : BitVec 3) (cardId : BitVec 32) (floor : Nat) (draws : List Nat) :
    Eases s (s.newHello i tag cardId floor draws) := by
  have hrefuse := fun r => (Eases.refl s).refuse i .hello tag r
  unfold State.newHello State.helloInActive
  dsimp only
  split
  · split
    · split
      · exact (Eases.refl s).answer _ _ _ _
      · exact hrefuse _
    · exact hrefuse _
  · rename_i hna
    have hst : (s.slot i).state = .listening := by
      simp only [linkOn, Bool.or_eq_true, decide_eq_true_eq] at hl
      exact hl.resolve_right hna
    split
    · exact hrefuse _
    · split
      · exact hrefuse _
      · split
        · exact hrefuse _
        · rename_i hb
          exact acceptHello_eases hst (fun hk => Nat.le_of_not_lt fun hlt => hb (by rw [decide_eq_true hlt]; simp [State.episodeOpen, hk])) tag cardId

/-! ASK (R84 to R89, R149). -/

/-- No step is granted while an episode is open (R4). -/
theorem grantAsk_eases (hk : s.episode.kind ≠ .overdraft) (tag : BitVec 3) (g : Nat) : Eases s (s.grantAsk i c tag g) := by
  unfold State.grantAsk
  refine (eases_of_closed hk ?_).followUpIf _
  simp [State.answer, State.grantStep, State.toHead, State.removeEntry, countOvertaken_episode]

/-- What a deferred ASK opens is a PREEMPT (R149). -/
theorem Eases.considerPreempt (h : Eases s u) (i : SlotId) (c : Card) (floor : Nat) : Eases s (u.considerPreempt i c floor) := by
  unfold State.considerPreempt
  dsimp only
  split
  · refine eases_of_kind fun hk => ?_
    have := (Eases.takeVictims _ 0 (Eases.refl _) hk).kind
    simp [State.reportOpen] at this
  · exact h

theorem Eases.deferAsk (h : Eases s u) (i : SlotId) (c : Card) (tag : BitVec 3) (asked floor : Nat) : Eases s (u.deferAsk i c tag asked floor) := by
  unfold State.deferAsk
  dsimp only
  have hdefer := fun l p q => (((h.setWait l).answer i .ask tag (.defer p)).report .deferred i q asked floor)
  split
  · exact hdefer _ _ _
  · exact (hdefer _ _ _).considerPreempt i c floor

theorem newAsk_eases (tag : BitVec 3) (asked floor : Nat) (deferrable : Bool) : Eases s (s.newAsk i c tag asked floor deferrable) := by
  have hrefuse := fun r => (Eases.refl s).refuse i .ask tag r
  unfold State.newAsk State.claimAsk
  dsimp only
  split
  · exact hrefuse _
  · split
    · exact hrefuse _
    · split
      · exact hrefuse _
      · split
        · rename_i g hg
          refine grantAsk_eases (fun hk => ?_) tag g
          simp [State.episodeOpen, hk] at hg
        · split
          · exact (Eases.refl s).deferAsk i c tag asked floor
          · exact hrefuse _

/-! YIELD, WITHDRAW, RENEW, CONFIRM (R92 to R99, R127). -/

theorem Sound.newYield_eases (h : Sound nobody s) (hst : (s.slot i).state = .active) (hc : (s.slot i).card = some c) (tag : BitVec 3) (g : Nat) :
    Eases s (s.newYield i c tag g) := by
  have hact := (h.holds i id).active hst hc
  unfold State.newYield
  split
  · exact (Eases.refl s).refuse _ _ _ _
  · rename_i hg
    have hlt : g < c.held := by omega
    split
    · rename_i hr
      have hlow : c.draw g ≤ (s.slot i).charge := (hact.cardShape.draw_le hlt.le hact.cardShape.held).trans (hact.free hr).1.ge
      exact ((((Eases.refl s).keep i (Slot.yieldTo c g) hlow rfl).answer _ _ _ _).report _ _ _ _ _).followUpIf _
    · rename_i r hr
      split
      · exact h.concludeReclaim_eases id hst hc hr hlt ‹_› _ _
      · exact (Eases.refl s).refuse _ _ _ _

theorem newWithdraw_eases (tag : BitVec 3) : Eases s (s.newWithdraw i tag) := by
  unfold State.newWithdraw
  split
  · exact (Eases.refl s).refuse _ _ _ _
  · exact (((Eases.refl s).dropEntry _ _).answer _ _ _ _).followUp

theorem newRenew_eases (tag : BitVec 3) : Eases s (s.newRenew i c tag) := by
  have hrenew : Eases s (s.renewLease i c tag) := by
    unfold State.renewLease
    dsimp only
    split
    · exact ((Eases.refl s).keep i _ le_rfl rfl).answer _ _ _ _
    · exact (Eases.refl s).answer _ _ _ _
  unfold State.newRenew
  split
  · split
    · exact (Eases.refl s).refuse _ _ _ _
    · exact hrenew
  · exact hrenew

theorem Sound.newConfirm_eases (h : Sound nobody s) (hst : (s.slot i).state = .active) (hc : (s.slot i).card = some c) (tag : BitVec 3) (g : Nat) :
    Eases s (s.newConfirm i c tag g) := by
  unfold State.newConfirm
  split
  · exact (Eases.refl s).refuse _ _ _ _
  · rename_i r hr
    split
    · exact (Eases.refl s).refuse _ _ _ _
    · rename_i hg
      split
      · exact h.concludeReclaim_eases id hst hc hr (by omega) ‹_› _ _
      · exact h.partialReclaim_eases id hst hc hr (by omega) tag

/-! Frames and bytes (R48 to R56). -/

theorem Sound.takeHello_eases (h : Sound nobody s) (i : SlotId) (tag : BitVec 3) (cardId : BitVec 32) (floor : Byte) (draws : List Half) :
    Eases s (s.takeHello i tag cardId floor draws) := h.takeRequest_eases _ _ fun _ _ hl => newHello_eases hl _ _ _ _

theorem Sound.takeAsk_eases (h : Sound nobody s) (i : SlotId) (tag : BitVec 3) (asked floor flags : Byte) :
    Eases s (s.takeAsk i tag asked floor flags) := h.takeRequest_eases _ _ fun _ _ _ => whenActive_eases _ _ fun _ _ _ => newAsk_eases _ _ _ _

theorem Sound.takeYield_eases (h : Sound nobody s) (i : SlotId) (tag : BitVec 3) (g : Byte) : Eases s (s.takeYield i tag g) :=
  h.takeRequest_eases _ _ fun _ hu _ => whenActive_eases _ _ fun _ hst hc => hu.newYield_eases hst hc _ _

theorem Sound.takeWithdraw_eases (h : Sound nobody s) (i : SlotId) (tag : BitVec 3) : Eases s (s.takeWithdraw i tag) :=
  h.takeRequest_eases _ _ fun _ _ _ => whenActive_eases _ _ fun _ _ _ => newWithdraw_eases _

theorem Sound.takeRenew_eases (h : Sound nobody s) (i : SlotId) (tag : BitVec 3) : Eases s (s.takeRenew i tag) :=
  h.takeRequest_eases _ _ fun _ _ _ => whenActive_eases _ _ fun _ _ _ => newRenew_eases _

theorem Sound.takeConfirm_eases (h : Sound nobody s) (i : SlotId) (tag : BitVec 3) (g : Byte) : Eases s (s.takeConfirm i tag g) :=
  h.takeRequest_eases _ _ fun _ hu _ => whenActive_eases _ _ fun _ hst hc => hu.newConfirm_eases hst hc _ _

theorem takeAck_eases (i : SlotId) (q : Bool) : Eases s (s.takeAck i q) := by
  unfold State.takeAck
  split
  · exact Eases.refl s
  · exact ((Eases.refl s).frameDone i).modLink i _

theorem takeMalformed_eases (i : SlotId) (k : LinkKind) (tag : BitVec 3) : Eases s (s.takeMalformed i k tag) := by
  unfold State.takeMalformed
  split
  · exact Eases.refl s
  · dsimp only
    split
    · exact (Eases.refl s).frameDone i
    · exact (((Eases.refl s).frameDone i).modLink i _).report _ _ _ _ _

theorem Sound.takeFrame_eases (h : Sound nobody s) (i : SlotId) (f : RxFrame) : Eases s (s.takeFrame i f) := by
  unfold State.takeFrame
  split
  · exact h.takeHello_eases _ _ _ _ _
  · exact h.takeAsk_eases _ _ _ _ _
  · exact h.takeYield_eases _ _ _
  · exact h.takeWithdraw_eases _ _
  · exact h.takeRenew_eases _ _
  · exact h.takeConfirm_eases _ _ _
  · exact takeAck_eases _ _
  · exact takeMalformed_eases _ _ _
  · exact (Eases.refl s).frameDone i

theorem Sound.receive_eases (h : Sound nobody s) (i : SlotId) (b : Byte) : Eases s (s.receive i b) := by
  have hg := h.gapEvent i
  unfold State.receive
  dsimp only
  have ha := hg.setLink id _ ((hg.holds i id).ok.link.afterByte b)
  have hease := ((Eases.refl s).gapEvent i).modLink i (Link.afterByte (receiveByte ((s.gapEvent i).slot i).link.asm b).1)
  split
  · exact hease
  · exact hease.trans (ha.takeFrame_eases _ _)

theorem Sound.receiveAll_eases (h : Sound nobody s) (i : SlotId) (l : List Byte) : Eases s (Machine.receiveAll i l s) := by
  induction l generalizing s with
  | nil => exact Eases.refl s
  | cons b l ih => exact (h.receive_eases i b).trans (ih (h.receive i b))

end

end Sys2Proof.Proofs
end

/-! What a fall of A orders covers the shortfall (R146, R147, R152, R153, R154). -/
section
namespace Sys2Proof.Proofs

open Machine Safety Laws

section
variable {s u t : State} {i : SlotId} {new : List Victim} {cuts : List CutEntry} {amount sum : Nat}

theorem nodup_of_takenInOrder {p : SlotId → Prop} {l : List SlotId} (h : TakenInOrder s p l) : l.Nodup :=
  h.1.imp fun hb he => by
    subst he
    exact shedBefore_asymm hb hb

/-- A slot that can give is ACTIVE, under no reclaim and charged with its held draw (R145). -/
theorem Formed.giving (h : Formed u) {below : Nat} (hg : 0 < canGive u below i) :
    (u.slot i).state = .active ∧ (u.slot i).reclaim = none ∧ ∀ c, (u.slot i).card = some c → (u.slot i).charge = c.heldDraw := by
  unfold canGive at hg
  split at hg
  · rename_i c hc
    split at hg
    · rename_i hcond
      obtain ⟨hst, hr, -⟩ := hcond
      refine ⟨hst, hr, fun c' hc' => ?_⟩
      exact (((h.holds i).active hst hc').free hr).1
    · exact absurd hg (Nat.lt_irrefl _)
  · exact absurd hg (Nat.lt_irrefl _)

/-- Every new victim is a slot that can give (R145). -/
theorem canGive_of_mem (h : ShedChoice u 4 amount new) {v : Victim} (hv : v ∈ new) : 0 < canGive u 4 v.slot := by
  obtain ⟨-, heligible, -⟩ := h.order
  exact heligible v.slot (List.mem_map_of_mem hv)

/-- The episode record between the choice of victims and the cut tier (R146). -/
def withVictims (e : Episode) (new : List Victim) : Episode := { e with victims := e.victims ++ new }

theorem expected_withVictims (e : Episode) (new : List Victim) : (withVictims e new).expected = e.expected + (new.map Victim.remaining).sum := by
  simp only [withVictims, Episode.expected, List.map_append, List.sum_append]
  omega

/-- New victims come from neither list (R144, R145). -/
theorem nodup_withVictims (h : ShedChoice u 4 amount new) (hu : Formed u) :
    ((withVictims u.episode new).victims.map Victim.slot ++ (withVictims u.episode new).cuts.map CutEntry.slot).Nodup := by
  have hnew : ∀ v ∈ new, (∀ w ∈ u.episode.victims, w.slot ≠ v.slot) ∧ ∀ x ∈ u.episode.cuts, x.slot ≠ v.slot := fun v hv => by
    obtain ⟨hst, hr, -⟩ := hu.giving (canGive_of_mem h hv)
    exact ⟨(hu.holds v.slot).noVictim hr, (hu.holds v.slot).noCut_of_active hst⟩
  have hp : ((u.episode.victims ++ new).map Victim.slot ++ u.episode.cuts.map CutEntry.slot).Perm
      (new.map Victim.slot ++ (u.episode.victims.map Victim.slot ++ u.episode.cuts.map CutEntry.slot)) := by
    rw [List.map_append, ← List.append_assoc]
    exact List.perm_append_comm.append_right _
  refine hp.nodup_iff.mpr (List.nodup_append.mpr ⟨nodup_of_takenInOrder h.order, hu.lists.shed, fun a ha b hb hab => ?_⟩)
  obtain ⟨v, hv, rfl⟩ := List.mem_map.mp ha
  rcases List.mem_append.mp hb with hb | hb
  · obtain ⟨w, hw, rfl⟩ := List.mem_map.mp hb
    exact (hnew v hv).1 w hw hab.symm
  · obtain ⟨x, hx, rfl⟩ := List.mem_map.mp hb
    exact (hnew v hv).2 x hx hab.symm

/-- Victims old and new are counted with no more than their charge (R146, R148). -/
theorem remaining_le_charge (h : ShedChoice u 4 amount new) (hu : Formed u) {v : Victim} (hv : v ∈ (withVictims u.episode new).victims) :
    v.remaining ≤ (u.slot v.slot).charge := by
  rcases List.mem_append.mp hv with hv | hv
  · obtain ⟨c, r, -, -, -, -, hr⟩ := (hu.holds v.slot).victims v hv rfl
    omega
  · obtain ⟨c, hc, -, -, hr⟩ := h.entries v hv
    obtain ⟨-, -, hcharge⟩ := hu.giving (canGive_of_mem h hv)
    have := hcharge c hc
    unfold Card.heldDraw at this
    omega

/-- The gain of a cut tops up what is counted for the slot to its charge (R147). -/
theorem credit_add_gain_le (h : ShedChoice u 4 amount new) (hu : Formed u) (hx : ∀ x ∈ u.episode.cuts, x.slot ≠ i) :
    credit (withVictims u.episode new) i + tierGain u (u.episode.victims ++ new) i ≤ (u.slot i).charge := by
  have hn := nodup_withVictims h hu
  unfold tierGain
  rcases credit_cases hn i with h0 | ⟨v, hm, hi, he⟩ | ⟨x, hm, hi, -⟩
  · omega
  · have hfind : (u.episode.victims ++ new).find? (fun w => decide (w.slot = i)) = some v := by
      obtain ⟨w, hw⟩ := Option.isSome_iff_exists.mp
        (List.find?_isSome (p := fun w : Victim => decide (w.slot = i)) |>.mpr ⟨v, hm, by simpa using hi⟩)
      have hwi : w.slot = i := by simpa using List.find?_some hw
      exact hw.trans (congrArg some (List.inj_on_of_nodup_map (List.nodup_append.mp hn).1 (List.mem_of_find?_eq_some hw) hm (hwi.trans hi.symm)))
    have hle := remaining_le_charge h hu hm
    rw [hi] at hle
    rw [he, hfind]
    simp only [Option.map_some, Option.getD_some]
    omega
  · exact absurd hi (hx x hm)

/-- In every slot the credit grows by the gain of its cut (R147). -/
theorem credit_add_gains_le (hc : TierChoice u (u.episode.victims ++ new) amount sum cuts) (hv : ShedChoice u 4 amount new) (hu : Formed u)
    (ht : OverdraftChosen u t new cuts) (j : SlotId) :
    credit (withVictims u.episode new) j + ((cuts.filter (fun x => decide (x.slot = j))).map (fun x => tierGain u (u.episode.victims ++ new) x.slot)).sum
      ≤ credit t.episode j := by
  unfold credit
  rw [ht.victimList, ht.cutList]
  rcases filter_slot_cases (nodup_of_takenInOrder hc.order) j with ⟨hne, h0⟩ | ⟨x, hm, hj, h1⟩
  · have hkeep : ((u.episode.victims ++ new).filter (fun v => decide (v.slot ∉ cuts.map CutEntry.slot))).filter (fun v => decide (v.slot = j))
        = (u.episode.victims ++ new).filter (fun v => decide (v.slot = j)) := by
      rw [List.filter_filter]
      refine List.filter_congr fun v _ => ?_
      by_cases hvj : v.slot = j
      · have : v.slot ∉ cuts.map CutEntry.slot := fun hmem => by
          obtain ⟨x, hx, hxe⟩ := List.mem_map.mp hmem
          exact hne x hx (hxe.trans hvj)
        simp [hvj ▸ this, hvj]
      · simp [hvj]
    rw [hkeep, List.filter_append (l₁ := u.episode.cuts), h0]
    simp [withVictims]
  · obtain ⟨-, heligible, -⟩ := hc.order
    obtain ⟨-, hx⟩ := heligible x.slot (List.mem_map_of_mem hm)
    have hgain := credit_add_gain_le hv hu (i := x.slot) fun y hy hyx => hx (List.mem_map.mpr ⟨y, hy, hyx⟩)
    rw [List.filter_append (l₁ := u.episode.cuts), h1]
    simp only [List.map_append, List.map_cons, List.map_nil, List.sum_append, List.sum_cons, List.sum_nil, hc.counted x hm]
    unfold credit at hgain
    rw [hj] at hgain ⊢
    omega

/-- E grows by what victims and cuts give together (R146, R147). -/
theorem expected_le_chosen (hc : TierChoice u (u.episode.victims ++ new) amount sum cuts) (hv : ShedChoice u 4 amount new) (hu : Formed u)
    (ht : OverdraftChosen u t new cuts) :
    u.episode.expected + (new.map Victim.remaining).sum + (cuts.map (fun x => tierGain u (u.episode.victims ++ new) x.slot)).sum
      ≤ t.episode.expected := by
  rw [← expected_withVictims, expected_eq_sum, expected_eq_sum, sum_by_slot CutEntry.slot, ← Finset.sum_add_distrib]
  exact Finset.sum_le_sum fun j _ => credit_add_gains_le hc hv hu ht j

/-- Where the cut tier has taken every slot it can, none is powered any more (R147). -/
theorem unpowered_of_exhausted (hv : ShedChoice u 4 amount new) (hu : Formed u) (ht : OverdraftChosen u t new cuts)
    (hall : ∀ j : SlotId, (u.slot j).powered = true → j ∉ u.episode.cuts.map CutEntry.slot → j ∈ cuts.map CutEntry.slot) (j : SlotId) :
    (t.slot j).powered = false := by
  by_cases hj : j ∈ cuts.map CutEntry.slot
  · obtain ⟨x, hx, rfl⟩ := List.mem_map.mp hj
    simp [Slot.powered, (ht.cutting x hx).1]
  · have hup : (u.slot j).powered = false := by
      by_contra hp
      rw [Bool.not_eq_false] at hp
      refine hj (hall j hp fun hmem => ?_)
      obtain ⟨x, hx, hxj⟩ := List.mem_map.mp hmem
      exact (hu.holds j).noCut hp x hx hxj
    rw [ht.others j (fun hmem => ?_) hj]
    · exact hup
    · obtain ⟨v, hvn, rfl⟩ := List.mem_map.mp hmem
      obtain ⟨hst, -⟩ := hu.giving (canGive_of_mem hv hvn)
      simp [Slot.powered, hst] at hup

/-- An opening, an enlargement and a takeover order what is missing, or all there is (R152, R153, R154). -/
theorem covered_of_overdraftTaken (h : OverdraftTaken u t) (hu : Formed u) : OverdraftCovered t := fun _ => by
  obtain ⟨new, cuts, hv, hc, ht⟩ := h.chosen
  have hK : t.committed = u.committed := by
    rw [State.committed_eq_sum, State.committed_eq_sum]
    exact Finset.sum_congr rfl fun j _ => h.charges j
  have hA : t.available = u.available := (congrArg State.available h.rest :)
  rcases hc.reaches with hr | hall
  · left
    have := expected_le_chosen hc hv hu ht
    have := h.target
    omega
  · exact .inr (unpowered_of_exhausted hv hu ht hall)

/-- What a fall of A does (R14, R17). -/
theorem Formed.overdrawn_covered (h : Formed u) (hk : u.episode.kind = .overdraft → u.available < u.committed) : OverdraftCovered u.overdrawn := by
  by_cases hlt : u.available < u.committed
  · exact covered_of_overdraftTaken (h.overdraftTaken hlt) h
  · rw [overdrawn_of_le (Nat.le_of_not_lt hlt)]
    exact fun hc => absurd (hk hc) hlt

end

end Sys2Proof.Proofs
end

/-! Every command and the tick leave an OVERDRAFT covered (O43). -/
section
namespace Sys2Proof.Proofs

open Machine Safety Laws

section
variable {s t u : State} {i : SlotId} {c : Card}

theorem Alike.eases (ha : Alike s u) (hA : s.available ≤ u.available) : Eases s u := (Eases.refl s).slots ha.episode hA ha.slot

/-! The configuration fields (R41 to R46, R107). -/

theorem Eases.modConfig (h : Eases s u) (i : SlotId) (f : SlotConfig → SlotConfig) : Eases s (u.modConfig i f) := h.keep i _ le_rfl rfl

theorem writeClass_eases (i : SlotId) (k : Nat) : Eases s (s.writeClass i k) := by
  have hease := (Eases.refl s).modConfig i (fun c => { c with cls := k })
  unfold State.writeClass State.reclassEntry
  dsimp only
  split
  · exact hease
  · split
    · exact hease
    · exact (hease.setWait _).followUp

theorem Eases.dropAboveCap (h : Eases s u) (i : SlotId) (top : Nat) : Eases s (u.dropAboveCap i top) := by
  unfold State.dropAboveCap
  split
  · exact h
  · split
    · exact h
    · split
      · exact ((h.dropEntry _ _).noticeDropped _).followUp
      · exact h

/-- A slot under reclaim holds no entry that its new cap could stand in the way of (R44, R125). -/
theorem Sound.setCap (h : Sound nobody s) (hst : (s.slot i).state = .active) (hc : (s.slot i).card = some c) {r : Reclaim}
    (hr : (s.slot i).reclaim = some r) {cap : Nat} (hcap : 1 ≤ cap ∧ cap ≤ 1023) (h0 : c.draw 0 ≤ cap) :
    Sound nobody (s.modSlot i (capped cap c)) := by
  have hh := h.holds i id
  have ha := (h.toCore.apart i).modSlot (capped cap c)
  have hslot : (s.modSlot i (capped cap c)).slot i = capped cap c (s.slot i) := State.modSlot_slot_same _ _ _
  exact ha.stands h id (hh.capped hst hc ha (((hh.active hst hc).capped hcap h0).ok hst) hslot
    (fun e he hi => absurd hi (hh.noEntry_of_reclaim hst hr e he)) (fun _ => id) (fun _ => id)) (by rw [hslot]; rfl)

theorem Sound.writeCap_eases (h : Sound nobody s) (i : SlotId) {cap : Nat} (hcap : 1 ≤ cap ∧ cap ≤ 1023)
    (h0 : ∀ c, (s.slot i).state = .active → (s.slot i).card = some c → c.draw 0 ≤ cap) : Eases s (s.writeCap i cap) := by
  by_cases hst : (s.slot i).state = .active
  · obtain ⟨c, hact⟩ := (slotOk_active hst).mp (h.holds i id).ok
    have hease := (Eases.refl s).keep i (capped cap c) le_rfl rfl
    rw [writeCap_active hst hact.card]
    split
    · cases hr : (s.slot i).reclaim with
      | none =>
        have hr' : ((s.modSlot i (capped cap c)).slot i).reclaim = none := by rw [State.modSlot_slot_same]; exact hr
        rw [State.reclaimTo, hr']
        exact hease.startReclaim i _ _
      | some r =>
        exact hease.trans ((h.setCap hst hact.card hr hcap (h0 c hst hact.card)).reclaimTo_eases (i := i) id
          (by rw [State.modSlot_slot_same]; exact hst) (by rw [State.modSlot_slot_same]; rfl) _ _)
    · exact hease.dropAboveCap i _
  · have he : s.writeCap i cap = s.modConfig i (fun c => { c with cap := cap }) := by
      unfold State.writeCap
      exact if_neg (by rw [State.modConfig, State.modSlot_slot_same]; exact hst)
    rw [he]
    exact (Eases.refl s).modConfig i _

theorem writeOverride_eases (i : SlotId) (o : Option Nat) : Eases s (s.writeOverride i o) := by
  have hease := (Eases.refl s).modConfig i (fun c => { c with floorOverride := o })
  unfold State.writeOverride
  dsimp only
  split
  · exact hease.keep i _ le_rfl rfl
  · exact hease

/-! The other commands (R112, R121, R166, R168). -/

theorem Sound.hostReclaim_eases (h : Sound nobody s) {g : Half} (hc : s.checkReclaim g i = .ok) : Eases s (s.hostReclaim i g.toNat) := by
  unfold State.checkReclaim at hc
  unfold State.hostReclaim
  split
  · split at hc
    · exact h.reclaimTo_eases id ‹_› ‹_› _ _
    · cases hc
  · exact Eases.refl s

theorem dropWaiting_eases (i : SlotId) : Eases s (s.dropWaiting i) := by
  unfold State.dropWaiting
  split
  · exact Eases.refl s
  · split
    · exact (((Eases.refl s).dropEntry _ _).noticeDropped _).followUp
    · exact ((Eases.refl s).keep i _ le_rfl rfl).endAdmitting i _ rfl

theorem writePolicy_eases (mode limit preempt : Half) : Eases s (s.writePolicy mode limit preempt) :=
  Eases.followUp (eases_of_slots rfl le_rfl (fun _ => le_rfl) fun _ => id)

theorem dropForRestart_eases (l : List WaitEntry) : Eases s (dropForRestart l s) := by
  induction l generalizing s with
  | nil => exact Eases.refl s
  | cons e l ih =>
    unfold dropForRestart
    refine Eases.trans ?_ ih
    split
    · exact Eases.endEpisode _ _
    · exact ((Eases.refl s).removeEntry _).report _ _ _ _ _

/-- The cuts of a RESTART, one slot after the other (R168). -/
theorem Restarting.cuts_eases (l : List SlotId) (h : Restarting (admittingIn s) s u) (hw : u.waitList = []) (r : CutReason) :
    Eases u (l.foldl (fun s i => s.cutIfPowered i r) u) := by
  induction l generalizing u with
  | nil => exact Eases.refl u
  | cons i l ih =>
    obtain ⟨h1, h2⟩ := h.cut hw i r
    exact ((Eases.refl u).cutIfPowered (h.sound.credit_le i) r).trans (ih h1 h2)

theorem startAdmissions_eases (l : List SlotId) : Eases s (l.foldl (fun s i => s.startAdmission i) s) := by
  induction l generalizing s with
  | nil => exact Eases.refl s
  | cons i l ih => exact ((Eases.refl s).startAdmission i).trans ih

theorem Sound.restart_eases (h : Sound nobody s) : Eases s s.restart := by
  have hc := dropForRestart_cleared (s := s) rfl h.lists.slots
  have hno : ∀ j, ∀ e ∈ (dropForRestart s.waitList s).waitList, e.slot ≠ j := by rw [hc.empty]; nofun
  have hcleared : Restarting (admittingIn s) s (dropForRestart s.waitList s).followUp :=
    ⟨(hc.core h).followUp, frameCounter_of_rest ((State.rest_followUp _).trans hc.rest), fun j _ =>
      (State.followUp_slot_noEntry (hno j)).trans (hc.slot j)⟩
  have hw : (dropForRestart s.waitList s).followUp.waitList = [] := List.eq_nil_iff_forall_not_mem.mpr fun e he =>
    State.followUp_noEntry (hno e.slot) e he rfl
  exact ((dropForRestart_eases s.waitList).followUp.trans (hcleared.cuts_eases slotIds hw .restart)).trans (startAdmissions_eases _)

/-! The changes of C and H (R13 to R17). -/

theorem Sound.fallen_covered (h : Sound nobody s) (ha : Alike s u) (hA : u.available ≤ s.available) : OverdraftCovered u.overdrawn :=
  (h.alike_formed ha).overdrawn_covered fun hk => hA.trans_lt (by rw [ha.committed]; exact h.settled (ha.episode ▸ hk))

theorem Sound.changeCapacity_covered (h : Sound nobody s) (hs : OverdraftCovered s) (n : Nat) : OverdraftCovered (s.changeCapacity n) := by
  obtain ⟨u, ha, hA, he⟩ := changeCapacity_cases s n
  have hav : s.available = s.capacity - s.reserve := rfl
  rw [he]
  split
  · exact h.fallen_covered ha (by omega)
  · split
    · exact (ha.eases (by omega)).followUp.covered hs
    · exact (ha.eases (by omega)).covered hs

theorem Sound.srcEvent_covered (h : Sound nobody s) (hs : OverdraftCovered s) : OverdraftCovered s.srcEvent := by
  unfold State.srcEvent
  split
  · exact (h.alike (u := { s with src := Debounce.rest _ }) ⟨rfl, rfl, rfl, rfl, rfl⟩ rfl).changeCapacity_covered hs _
  · exact hs

theorem Sound.writeProfile_covered (h : Sound nobody s) (hs : OverdraftCovered s) (p : Fin 4) (n : Nat) : OverdraftCovered (s.writeProfile p n) := by
  have hw : Sound nobody (profileWritten s p n) := h.alike ⟨rfl, rfl, rfl, rfl, rfl⟩ rfl
  have hc : OverdraftCovered (profileWritten s p n) := hs
  unfold State.writeProfile
  dsimp only
  split
  · exact hw.changeCapacity_covered hc n
  · exact hc

theorem Sound.writeReserve_covered (h : Sound nobody s) (hs : OverdraftCovered s) (n : Nat) : OverdraftCovered (s.writeReserve n) := by
  have ha : Alike s (reserveWritten s n) := ⟨rfl, rfl, rfl, rfl, rfl⟩
  have hav : s.available = s.capacity - s.reserve := rfl
  have hu : (reserveWritten s n).available = s.capacity - n := rfl
  change OverdraftCovered (if n < s.reserve then (reserveWritten s n).followUp
    else if s.reserve < n then (reserveWritten s n).overdrawn else reserveWritten s n)
  split
  · exact (ha.eases (by omega)).followUp.covered hs
  · split
    · exact h.fallen_covered ha (by omega)
    · exact (ha.eases (by omega)).covered hs

/-! The Command Unit (R164). -/

theorem result_eases (code : Nat) (named : Option SlotId) (res : ResultCode) (p0 : Half) : Eases s (s.result code named res p0) :=
  (Eases.refl s).append _

theorem Sound.slotCommand_eases (h : Sound nobody s) (code : Nat) (p0 : Half) (check : SlotId → ResultCode) (act : SlotId → State → State)
    (ha : ∀ i u, check i = .ok → Sound nobody u → Alike s u → Eases u (act i u)) : Eases s (s.slotCommand code p0 check act) := by
  unfold State.slotCommand
  split
  · exact result_eases _ _ _ _
  · dsimp only
    split
    · exact (result_eases _ _ _ _).trans (ha _ _ ‹_› (h.result _ _ _ _) ((Alike.mk rfl rfl rfl rfl rfl).append _))
    · exact result_eases _ _ _ _

theorem Sound.configCommand_eases (h : Sound nobody s) (p0 : Half) (inside : Bool) (act : SlotId → State → State)
    (ha : ∀ i u, inside = true → Sound nobody u → Eases u (act i u)) : Eases s (s.configCommand p0 inside act) :=
  h.slotCommand_eases _ _ _ _ fun i u hc hu _ => ha i u (by by_contra hn; rw [if_neg hn] at hc; cases hc) hu

theorem Sound.configField_eases (h : Sound nobody s) (p0 : Half) (inside : Bool) (f : SlotConfig → SlotConfig) :
    Eases s (s.configCommand p0 inside (fun i s => s.modConfig i f)) :=
  h.configCommand_eases _ _ _ fun i u _ _ => (Eases.refl u).modConfig i f

theorem Sound.takeHead_covered (h : Sound nobody s) (hs : OverdraftCovered s) (cmd : Instr) : OverdraftCovered (s.takeHead cmd) := by
  unfold State.takeHead
  rcases takeCommand_cases s cmd _ with ⟨-, e⟩ | ⟨-, e⟩ <;> rw [e]
  · exact hs
  have h : Sound nobody s.popCommand := h.alike ⟨rfl, rfl, rfl, rfl, rfl⟩ rfl
  have hs : OverdraftCovered s.popCommand := hs
  cases cmd with
  | slotConfigEnabled p0 v =>
    refine (h.configCommand_eases _ _ _ fun i u _ hu => ?_).covered hs
    split
    · exact (Eases.refl u).enableSlot i
    · exact (Eases.refl u).disableSlot (hu.credit_le i)
  | slotConfigClass p0 v => exact (h.configCommand_eases _ _ _ fun i _ _ _ => writeClass_eases i _).covered hs
  | slotConfigCap p0 v =>
    exact (h.slotCommand_eases _ _ _ _ fun i u hv hu ha => hu.writeCap_eases i (checkCap_range hv) fun c hst hcard =>
      checkCap_draw hv (ha.slot i ▸ hst) (ha.slot i ▸ hcard)).covered hs
  | slotConfigAdmissionCharge p0 v => exact (h.configField_eases _ _ _).covered hs
  | slotConfigLease p0 v => exact (h.configField_eases _ _ _).covered hs
  | slotConfigSettle p0 v => exact (h.configField_eases _ _ _).covered hs
  | slotConfigDischarge p0 v => exact (h.configField_eases _ _ _).covered hs
  | slotConfigHelloTimeout p0 v => exact (h.configField_eases _ _ _).covered hs
  | slotConfigReplyWindow p0 v => exact (h.configField_eases _ _ _).covered hs
  | slotConfigReclaimWindow p0 v => exact (h.configField_eases _ _ _).covered hs
  | slotConfigFloorOverride p0 v => exact (h.configCommand_eases _ _ _ fun i _ _ _ => writeOverride_eases i _).covered hs
  | slotConfigUnknownField p0 f v => exact (h.configCommand_eases _ _ _ fun _ u _ _ => Eases.refl u).covered hs
  | enable p0 => exact (h.slotCommand_eases _ _ _ _ fun i u _ _ _ => (Eases.refl u).enableSlot i).covered hs
  | disable p0 => exact (h.slotCommand_eases _ _ _ _ fun i u _ hu _ => (Eases.refl u).disableSlot (hu.credit_le i)).covered hs
  | restore p0 => exact (h.slotCommand_eases _ _ _ _ fun i u _ _ _ => (Eases.refl u).restoreSlot i).covered hs
  | reclaim p0 g =>
    refine (h.slotCommand_eases _ _ _ _ fun i u hv hu ha => hu.hostReclaim_eases ?_).covered hs
    unfold State.checkReclaim at hv ⊢
    rw [ha.slot]
    exact hv
  | dropWait p0 => exact (h.slotCommand_eases _ _ _ _ fun i _ _ _ _ => dropWaiting_eases i).covered hs
  | setProfile index capacity =>
    show OverdraftCovered (s.popCommand.runSetProfile index capacity)
    unfold State.runSetProfile
    split
    · split
      · exact (h.result _ _ _ _).writeProfile_covered ((result_eases _ _ _ _).covered hs) _ _
      · exact (result_eases _ _ _ _).covered hs
    · exact (result_eases _ _ _ _).covered hs
  | setReserve amount force =>
    show OverdraftCovered (s.popCommand.runSetReserve amount force)
    unfold State.runSetReserve
    dsimp only
    split
    · exact (h.result _ _ _ _).writeReserve_covered ((result_eases _ _ _ _).covered hs) _
    · exact (result_eases _ _ _ _).covered hs
  | setPolicy mode limit preempt =>
    show OverdraftCovered (s.popCommand.runSetPolicy mode limit preempt)
    unfold State.runSetPolicy
    split
    · exact ((result_eases _ _ _ _).trans (writePolicy_eases _ _ _)).covered hs
    · exact (result_eases _ _ _ _).covered hs
  | restart => exact ((result_eases _ _ _ _).trans (h.result _ _ _ _).restart_eases).covered hs
  | unknownCommandCode code p0 => exact (result_eases _ _ _ _).covered hs
  | _ => exact hs

theorem Sound.takeHeads_covered (h : Sound nobody s) (hs : OverdraftCovered s) (n : Nat) : OverdraftCovered (Machine.takeHeads n s) := by
  induction n generalizing s with
  | zero => exact hs
  | succ n ih =>
    unfold Machine.takeHeads
    split
    · rename_i cmd hcmd
      obtain ⟨e, -, rfl⟩ := Option.map_eq_some_iff.mp hcmd
      exact ih (h.takeHead (commandEntry_entryCommand e)) (h.takeHead_covered hs _)
    · exact hs

/-! The tick (log entry 2). -/

theorem Sound.settleSlots_eases (h : Sound nobody s) (l : List SlotId) : Eases s (l.foldl (fun s i => s.settleSlot i) s) := by
  induction l generalizing s with
  | nil => exact Eases.refl s
  | cons i l ih =>
    rw [List.foldl_cons]
    exact (h.settleSlot_eases i).trans (ih (h.settleSlot i))

theorem Sound.settleAll_covered (h : Sound nobody s) (hs : OverdraftCovered s) : OverdraftCovered s.settleAll := by
  have hsrc := h.srcEvent_covered hs
  have hslots := (h.srcEvent.settleSlots_eases slotIds).covered hsrc
  unfold State.settleAll
  exact Sound.takeHeads_covered (h.srcEvent.settleSlots slotIds) hslots s.cmdQueue.length

/-- The count moves timers and samples pins. -/
theorem count_eases (src1 src0 : Bool) (pres : BitVec 8) (line : LineActivity) : Eases s (s.count src1 src0 pres line) := by
  have hb := count_base s src1 src0 pres line
  have hslot := count_slot s src1 src0 pres line
  generalize s.count src1 src0 pres line = t at hb hslot
  have he : t.episode = s.episode := (congrArg State.episode hb :)
  have hA : t.available = s.available := (congrArg State.available hb :)
  refine eases_of_slots he hA.ge (fun j => ?_) fun j => ?_
  · rw [hslot]; exact le_rfl
  · rw [hslot, powered_congr (t := s.slot j) rfl]; exact id

/-! All commands. -/

theorem write_eases (a : BitVec 6) (v : Half) : Eases s (s.write a v) := by
  unfold State.write
  split
  case h_6 =>
    unfold State.pushCommand
    split <;> exact Alike.eases ⟨rfl, rfl, rfl, rfl, rfl⟩ le_rfl
  all_goals exact Alike.eases ⟨rfl, rfl, rfl, rfl, rfl⟩ le_rfl

theorem exec_covered {c : Instr} (h : Sound nobody s) (hs : OverdraftCovered s) (he : exec c s = .next t) : OverdraftCovered t := by
  cases hc : commandEntry c with
  | some e =>
    rw [exec_takeHead (by rw [hc]; rfl)] at he
    rw [← Host.Outcome.next.inj he]
    exact h.takeHead_covered hs c
  | none =>
    cases hw : writeOf c with
    | some w =>
      have ht : t = s.write w.1 w.2 := by
        cases c with
        | registerWrite a v => obtain ⟨a, _ | _⟩ := a <;> cases hw; exact (Host.Outcome.next.inj he).symm
        | _ => first | (cases hw; exact (Host.Outcome.next.inj he).symm) | cases hw
      rw [ht]
      exact (write_eases _ _).covered hs
    | none =>
      have hn := Eases.refl s
      cases c with
      | pinReset => cases he; exact nofun
      | tick a b p l => cases he; exact (count_eases _ _ _ _).covered (h.settleAll_covered hs)
      | srcDebounceTaken => cases he; exact h.srcEvent_covered hs
      | arrivalOfPresence i => cases he; exact (hn.arrivalEvent i).covered hs
      | lossOfPresence i => cases he; exact (hn.lossEvent (h.credit_le i)).covered hs
      | switchFault i => cases he; exact (hn.cutIfPowered (h.credit_le i) _).covered hs
      | settleTimerExpiry i => cases he; exact (hn.settleEvent i).covered hs
      | helloTimerExpiry i => cases he; exact (hn.helloEvent (h.credit_le i)).covered hs
      | cutCompletion i => cases he; exact (hn.dischargeEvent (h.credit_le i)).covered hs
      | leaseExpiry i => cases he; exact (h.leaseEvent_eases id).covered hs
      | reclaimWindowExpiry i => cases he; exact (hn.windowEvent i).covered hs
      | frameStart i => cases he; exact (h.frameEvent_eases id).covered hs
      | replyWindowExpiry i => cases he; exact (hn.replyEvent (h.credit_le i)).covered hs
      | gapTimerExpiry i => cases he; exact (hn.gapEvent i).covered hs
      | frameAbandoned i cause => cases he; split; exacts [(hn.frameDone i).covered hs, hs]
      | linkFrameDiscarded i f => cases he; split; exacts [hs, (hn.frameDone i).covered hs]
      | malformed i k tag p => cases he; split; exacts [hs, (takeMalformed_eases i k tag).covered hs]
      | hello i tag d f ds => cases he; exact (h.takeHello_eases i tag d f ds).covered hs
      | ask i tag a f fl => cases he; exact (h.takeAsk_eases i tag a f fl).covered hs
      | yield i tag g => cases he; exact (h.takeYield_eases i tag g).covered hs
      | withdraw i tag => cases he; exact (h.takeWithdraw_eases i tag).covered hs
      | renew i tag => cases he; exact (h.takeRenew_eases i tag).covered hs
      | confirm i tag g => cases he; exact (h.takeConfirm_eases i tag g).covered hs
      | ack i q => cases he; exact (takeAck_eases i q).covered hs
      | frameTransmitted i => cases he; exact (hn.modLink i _).covered hs
      | syncReceived i l => cases he; exact (h.receiveAll_eases i _).covered hs
      | registerWrite a v =>
        obtain ⟨a, _ | _⟩ := a
        · cases hw
        · cases he; exact hs
      | _ => first | (cases hc; done) | cases hw

end

/-- Settles O43: a fall of A orders what is missing or cuts all there is; every other operation leaves K less E no higher in each slot. -/
theorem overdraftStaysCovered : Obligations.OverdraftStaysCovered := by
  intro s t hs hc h
  cases hp : s.pending with
  | nil =>
    rw [step_of_idle hp] at h
    cases h
    exact hc
  | cons c rest =>
    rw [step_of_pending hp] at h
    exact exec_covered ((sound_of_blockInv hs).alike (u := { s with pending := rest }) ⟨rfl, rfl, rfl, rfl, rfl⟩ rfl) hc h

end Sys2Proof.Proofs
end

/-! Register writes and the flags of the Host Window (O46, O48). -/
section
namespace Sys2Proof.Proofs

open Machine Safety

section
variable (s : State)

/-- A write to a register that 12.2 gives no write is ignored (R159). -/
theorem registerWrite_ignored {a : BitVec 6} (h : a ∉ [0x03, 0x04, 0x08, 0x09, 0x0A, 0x0B, 0x15, 0x20, 0x21]) (v : Half) :
    exec (.registerWrite ⟨a, false⟩ v) s = .next s := by
  refine congrArg Host.Outcome.next (?_ : s.write a v = s)
  simp only [List.mem_cons, List.not_mem_nil, or_false, ← BitVec.toNat_inj, BitVec.reduceToNat] at h
  unfold State.write
  split
  case h_10 => rfl
  all_goals exfalso; omega

/-- IRQ_ENABLE keeps bits 6:0 of what is written (R162; log entry 11). -/
theorem writeEnables_eq (v : Half) : s.writeEnables v = { s with irqEnable := v.extractLsb' 0 7 } := by
  unfold State.writeEnables
  rw [BitVec.setWidth_eq_extractLsb' (by decide)]

/-- The bits of STATUS (R160, 12.2). -/
theorem status_flags : s.status.getLsbD 0 = s.reportReady ∧ s.status.getLsbD 1 = s.episodeOpen ∧ s.status.getLsbD 2 = s.slotLocked
    ∧ s.status.getLsbD 3 = s.cmdFull ∧ s.status.toNat < 16 := fourFlags _ _ _ _

theorem episodeOpen_iff : s.episodeOpen = true ↔ s.episode.kind ≠ .none := by simp [State.episodeOpen]

theorem reportReady_iff : s.reportReady = true ↔ s.reports ≠ [] := by simp [State.reportReady]

theorem cmdFull_iff : s.cmdFull = true ↔ 4 ≤ s.cmdQueue.length := decide_eq_true_iff

variable {s} {k : Nat}

/-- STATUS stands under enables 3:0 (12.2). -/
theorem flags_status (hk : k < 4) : s.flags.getLsbD k = s.status.getLsbD k := by
  refine (BitVec.getLsbD_append (x := s.events.setWidth 3) (y := s.status.setWidth 4)).trans ?_
  rw [if_pos hk, BitVec.getLsbD_setWidth, decide_eq_true hk, Bool.true_and]

/-- EVENTS stands under enables 6:4 (12.2). -/
theorem flags_events (hk : k < 3) : s.flags.getLsbD (4 + k) = s.events.getLsbD k := by
  refine (BitVec.getLsbD_append (x := s.events.setWidth 3) (y := s.status.setWidth 4)).trans ?_
  rw [if_neg (by omega), Nat.add_sub_cancel_left, BitVec.getLsbD_setWidth, decide_eq_true hk, Bool.true_and]

/-- IRQ# is low while a flag and its enable are 1 (R162). -/
theorem irqLow_iff : s.irqLow = true ↔ ∃ k < 7, s.irqEnable.getLsbD k = true ∧ s.flags.getLsbD k = true := by
  have hbits : s.flags &&& s.irqEnable = 0 ↔ ∀ k < 7, (s.flags &&& s.irqEnable).getLsbD k = false :=
    ⟨fun h _ _ => by rw [h]; exact BitVec.getLsbD_zero, fun h => BitVec.eq_of_getLsbD_eq fun k hk => (h k hk).trans BitVec.getLsbD_zero.symm⟩
  rw [State.irqLow, decide_eq_true_iff, Ne, hbits]
  simp only [BitVec.getLsbD_and, not_forall, Bool.not_eq_false, Bool.and_eq_true, exists_prop, and_comm (a := s.irqEnable.getLsbD _ = true)]

/-- The seven flags are the four of STATUS and the three of EVENTS (12.2). -/
theorem exists_flag_iff (p : Nat → Prop) : (∃ k < 7, p k ∧ s.flags.getLsbD k = true) ↔
    (∃ k < 4, p k ∧ s.status.getLsbD k = true) ∨ ∃ k < 3, p (4 + k) ∧ s.events.getLsbD k = true := by
  constructor
  · rintro ⟨k, hk, hp, hf⟩
    by_cases h4 : k < 4
    · exact .inl ⟨k, h4, hp, flags_status h4 ▸ hf⟩
    · obtain ⟨j, rfl⟩ := Nat.exists_eq_add_of_le (Nat.not_lt.mp h4)
      have hj : j < 3 := by omega
      exact .inr ⟨j, hj, hp, flags_events hj ▸ hf⟩
  · rintro (⟨k, hk, hp, hf⟩ | ⟨k, hk, hp, hf⟩)
    · exact ⟨k, by omega, hp, (flags_status hk).trans hf⟩
    · exact ⟨4 + k, by omega, hp, (flags_events hk).trans hf⟩

end

/-- Settles O46: the writes with a row of their own unfold to it, and every other address falls through `State.write`. -/
theorem registerWrites : Obligations.RegisterWrites := fun s v =>
  ⟨rfl, congrArg Host.Outcome.next (writeEnables_eq s v), rfl, rfl, rfl, rfl, rfl, rfl,
    fun _ ha => registerWrite_ignored s ha v, fun _ => rfl⟩

/-- Settles O48: the bits of STATUS are its four conditions, and IRQ# sees the seven flags bit by bit. -/
theorem flagsAndInterrupt : Obligations.FlagsAndInterrupt := by
  intro s
  obtain ⟨ready, opened, locked, full, hlt⟩ := status_flags s
  refine ⟨?_, ?_, ?_, fun hlen => ?_, hlt, registerWrite_ignored s (by decide), ?_, fun v t ht k hk => ?_,
    fun t ht => ?_⟩
  · exact ready ▸ reportReady_iff s
  · exact opened ▸ episodeOpen_iff s
  · exact locked ▸ slotLocked_iff s
  · change s.status.getLsbD 3 = true ↔ _
    rw [full, cmdFull_iff]
    omega
  · exact irqLow_iff.trans (exists_flag_iff _)
  · cases ht
    change (v.setWidth 7).getLsbD k = _
    simp [hk]
  · cases ht
    exact ⟨rfl, irqLow_reset.1⟩

end Sys2Proof.Proofs
end

/-! The command queue (O45). -/
section
namespace Sys2Proof.Proofs

open Machine Safety

section
variable {s : State} {e : CmdEntry}

/-- Where there is room a write of CMD_CODE pushes the code with the parameters (R163). -/
theorem pushCommand_of_room (h : s.cmdQueue.length < 4) (code : Half) :
    s.pushCommand code = { s with cmdQueue := s.cmdQueue ++ [{ code := code, p0 := s.cmdP0, p1 := s.cmdP1, p2 := s.cmdP2 }] } := if_pos h

/-- A full queue discards the write and sets CMD_OVERRUN (R163). -/
theorem pushCommand_of_full (h : 4 ≤ s.cmdQueue.length) (code : Half) : s.pushCommand code = { s with cmdOverrun := true } := if_neg (by simpa)

/-- Commands with one parameter at most ignore the other two (R163, 12.2). -/
theorem entryCommand_ignores_p1_p2 (h : e.code.toNat ∈ [2, 3, 4, 6, 10]) (p1 p2 : Half) :
    entryCommand { e with p1 := p1, p2 := p2 } = entryCommand e := by
  simp only [List.mem_cons, List.not_mem_nil, or_false] at h
  rcases h with h | h | h | h | h <;> simp only [entryCommand, h]

/-- Commands with two parameters ignore the third (R163, 12.2). -/
theorem entryCommand_ignores_p2 (h : e.code.toNat ∈ [5, 7, 8]) (p2 : Half) : entryCommand { e with p2 := p2 } = entryCommand e := by
  simp only [List.mem_cons, List.not_mem_nil, or_false] at h
  rcases h with h | h | h <;> simp only [entryCommand, h]

end

/-- Settles O45: the push by the room in the queue, and the taking by O51. -/
theorem commandPush : Obligations.CommandPush := by
  intro s code value
  refine ⟨fun h => congrArg Host.Outcome.next (pushCommand_of_room h code), fun h => congrArg Host.Outcome.next (pushCommand_of_full h code),
    rfl, rfl, rfl, fun h => half_toNat (by omega), fun h t ht => ?_, fun c t e h ht => ?_,
    fun e p1 p2 => ⟨fun h => entryCommand_ignores_p1_p2 h p1 p2, fun h => entryCommand_ignores_p2 h p2⟩, fun t ht => ?_⟩
  · have hpush : s.pushCommand code = t := Host.Outcome.next.inj ht
    rw [pushCommand_of_room (by omega)] at hpush
    obtain ⟨-, -, -, full, -⟩ := status_flags t
    change t.status.getLsbD 3 = true
    rw [full, cmdFull_iff, ← hpush]
    simp [h]
  · obtain ⟨u, hu, hq, -⟩ := takenCommandLeavesResult s c e h
    rwa [Host.Outcome.next.inj (ht.symm.trans hu)]
  · cases ht
    rfl

end Sys2Proof.Proofs
end

/-! What a snapshot latches: the records there are, and the write that names none (O59). -/
section
namespace Sys2Proof.Proofs

open Machine Safety Laws

/-- The records that the tables hold (R171, 12.5). -/
inductive IsRecord (s : State) : Vector Half 8 → Prop
  | live (i : SlotId) : IsRecord s (s.slot i).liveRecord
  | config (i : SlotId) : IsRecord s ((s.slot i).cfg.record ((s.slot i).card.map Card.effFloor))
  | steps (i : SlotId) (c : Card) (hc : (s.slot i).card = some c) : IsRecord s c.record
  | wait (e : WaitEntry) (he : e ∈ s.waitList) : IsRecord s e.record
  | header : IsRecord s s.episodeHeader
  | victim (v : Victim) (hv : v ∈ s.episode.victims) : IsRecord s v.record
  | cut (x : CutEntry) (hx : x ∈ s.episode.cuts) : IsRecord s x.record
  | profile (p : Fin 4) : IsRecord s (s.profileRecord p)
  | recency : IsRecord s s.recencyRecord

section
variable {s t : State} {index : Half} {r : Vector Half 8}

/-! What each table holds (R171). -/

theorem slotTable_isRecord {k : Nat} (h : s.slotTable k = some r) : IsRecord s r := by
  unfold State.slotTable at h
  split at h
  · cases h
    exact .live _
  · split at h
    · cases h
      exact .config _
    · cases h

theorem stepTable_isRecord {k : Nat} (h : s.stepTable k = some r) : IsRecord s r := by
  unfold State.stepTable at h
  split at h
  · obtain ⟨c, hc, rfl⟩ := Option.map_eq_some_iff.mp h
    exact .steps _ c hc
  · cases h

theorem waitTable_isRecord {k : Nat} (h : s.waitTable k = some r) : IsRecord s r := by
  unfold State.waitTable at h
  split at h
  · cases h
  · obtain ⟨e, he, rfl⟩ := Option.map_eq_some_iff.mp h
    exact .wait e (List.mem_of_getElem? he)

theorem episodeTable_isRecord {k : Nat} (h : s.episodeTable k = some r) : IsRecord s r := by
  unfold State.episodeTable at h
  split at h
  · cases h
    exact .header
  · split at h
    · obtain ⟨v, hv, rfl⟩ := Option.map_eq_some_iff.mp h
      exact .victim v (List.mem_of_getElem? hv)
    · split at h
      · obtain ⟨x, hx, rfl⟩ := Option.map_eq_some_iff.mp h
        exact .cut x (List.mem_of_getElem? hx)
      · cases h

theorem profileTable_isRecord {k : Nat} (h : s.profileTable k = some r) : IsRecord s r := by
  unfold State.profileTable at h
  split at h
  · cases h
    exact .profile _
  · cases h

theorem recencyTable_isRecord {k : Nat} (h : s.recencyTable k = some r) : IsRecord s r := by
  unfold State.recencyTable at h
  split at h
  · cases h
    exact .recency
  · cases h

/-- What is selected is a record (R170, R171). -/
theorem selected_isRecord (h : s.selected index = some r) : IsRecord s r := by
  unfold State.selected at h
  split at h
  · exact slotTable_isRecord h
  · exact stepTable_isRecord h
  · exact waitTable_isRecord h
  · exact episodeTable_isRecord h
  · exact profileTable_isRecord h
  · exact recencyTable_isRecord h
  · cases h

/-! The indices at which each table holds a record (R171). -/

theorem slotTable_isSome (k : Nat) : (s.slotTable k).isSome = decide (k ≤ 15) := by
  unfold State.slotTable
  split
  · exact (decide_eq_true (by omega)).symm
  · split
    · exact (decide_eq_true (by omega)).symm
    · exact (decide_eq_false (by omega)).symm

theorem waitTable_isSome (k : Nat) : (s.waitTable k).isSome = (decide (1 ≤ k) && decide (k ≤ s.waitList.length)) := by
  unfold State.waitTable
  split
  · subst k
    rfl
  · rw [Bool.eq_iff_iff, Option.isSome_map, isSome_getElem?, Bool.and_eq_true, decide_eq_true_iff, decide_eq_true_iff]
    omega

theorem episodeTable_isSome (k : Nat) : (s.episodeTable k).isSome =
    (decide (k = 0) || (decide (1 ≤ k) && decide (k ≤ 8) && decide (k ≤ s.episode.victims.length))
      || (decide (9 ≤ k) && decide (k ≤ 16) && decide (k - 8 ≤ s.episode.cuts.length))) := by
  rw [Bool.eq_iff_iff]
  simp only [Bool.or_eq_true, Bool.and_eq_true, decide_eq_true_iff]
  unfold State.episodeTable
  split
  · exact iff_of_true rfl (by omega)
  · split
    · rw [Option.isSome_map, isSome_getElem?]
      omega
    · split
      · rw [Option.isSome_map, isSome_getElem?]
        omega
      · exact iff_of_false nofun (by omega)

theorem profileTable_isSome (k : Nat) : (s.profileTable k).isSome = decide (k ≤ 3) := by
  unfold State.profileTable
  split
  · exact (decide_eq_true (by omega)).symm
  · exact (decide_eq_false (by omega)).symm

theorem stepTable_isSome (k : Nat) : (s.stepTable k).isSome = if h : k < 8 then (s.slot ⟨k, h⟩).card.isSome else false := by
  unfold State.stepTable
  split
  · exact Option.isSome_map
  · rfl

theorem recencyTable_isSome (k : Nat) : (s.recencyTable k).isSome = decide (k = 0) := by
  unfold State.recencyTable
  split
  · exact (decide_eq_true ‹_›).symm
  · exact (decide_eq_false ‹_›).symm

/-- A record is selected exactly where R171 has one. -/
theorem selected_isSome (s : State) (index : Half) : (s.selected index).isSome = recordExists s s.tableSel index := by
  unfold State.selected recordExists
  rcases s.tableSel.toNat with _ | _ | _ | _ | _ | _ | _
  · exact slotTable_isSome _
  · exact stepTable_isSome _
  · exact waitTable_isSome _
  · exact episodeTable_isSome _
  · exact profileTable_isSome _
  · exact recencyTable_isSome _
  · rfl

theorem selected_eq_none_iff : s.selected index = none ↔ recordExists s s.tableSel index = false := by
  rw [← selected_isSome, Option.isSome_eq_false_iff, Option.isNone_iff_eq_none]

/-! The records whose layout O60 does not state. -/

theorem selected_profile {p : Fin 4} (h4 : s.tableSel.toNat = 4) (hi : index.toNat = p.val) : s.selected index = some (s.profileRecord p) := by
  unfold State.selected State.profileTable
  rw [h4, hi]
  exact dif_pos p.isLt

theorem selected_recency (h5 : s.tableSel.toNat = 5) (hi : index = 0) : s.selected index = some s.recencyRecord := by
  unfold State.selected
  rw [h5, hi]
  rfl

theorem selected_victim {v : Victim} (h3 : s.tableSel.toNat = 3) (h1 : 1 ≤ index.toNat) (h8 : index.toNat ≤ 8)
    (hv : s.episode.victims[index.toNat - 1]? = some v) : s.selected index = some v.record := by
  unfold State.selected State.episodeTable
  rw [h3]
  refine (if_neg (by omega)).trans ((if_pos h8).trans ?_)
  rw [hv]
  rfl

theorem selected_cut {x : CutEntry} (h3 : s.tableSel.toNat = 3) (h9 : 9 ≤ index.toNat) (h16 : index.toNat ≤ 16)
    (hx : s.episode.cuts[index.toNat - 9]? = some x) : s.selected index = some x.record := by
  unfold State.selected State.episodeTable
  rw [h3]
  refine (if_neg (by omega)).trans ((if_neg (by omega)).trans ((if_pos h16).trans ?_))
  rw [hx]
  rfl

/-- A profile record (R12, 12.5). -/
theorem profileRecord_layout {p : Fin 4} (hp : s.profiles[p] ≤ 4095) (ht : t.tableData = s.profileRecord p) :
    (t.read 0x28).toNat = s.profiles[p] ∧ (t.read 0x29).toNat = if p = s.src.value then 1 else 0 := by
  obtain ⟨r0, r1, -⟩ := read_latched ht
  rw [r0, r1]
  refine ⟨half_toNat (by omega), (half_toNat ((bit_le _).trans_lt (by decide))).trans ?_⟩
  simp [bit]

/-- The recency list, 15 behind its end (R91, 12.5). -/
theorem recencyRecord_layout (ht : t.tableData = s.recencyRecord) (k : Fin 8) :
    (t.tableData[k]).toNat = ((s.recency.map Fin.val)[k.val]?).getD 15 := by
  have hk : t.tableData[k] = half (match s.recency[k.val]? with
      | some i => i.val
      | none => 15) := by
    rw [ht]
    exact Vector.getElem_ofFn k.isLt
  rw [hk, List.getElem?_map]
  cases s.recency[k.val]? with
  | none => rfl
  | some i => exact half_toNat (n := i.val) (by omega)

/-- A victim (R148, 12.5). -/
theorem victimRecord_layout (h : Sound nobody s) {v : Victim} (hv : v ∈ s.episode.victims) (ht : t.tableData = v.record) :
    (t.read 0x28).toNat = v.slot.val ∧ (t.read 0x29).toNat = v.target ∧ (t.read 0x2A).toNat = v.remaining := by
  obtain ⟨r0, r1, r2, -⟩ := read_latched ht
  rw [r0, r1, r2]
  have hh := h.holds v.slot id
  obtain ⟨c, r, -, hr, htarget, -, hrem⟩ := hh.victims v hv rfl
  have htarget5 := hh.ok.reclaimRanges.target r hr
  have hcharge := hh.ok.charge_le
  exact ⟨half_toNat (by omega), half_toNat (by omega), half_toNat (by omega)⟩

/-- A cut counted into E (R148, 12.5). -/
theorem cutRecord_layout (h : Sound nobody s) {x : CutEntry} (hx : x ∈ s.episode.cuts) (ht : t.tableData = x.record) :
    (t.read 0x28).toNat = x.slot.val ∧ (t.read 0x29).toNat = x.counted := by
  obtain ⟨r0, r1, -⟩ := read_latched ht
  rw [r0, r1]
  have hh := h.holds x.slot id
  obtain ⟨-, hcounted⟩ := hh.cuts x hx rfl
  have hcharge := hh.ok.charge_le
  exact ⟨half_toNat (by omega), half_toNat (by omega)⟩

/-- TABLE_DATA0 of a record is not 0xFFFF (R170): the class, the slot, a kind or a figure keeps one of its bits 0. -/
theorem IsRecord.data0_ne (hr : IsRecord s r) (h : Sound nobody s) (hf : FiguresForm s) (ht : t.tableData = r) : t.read 0x28 ≠ 0xFFFF := by
  obtain ⟨hprofiles, -, -, -, hlimit⟩ := hf
  intro he
  have hall : (t.read 0x28).toNat = 65535 := congrArg BitVec.toNat he
  cases hr with
  | live i =>
    obtain ⟨-, -, -, -, -, -, -, -, -, -, -, -, htop, -⟩ := liveRecord_layout (h.holds i id).ok ht
    rw [he] at htop
    exact absurd htop (by decide)
  | config i =>
    obtain ⟨hlow, -⟩ := configRecord_layout (h.holds i id).ok ht
    have hcls := ((configFits_iff _).mp (h.holds i id).ok.cfg).cls
    rw [he] at hlow
    rw [← hlow] at hcls
    exact absurd hcls (by decide)
  | steps i c hc =>
    obtain ⟨-, -, -, -, -, -, htop, -⟩ := stepTable_layout ((h.holds i id).ok.cardShape hc) ht
    have htop0 : (t.read 0x28).getLsbD 15 = false := htop 0
    rw [he] at htop0
    exact absurd htop0 (by decide)
  | wait e hm =>
    obtain ⟨-, -, -, -, -, -, -, -, hbit, -⟩ := waitEntry_layout h hm ht
    rw [he] at hbit
    exact absurd hbit (by decide)
  | header =>
    obtain ⟨hkind, -⟩ := episodeHeader_layout h hlimit ht
    rw [hall] at hkind
    cases hk : s.episode.kind <;> (rw [hk] at hkind; cases hkind)
  | victim v hv =>
    obtain ⟨hslot, -⟩ := victimRecord_layout h hv ht
    omega
  | cut x hx =>
    obtain ⟨hslot, -⟩ := cutRecord_layout h hx ht
    omega
  | profile p =>
    have hp : s.profiles[p] ≤ 4095 := hprofiles p
    obtain ⟨hfigure, -⟩ := profileRecord_layout hp ht
    omega
  | recency =>
    have hhead := recencyRecord_layout ht 0
    change (t.read 0x28).toNat = _ at hhead
    rw [hall, List.getElem?_map] at hhead
    cases hq : s.recency[(0 : Fin 8).val]? with
    | none => rw [hq] at hhead; exact absurd hhead (by decide)
    | some i => rw [hq] at hhead; exact absurd hhead (Nat.ne_of_gt (i.isLt.trans (by decide)))

/-! The latch. -/

/-- Every snapshot row is a write of TABLE_INDEX (R170; log entry 6). -/
theorem exec_snapshot {c : Instr} (hc : c ∈ [.slotRecordSnapshot index, .stepTableSnapshot index, .waitEntrySnapshot index,
    .episodeRecordSnapshot index, .profileSnapshot index, .recencyListSnapshot index, .tableIndexWriteNoTable index]) :
    exec c s = .next (s.writeIndex index) := by
  simp only [List.mem_cons, List.not_mem_nil, or_false] at hc
  rcases hc with rfl | rfl | rfl | rfl | rfl | rfl | rfl <;> rfl

/-- Where no record is selected, 0xFFFF and zeros are latched (R170). -/
theorem writeIndex_latches_noRecord (hr : s.selected index = none) : (s.writeIndex index).tableData = noRecord := by
  change (s.selected index).getD noRecord = noRecord
  rw [hr]
  rfl

/-- What `noRecord` reads as. -/
theorem read_noRecord (ht : t.tableData = noRecord) :
    t.read 0x28 = 0xFFFF ∧ ∀ a ∈ ([0x29, 0x2A, 0x2B, 0x2C, 0x2D, 0x2E, 0x2F] : List (BitVec 6)), t.read a = 0 := by
  obtain ⟨r0, r1, r2, r3, r4, r5, r6, r7⟩ := read_latched ht
  refine ⟨r0, fun a ha => ?_⟩
  simp only [List.mem_cons, List.not_mem_nil, or_false] at ha
  rcases ha with rfl | rfl | rfl | rfl | rfl | rfl | rfl
  exacts [r1, r2, r3, r4, r5, r6, r7]

end

/-- Settles O59: the latch holds the record selected, or what a missing one latches, and no record begins with 0xFFFF. -/
theorem snapshotLatch : Obligations.SnapshotLatch := by
  intro s index c hs hc
  obtain ⟨-, -, -, hf, h⟩ := (blockInv_iff s).mp hs
  have missing (he : recordExists s s.tableSel index = false) := read_noRecord (writeIndex_latches_noRecord (selected_eq_none_iff.mpr he))
  refine ⟨s.writeIndex index, exec_snapshot hc, rfl, rfl, ⟨fun hall => ?_, fun he => (missing he).1⟩, fun he => (missing he).2,
    fun h4 p hi => ?_, fun h5 hi k => ?_, fun h3 v h1 h8 hv => ?_, fun h3 x h9 h16 hx => ?_⟩
  · refine selected_eq_none_iff.mp (by_contra fun hne => ?_)
    obtain ⟨r, hr⟩ := Option.ne_none_iff_exists'.mp hne
    exact (selected_isRecord hr).data0_ne h hf (writeIndex_latches hr rfl) hall
  · exact profileRecord_layout (hf.1 p) (writeIndex_latches (selected_profile h4 hi) rfl)
  · exact recencyRecord_layout (writeIndex_latches (selected_recency h5 hi) rfl) k
  · exact victimRecord_layout h (List.mem_of_getElem? hv) (writeIndex_latches (selected_victim h3 h1 h8 hv) rfl)
  · exact cutRecord_layout h (List.mem_of_getElem? hx) (writeIndex_latches (selected_cut h3 h9 h16 hx) rfl)

end Sys2Proof.Proofs
end

/-! The report queue: what an append leaves of the records held, and REPORT_POP (O7, O49). -/
section
namespace Sys2Proof.Proofs

open Machine Safety

/-! The table of R176, row by row. -/

section
variable {s : State} {front : List Report} {x : Report}

theorem tailIsGap_eq_false (h : ∀ x, s.reports.getLast? = some x → x.kind ≠ .gap) : tailIsGap s.reports = false := by
  cases hg : tailIsGap s.reports with
  | false => rfl
  | true =>
    obtain ⟨front, x, hq, hk⟩ := eq_front_concat hg
    exact absurd hk (h x (by rw [hq, List.getLast?_concat]))

/-- The last place goes to a GAP of count 1, and GAP_SEEN is set (R176). -/
theorem append_of_lastPlace (h : 31 ≤ s.reports.length) (hg : tailIsGap s.reports = false) (r : Report) :
    s.append r = { s with reports := s.reports ++ [chipReport .gap 1 0 0], gapSeen := true } := by
  unfold State.append
  rw [if_neg (show ¬ s.reports.length < Config.reportLimit from Nat.not_lt.mpr h), hg]
  rfl

/-- A loss is counted into the GAP at the tail (R176, R177). -/
theorem append_of_gapTail (h : 31 ≤ s.reports.length) (hq : s.reports = front ++ [x]) (hx : x.kind = .gap) (r : Report) :
    s.append r = { s with reports := front ++ [{ x with a := gapCount x.a }] } := by
  unfold State.append
  rw [if_neg (show ¬ s.reports.length < Config.reportLimit from Nat.not_lt.mpr h), hq, if_pos (by rw [tailIsGap_concat, hx]; rfl), countLoss_concat]
  rfl

/-- The count of a GAP saturates at 65535 (R177). -/
theorem gapCount_eq (a : Half) : gapCount a = if a = 0xFFFF then 0xFFFF else a + 1 := by
  unfold gapCount Config.maxGap
  by_cases h : a = 0xFFFF
  · rw [h]; rfl
  · rw [if_neg h, if_pos (by bv_omega)]

/-- A count that has saturated stays, and every other rises (R177). -/
theorem le_gapCount (a : Half) : a.toNat ≤ (gapCount a).toNat := by
  unfold gapCount Config.maxGap
  split
  · bv_omega
  · exact le_rfl

/-- The 32nd place is a GAP's: an append leaves at most 32 records, and a GAP at the tail of 32 (R176). -/
theorem append_keepsLastPlace (hlen : s.reports.length ≤ 32) (hfull : s.reports.length = 32 → tailIsGap s.reports = true) (r : Report) :
    (s.append r).reports.length ≤ 32 ∧ ((s.append r).reports.length = 32 → tailIsGap (s.append r).reports = true) := by
  rcases append_cases s r with ⟨h, hr, -⟩ | ⟨-, hg, hr, -⟩ | ⟨-, hg, hr, -⟩
  · have hl : (s.append r).reports.length = s.reports.length + 1 := by rw [hr, List.length_append, List.length_singleton]
    exact ⟨by omega, fun _ => by omega⟩
  · obtain ⟨front, x, hq, hk⟩ := eq_front_concat hg
    rw [hr, hq, countLoss_concat, tailIsGap_concat]
    exact ⟨by simpa [hq] using hlen, fun _ => decide_eq_true hk⟩
  · have hl : s.reports.length ≠ 32 := fun h => Bool.false_ne_true (hg.symm.trans (hfull h))
    rw [hr, List.length_append, List.length_singleton, tailIsGap_concat]
    exact ⟨by omega, fun _ => rfl⟩

end

/-! REPORT_POP (R179). -/

section
variable {s : State} {r : Report} {rest : List Report}

theorem exec_reportPop (hq : s.reports = r :: rest) : exec .reportPop s = .next { s with reports := rest } := by
  change Host.Outcome.next { s with reports := s.reports.tail } = _
  rw [hq, List.tail_cons]

theorem exec_reportPop_empty (hq : s.reports = []) : exec .reportPop s = .next s := by
  change Host.Outcome.next { s with reports := s.reports.tail } = _
  rw [hq, List.tail_nil, ← hq]

/-- The head command can be taken once fewer than 24 reports are held (R164). -/
theorem canTake_of_headCommand {c : Instr} (hc : s.headCommand = some c) (hlen : s.reports.length < 24) : s.canTake c = true := by
  simp [State.canTake, hc, Config.throttle, hlen]

end

/-- Settles O49: the rows of R176's table, and the pop of a queue with a head and of an empty one. -/
theorem reportQueueAppendAndPop : Obligations.ReportQueueAppendAndPop := by
  intro s
  refine ⟨fun r hlen => append_of_room hlen r, fun r hlen hg => append_of_lastPlace hlen.ge (tailIsGap_eq_false hg) r,
    fun r front x hlen hq hx => ?_, fun r rest hq => ⟨exec_reportPop hq, fun hrest t ht => ?_, fun c hc hlen t ht => ?_⟩,
    fun r hlen hfull => append_keepsLastPlace hlen hfull r, exec_reportPop_empty, rfl, fun _ => rfl⟩
  · rw [append_of_gapTail hlen hq hx r, gapCount_eq]
  · obtain rfl := Host.Outcome.next.inj ((exec_reportPop hq).symm.trans ht)
    obtain ⟨ready, -⟩ := status_flags { s with reports := rest }
    exact ready.trans (by rw [hrest]; rfl)
  · obtain rfl := Host.Outcome.next.inj ((exec_reportPop hq).symm.trans ht)
    exact canTake_of_headCommand (s := { s with reports := rest }) hc hlen

/-! What stands of the records once held, whatever is appended behind them (R174, R177). -/

/-- `q'` is `q`, but that the count of a GAP at its tail may have risen. -/
def Recounted (q q' : List Report) : Prop :=
  q' = q ∨ ∃ front r n, q = front ++ [r] ∧ r.kind = .gap ∧ r.a.toNat ≤ BitVec.toNat n ∧ q' = front ++ [{ r with a := n }]

/-- The records of `q` stand at the front of `p`, but for the count of a GAP at the tail of `q`. -/
def StandIn (q p : List Report) : Prop := ∃ q', Recounted q q' ∧ q' <+: p

section
variable {q q' p p' front : List Report} {r : Report}

namespace Recounted

theorem length_eq (h : Recounted q q') : q'.length = q.length := by
  rcases h with rfl | ⟨front, r, n, rfl, -, -, rfl⟩
  · rfl
  · rw [List.length_append, List.length_append]; rfl

theorem dropLast_eq (h : Recounted q q') : q'.dropLast = q.dropLast := by
  rcases h with rfl | ⟨front, r, n, rfl, -, -, rfl⟩
  · rfl
  · rw [List.dropLast_concat, List.dropLast_concat]

/-- A tail that is no GAP has no count to rise. -/
theorem eq_of_tail (h : Recounted q q') (hr : q.getLast? = some r) (hk : r.kind ≠ .gap) : q' = q := by
  rcases h with rfl | ⟨front, x, n, rfl, hx, -, -⟩
  · rfl
  · rw [List.getLast?_concat] at hr
    exact absurd (Option.some.inj hr ▸ hx) hk

/-- A GAP at the tail has a count at least as high. -/
theorem concat (h : Recounted (front ++ [r]) q') : ∃ n : Half, r.a.toNat ≤ n.toNat ∧ q' = front ++ [{ r with a := n }] := by
  rcases h with rfl | ⟨front', x, n, hq, -, hn, rfl⟩
  · exact ⟨r.a, le_rfl, rfl⟩
  · obtain ⟨rfl, rfl⟩ := List.append_singleton_inj.mp hq
    exact ⟨n, hn, rfl⟩

/-- One more loss is counted into the tail (R177). -/
theorem countLoss (h : Recounted q (front ++ [r])) (hr : r.kind = .gap) : Recounted q (front ++ [{ r with a := gapCount r.a }]) := by
  rcases h with rfl | ⟨front', x, n, rfl, hx, hn, hq⟩
  · exact .inr ⟨front, r, _, rfl, hr, le_gapCount r.a, rfl⟩
  · obtain ⟨rfl, rfl⟩ := List.append_singleton_inj.mp hq
    exact .inr ⟨front, x, _, rfl, hx, hn.trans (le_gapCount n), rfl⟩

end Recounted

theorem StandIn.refl (q : List Report) : StandIn q q := ⟨q, .inl rfl, List.prefix_rfl⟩

theorem StandIn.behind (h : StandIn q p) (hp : p <+: p') : StandIn q p' := by
  obtain ⟨q', hq, hpre⟩ := h
  exact ⟨q', hq, hpre.trans hp⟩

/-- A loss counted at the tail leaves every record before the tail, and of the tail all but its count (R177). -/
theorem StandIn.countLoss (h : StandIn q p) (hg : tailIsGap p = true) : StandIn q (countLoss p) := by
  obtain ⟨q', hq, hpre⟩ := h
  obtain ⟨front, r, rfl, hr⟩ := eq_front_concat hg
  rw [countLoss_concat]
  rcases List.prefix_concat_iff.mp hpre with rfl | hfront
  · exact ⟨_, hq.countLoss hr, List.prefix_rfl⟩
  · exact ⟨q', hq, hfront.trans (List.prefix_append _ _)⟩

theorem StandIn.append {s : State} (h : StandIn q s.reports) (r : Report) : StandIn q (s.append r).reports := by
  rcases append_cases s r with ⟨-, hr, -⟩ | ⟨-, hg, hr, -⟩ | ⟨-, -, hr, -⟩ <;> rw [hr]
  · exact h.behind (List.prefix_append _ _)
  · exact h.countLoss hg
  · exact h.behind (List.prefix_append _ _)

end

/-! What the parts of a command leave of the records held. -/

section
variable {s u : State} {c : Instr} {e : CmdEntry} {q : List Report}

theorem Evolves.standIn (h : Evolves s u) (hq : StandIn q s.reports) : StandIn q u.reports := by
  induction h with
  | refl => exact hq
  | append _ r _ ih => exact ih.append r
  | modSlot _ _ _ _ ih => exact ih
  | setWait _ _ ih => exact ih
  | setEpisode _ _ ih => exact ih
  | setRecency _ _ ih => exact ih

theorem srcEvent_standIn (h : StandIn q s.reports) : StandIn q s.srcEvent.reports := by
  rcases srcEvent_cases s with ⟨-, he⟩ | ⟨v, -, hv⟩
  · rw [he]; exact h
  · exact hv.standIn h

/-- A command is taken while there is room for its RESULT as itself, so every record stands as it was (R164, R181). -/
theorem takeHead_reports_prefix_of_takes (h : TakesCommand s c e) : s.reports <+: (s.takeHead c).reports := by
  obtain ⟨t, ht, -, hp⟩ := takenCommandLeavesResult s c e h
  rw [Host.Outcome.next.inj ((exec_of_takes h).symm.trans ht)]
  exact (List.prefix_append _ _).trans hp

/-- A row that spells itself is spelled by an entry with the P0 that stands in CMD_P0 where it is RESTART (log entry 3). -/
theorem exists_pushedEntry (h : spellsItself c = true) (p0 : Half) : ∃ e, entryCommand e = c ∧ (c = .restart → e.p0 = p0) := by
  by_cases hr : c = .restart
  · exact ⟨{ code := 10, p0 := p0, p1 := 0, p2 := 0 }, hr ▸ rfl, fun _ => rfl⟩
  · obtain ⟨e, -, he⟩ := Option.map_eq_some_iff.mp (of_decide_eq_true h)
    exact ⟨e, he, fun hc => absurd hc hr⟩

/-- A command row over the queue's head, over an empty queue, or out of turn leaves every record as it was. -/
theorem takeHead_reports_prefix (s : State) (c : Instr) : s.reports <+: (s.takeHead c).reports := by
  cases ht : s.canTake c with
  | false => rw [takeHead_of_canTake_false ht]
  | true =>
    obtain ⟨hroom, hturn⟩ := Bool.and_eq_true_iff.mp ht
    have hlen : s.reports.length < 24 := of_decide_eq_true hroom
    cases hq : s.cmdQueue with
    | nil =>
      obtain ⟨e, he, hp⟩ := exists_pushedEntry (c := c) (by simpa [State.headCommand, hq] using hturn) s.cmdP0
      rw [takeHead_pushed he hp hq hlen]
      exact takeHead_reports_prefix_of_takes (s := { s with cmdQueue := [e] }) ⟨hlen, rfl, he⟩
    | cons e rest =>
      have he : entryCommand e = c := by simpa [State.headCommand, hq] using hturn
      exact takeHead_reports_prefix_of_takes ⟨hlen, by rw [hq]; rfl, he⟩

theorem takeHeads_reports_prefix (n : Nat) (s : State) : s.reports <+: (takeHeads n s).reports := by
  induction n generalizing s with
  | zero => exact List.prefix_rfl
  | succ n ih =>
    unfold takeHeads
    split
    · exact (takeHead_reports_prefix s _).trans (ih _)
    · exact List.prefix_rfl

theorem settleAll_standIn (h : StandIn q s.reports) : StandIn q s.settleAll.reports := by
  have hslots : Evolves s.srcEvent (slotIds.foldl (fun s i => s.settleSlot i) s.srcEvent) :=
    Evolves.refl.foldl slotIds _ fun _ i hv => hv.settleSlot i
  exact (hslots.standIn (srcEvent_standIn h)).behind (takeHeads_reports_prefix _ _)

/-- The count of a tick stores no report and takes none. -/
theorem count_reports (s : State) (src1 src0 : Bool) (pres : BitVec 8) (line : LineActivity) :
    (s.count src1 src0 pres line).reports = s.reports := by
  have hb := count_base s src1 src0 pres line
  generalize s.count src1 src0 pres line = t at hb ⊢
  exact (congrArg State.reports hb :)

/-- Of the registers only REPORT_POP acts on the queue (R159, R179). -/
theorem write_reports {a : BitVec 6} (ha : a ≠ 0x15) (v : Half) : (s.write a v).reports = s.reports := by
  unfold State.write
  split
  case h_6 => unfold State.pushCommand; split <;> rfl
  case h_7 h => exact absurd (BitVec.eq_of_toNat_eq h) ha
  all_goals rfl

/-- A command that writes REPORT_POP is a pop or a write to its address (12.2). -/
theorem writeOf_ne_reportPop {a : BitVec 6} {v : Half} (h : writeOf c = some (a, v)) (hp : c ≠ .reportPop)
    (hw : ∀ v, c ≠ .registerWrite ⟨0x15, false⟩ v) : a ≠ 0x15 := by
  rintro rfl
  cases c with
  | reportPop => exact hp rfl
  | registerWrite b w => obtain ⟨b, _ | _⟩ := b <;> cases h; exact hw _ rfl
  | _ => cases h

/-- No command but PIN_RESET and a pop takes a record out or changes one, but for the count of a GAP at the tail (R174, R177). -/
theorem exec_standIn {t : State} (h : exec c s = .next t) (hreset : c ≠ .pinReset) (hpop : c ≠ .reportPop)
    (hwrite : ∀ v, c ≠ .registerWrite ⟨0x15, false⟩ v) : StandIn s.reports t.reports := by
  by_cases htick : ∃ a b p l, c = .tick a b p l
  · obtain ⟨a, b, p, l, rfl⟩ := htick
    rw [← Host.Outcome.next.inj h, count_reports]
    exact settleAll_standIn (.refl _)
  · rcases exec_cases h hreset (fun a b p l hc => htick ⟨a, b, p, l, hc⟩) with hev | ⟨-, rfl⟩ | ⟨-, rfl⟩ | ⟨a, v, ha, rfl⟩
    · exact hev.standIn (.refl _)
    · exact (StandIn.refl _).behind (takeHead_reports_prefix s c)
    · exact srcEvent_standIn (.refl _)
    · rw [write_reports (writeOf_ne_reportPop ha hpop hwrite)]
      exact .refl _

end

/-- Settles O7: the records held stand at the front of the queue that follows, with the GAP at their tail recounted. -/
theorem onlyPopRemovesReports : Obligations.OnlyPopRemovesReports := by
  intro s t c h hreset hpop hwrite
  obtain ⟨q', hq, hpre⟩ := exec_standIn h hreset hpop hwrite
  refine ⟨hq.dropLast_eq ▸ (List.dropLast_prefix q').trans hpre, hq.length_eq ▸ hpre.length_le, fun r hr hk => hq.eq_of_tail hr hk ▸ hpre,
    fun front r hs _ => ?_⟩
  rw [hs] at hq
  obtain ⟨n, hn, rfl⟩ := hq.concat
  exact ⟨n, hn, hpre⟩

end Sys2Proof.Proofs
end
